-- ==== Sys2Proof/Word.lean ====
section
/-! DEFINITION. The word types of the TB4864: bytes, 32-bit registers (R6), bytes that carry a poison bit (R251). -/
namespace Sys2Proof

/-- A register or a core word (R6, R188). -/
abbrev Word := BitVec 32

/-- A byte of memory or of a message (R5). -/
abbrev Byte := BitVec 8

/-- A byte with its poison bit, as it travels on the network-on-chip (R251). -/
structure PByte where
  v : Byte
  p : Bool
  deriving DecidableEq, Repr

end Sys2Proof
end

