-- ==== Sys2Proof/Syntax.lean ====
section
/-! DEFINITION. The commands of the block: one constructor of `Instr` per row of the spec's table of operations, with
the operands that say where it strikes and what the outside brings with it. -/
namespace Sys2Proof

/-- The register file that a scalar load or store names (R203, class 0x4). -/
inductive RegFile where
  | g | a | s | w | o
  deriving DecidableEq, Repr

/-- The core that executes an instruction, and whether the instruction word holds a reserved class, opcode, cond value or
non-zero reserved field (R204): the spec numbers no opcodes, so the sender of the command says so. -/
structure Ins where
  core : Fin 144
  illegal : Bool
  deriving DecidableEq, Repr

/-- Address operand of a load or store (R193): address register, mode, offset in units of the access size. -/
structure AMode where
  a : Fin 16
  mode : Fin 8
  off : Int
  deriving DecidableEq, Repr

/-- A register of the G file or an immediate. -/
inductive GImm where
  | reg (r : Fin 32)
  | imm (v : Word)
  deriving DecidableEq, Repr

/-- What an ALU operation does with its sources: arithmetic, or a register move, which carries poison (R198). -/
inductive AluForm where
  | arith | move
  deriving DecidableEq, Repr

/-- The field that a move from an accumulator extracts (R200). -/
inductive AccForm where
  | h | w | l
  deriving DecidableEq, Repr

/-- Operands of a class 0x8 instruction (R228). -/
structure Vop where
  z : Bool
  vd : Fin 32
  vs1 : Fin 32
  vs2 : Fin 32
  pg : Fin 16
  esz : Fin 4
  deriving DecidableEq, Repr

/-- Operands of a class 0xB instruction (R223, R228). -/
structure Gop where
  vd : Fin 32
  vi : Fin 32
  a : Fin 16
  pg : Fin 16
  esz : Fin 4
  sh : Fin 4
  sx : Bool
  deriving DecidableEq, Repr

/-- The two forms of VLDFF (R226). -/
inductive FfForm where
  | contiguous (vd : Fin 32) (m : AMode) (pg : Fin 16) (esz : Fin 4)
  | gather (o : Gop)
  deriving DecidableEq, Repr

/-- Operands of a class 0x5 instruction (R202, R203). -/
structure Dual where
  ax : Fin 16
  xmode : Fin 8
  xoff : Int
  ay : Fin 16
  ymode : Fin 8
  yoff : Int
  deriving DecidableEq, Repr

/-- A bit error that a read of a memory meets (R246, R253, R254): the spec leaves their arrival to the world. -/
inductive Upset where
  | none | corrected | uncorrectable
  deriving DecidableEq, Repr

/-- One PRB block of a U-plane section (R90, R317). -/
structure PrbBlock where
  prb : Nat
  bytes : List Byte
  deriving DecidableEq, Repr

/-- What a received fronthaul frame carries (R314, R317). -/
inductive FrameKind where
  /-- eCPRI type 0, IQ data of one carrier symbol. -/
  | uplane (eaxc : Nat) (symRef : Word) (blocks : List PrbBlock)
  /-- eCPRI type 2, section type 1 or 3 (R314): the C-plane announces PRB start and count of a symbol. -/
  | cplane (eaxc : Nat) (symRef : Word) (prbStart prbCount : Nat)
  /-- eCPRI type 5, one-way delay measurement. -/
  | delay (body : List Byte)
  /-- another eCPRI type, or what R314 calls absent. -/
  | other
  /-- a management frame, ESMC among them (R313, R321). -/
  | mgmt (body : List Byte)
  deriving DecidableEq, Repr

/-- A received frame with its checks (R317); whether it carries an 802.1Q tag changes nothing (R314). -/
structure RxFrame where
  fcsOk : Bool
  fecOk : Bool
  kind : FrameKind
  deriving DecidableEq, Repr

/-- A span packet (R296, R297). -/
structure Packet where
  kind : Nat
  err : Bool
  hops : Nat
  src : Nat
  dst : Nat
  tag : Nat
  length : Nat
  address : Nat
  credits : Nat
  payload : List PByte
  deriving DecidableEq, Repr

/-- One received lane period: physical lane and the wire bits, in which the receiver finds the comma marker (R288), none where it did not
arrive whole (R285, R294). -/
structure LanePeriod where
  lane : Fin 5
  bits : Option (List Bool)
  deriving DecidableEq, Repr

/-- A PTP time: seconds and nanoseconds (R339). -/
structure PtpTime where
  sec : Nat
  ns : Nat
  deriving DecidableEq, Repr

/-- The dataset of an Announce message that best-master selection compares (R334). -/
structure Announce where
  domain : Nat
  identity : Nat
  priority1 : Nat
  clockClass : Nat
  accuracy : Nat
  variance : Nat
  priority2 : Nat
  steps : Nat
  tlv : List Byte
  deriving DecidableEq, Repr

/-- The messages that a PTP instance sends (R337). -/
inductive PtpKind where
  | announce | sync | delayReq
  deriving DecidableEq, Repr

/-- A unit of the power controller's work: one domain or the whole device (R364). -/
inductive PowerUnit where
  | dom (d : Fin 96)
  | device
  deriving DecidableEq, Repr

/-- A reading of an on-die sensor (R162, R427): signed Q8.8 degrees Celsius and its self-check. -/
structure Sensor where
  id : Fin 64
  temp : Int
  valid : Bool
  deriving DecidableEq, Repr

/-- What a start-up stage reports at its end (R403, R404). -/
structure StageEnd where
  /-- The stage failed, with this cause. -/
  failed : Option Nat
  /-- IMAGE: the active slot was rejected with this cause (R416), and the other slot taken. -/
  fallback : Option Nat
  /-- CONTROL: pair 0 failed its self-test. -/
  pair0Bad : Bool
  /-- CLUSTERS: bit c set where cluster c passed its built-in test. -/
  passed : BitVec 18
  deriving DecidableEq, Repr

/-- A relay device found by numbering, in breadth-first order (R307): the index of its parent, and the parent's link that leads to
it. -/
structure RelayDev where
  parent : Nat
  link : Nat
  deriving DecidableEq, Repr

/-- Where PTST finds the register whose poison bit it tests: a file, or the accumulators (R188, R198). -/
inductive TestFile where
  | file (f : RegFile)
  | acc
  deriving DecidableEq, Repr

/-- The interrupt arbitration of a core, with the inputs that arrive at it (R205). -/
structure IntArb where
  core : Fin 144
  arriving : Word
  deriving DecidableEq, Repr

/-- A predicate operand with the element width of its instruction (R214, R228). -/
structure PredEsz where
  p : Fin 16
  esz : Fin 4
  deriving DecidableEq, Repr

/-- An address operand with the governing predicate and element width of its instruction (R215, R228). -/
structure GovMode where
  m : AMode
  pg : Fin 16
  esz : Fin 4
  deriving DecidableEq, Repr

/-- The address register of a save area with the governing predicate and element width (R215, R229). -/
structure GovAddr where
  a : Fin 16
  pg : Fin 16
  esz : Fin 4
  deriving DecidableEq, Repr

/-- The governing predicate, the zeroing bit and the element width of a class 0x9 instruction (R228). -/
structure GovEsz where
  pg : Fin 16
  z : Bool
  esz : Fin 4
  deriving DecidableEq, Repr

/-- The count of a LOOP (R196). -/
abbrev LoopCount := GImm

/-- The commands, one constructor for each row of the spec's table, in its order. -/
inductive Instr where
  -- Drum (R26 to R51)
  | tickArrival (t : Nat)
  | tickHandling (sensors : List Sensor)
  | watchdogFire (item : Nat)
  | itemCompletion (item : Nat)
  | staleWrite (unit : Nat) (gen : Fin 16)
  | gatedItemStart (item : Nat)
  | lateResultDescriptor (grant : Nat)
  | transmissionReport (grant : Nat)
  | rejectedEnqueueRetry
  | drumEnable (v : Word)
  | drumDisable (v : Word)
  | drumFirstTick (t : Nat)
  | drumResume (t : Nat)
  | drumRealignment (t : Nat)
  -- host side of the mailboxes (R52 to R73)
  | mailboxDoorbell (n : Fin 64) (v : Word)
  | mailboxRelease (n : Fin 64) (v : Word)
  | nringConsumerWrite (v : Word)
  | notificationBacklogDrain
  | hostDiscardsClear (v : Word)
  | bar0WriteDiscard (off : Nat) (data : List Byte) (ep : Bool)
  | expertWindowAccess (off size : Nat) (wr : Option (List Byte)) (ep : Bool)
  | expertLeaseExpiry
  | relayHopTimeout (n : Fin 64) (hop : Nat)
  -- mailbox commands (R74 to R87 and the chapters of their subjects): Psiwyn takes the request of mailbox n
  | identify (n : Fin 64)
  | ping (n : Fin 64)
  | nringSetup (n : Fin 64)
  | msixMap (n : Fin 64)
  | levelSet (n : Fin 64)
  | expertAcquire (n : Fin 64)
  | expertRelease (n : Fin 64)
  | expertRead (n : Fin 64)
  | expertWrite (n : Fin 64)
  | expertClass (n : Fin 64)
  | functionExpertRead (n : Fin 64)
  | functionExpertWrite (n : Fin 64)
  | carrierAdd (n : Fin 64)
  | carrierRemove (n : Fin 64)
  | carrierQuery (n : Fin 64)
  | drumStart (n : Fin 64)
  | drumStop (n : Fin 64)
  | flowAdd (n : Fin 64)
  | flowRemove (n : Fin 64)
  | budgetSet (n : Fin 64)
  | cadenceBind (n : Fin 64)
  | cadenceUnbind (n : Fin 64)
  | clusterStatus (n : Fin 64)
  | clusterRetire (n : Fin 64)
  | clusterRepair (n : Fin 64)
  | clusterRepairTestEnd (c : Fin 18) (pass : Bool) (testStep : Word)
  | ethPortConfig (n : Fin 64)
  | ecpriFlowMap (n : Fin 64)
  | timebaseConfigure (n : Fin 64)
  | timebaseLoadEstimate (n : Fin 64)
  | timebaseSetTime (n : Fin 64)
  | timebaseTimeOfDay (n : Fin 64)
  | timeOfDayTimeout
  | ptpPortConfig (n : Fin 64)
  | timeStatus (n : Fin 64)
  | dacConfig (n : Fin 64)
  | spanLinkConfig (n : Fin 64)
  | relayEnumerate (n : Fin 64)
  | relayEnumerateDone (devs : List RelayDev)
  | eyeScan (n : Fin 64)
  | queueCreate (n : Fin 64)
  | queueDelete (n : Fin 64)
  | powerStateSet (n : Fin 64)
  | powerStatus (n : Fin 64)
  | lanternConfig (n : Fin 64)
  | eventMask (n : Fin 64)
  | snapshotRequest (n : Fin 64)
  | recorderRead (n : Fin 64)
  | fwStage (n : Fin 64)
  | fwStageDone (selfTest : Bool)
  | fwActivate (n : Fin 64)
  | probationEnd
  | debugUnlock (n : Fin 64)
  | debugUnlockExpiry
  -- control pairs and PCIe (R73, R327, R410, R411)
  | controlLockstepDisagree
  | controlMachineCheck (pair : Fin 2) (addr : Nat)
  | heartbeatTimeout
  | takeoverComplete
  | pairRecovery (pair : Fin 2) (pass : Bool)
  | pcieDomainReset
  | pcieEndpointReady
  | bar2Read (off len : Nat)
  | bar2Write (off : Nat) (data : List Byte) (ep : Bool)
  -- fronthaul (R311 to R322)
  | fronthaulRxFrame (port : Fin 33) (f : RxFrame)
  | uplaneTx (item : Nat)
  | synceSquelch (o : Fin 2)
  | portLinkChange (port : Fin 33) (up : Bool) (lock : BitVec 4) (an : Bool)
  -- engines (R129 to R153): the engine of cluster c computes its next command
  | apply (c : Fin 18)
  | apply2 (c : Fin 18)
  | gram (c : Fin 18)
  | chol (c : Fin 18)
  | solve (c : Fin 18)
  | ldpcDecode (c : Fin 18)
  | turboDecode (c : Fin 18)
  | ldpcTb (c : Fin 18)
  | turboTb (c : Fin 18)
  | polarDci (c : Fin 18)
  | polarPbch (c : Fin 18)
  | polarUciDec (c : Fin 18)
  | engineResultReturn (c : Fin 18) (tag : Fin 256)
  | lateError (c : Fin 18) (tag : Fin 256) (parity : Option Nat)
  | lateErrorPop (c : Fin 18) (k : Fin 8) (v : Word)
  | tagFree (c : Fin 18) (tag : Fin 256)
  -- Cupola (R230 to R241)
  | ciss (x : Ins) (r1 : Fin 32) (a : Fin 16) (eng : Fin 4) (h : Bool)
  | commitToken (c : Fin 18) (tag : Fin 256)
  | ccmt (x : Ins) (r2 : Fin 32)
  | ckil (x : Ins) (r2 : Fin 32)
  | ctstE (x : Ins) (eng : Fin 4)
  | ctstT (x : Ins) (r2 : Fin 32)
  | crkl (x : Ins) (r1 r2 : Fin 32)
  | systemQueueTake (c : Fin 18)
  | core0LockstepDisagree (c : Fin 18)
  | spareActivationDone (c : Fin 18) (pass : Bool)
  | retiredClusterDrained (c : Fin 18)
  -- scalar core (R187 to R211)
  | load (x : Ins) (file : RegFile) (size : Fin 4) (rd : Fin 32) (m : AMode)
  | store (x : Ins) (file : RegFile) (size : Fin 4) (rs : Fin 32) (m : AMode)
  | alu (x : Ins) (form : AluForm) (opc : BitVec 7) (func : BitVec 6) (rd rs1 rs2 : Fin 32)
  | aluImmediate (x : Ins) (form : AluForm) (opc : BitVec 7) (rd rs1 : Fin 32) (imm : BitVec 11)
  | compare (x : Ins) (opc : BitVec 7) (rs1 : Fin 32) (b : GImm)
  | mac (x : Ins) (acc : Fin 8) (rs1 rs2 : Fin 32) (frac wide : Bool) (halves : BitVec 2)
  | msu (x : Ins) (acc : Fin 8) (rs1 rs2 : Fin 32) (frac wide : Bool) (halves : BitVec 2)
  | cmac (x : Ins) (acc : Fin 8) (rs1 rs2 : Fin 32)
  | mva (x : Ins) (form : AccForm) (acc : Fin 8) (rd : Fin 32)
  | sta (x : Ins) (form : AccForm) (acc : Fin 8) (m : AMode)
  | expa (x : Ins) (acc : Fin 8) (rd : Fin 32)
  | clra (x : Ins) (acc : Fin 8)
  | bexpclr (x : Ins)
  | tapm (x : Ins) (acc : Fin 8) (o : Dual) (move : Int)
  | ld2 (x : Ins) (size : Fin 4) (rdx rdy : Fin 32) (o : Dual)
  | ldst (x : Ins) (size : Fin 4) (rd rs : Fin 32) (o : Dual)
  | branch (x : Ins) (cond : Fin 16) (disp : Int)
  | call (x : Ins) (cond : Fin 16) (disp : Int)
  | loop (x : Ins) (count : LoopCount) (last : Word)
  | lpsave (x : Ins) (a : Fin 16)
  | lprest (x : Ins) (a : Fin 16)
  | rti0 (x : Ins)
  | rti1 (x : Ins)
  | mfz (x : Ins) (rd : Fin 32) (off : Nat)
  | mtz (x : Ins) (rs : Fin 32) (off : Nat)
  | ptst (x : Ins) (file : TestFile) (rs : Fin 32)
  | wait (x : Ins)
  | sync (x : Ins)
  | interruptLevel0 (k : IntArb)
  | interruptLevel1 (k : IntArb)
  | storeBufferDrain (k : Fin 144)
  | coreRunStart (k : Fin 144) (v : Word)
  | coreRunStop (k : Fin 144) (v : Word)
  | coreTimerExpiry (k : Fin 144)
  | softInterruptSet (k : Fin 144) (v : Word)
  -- vector extension (R212 to R229)
  | vadds (x : Ins) (o : Vop)
  | vsubs (x : Ins) (o : Vop)
  | vabss (x : Ins) (o : Vop)
  | vnegs (x : Ins) (o : Vop)
  | vmulhr (x : Ins) (o : Vop)
  | vcmulhr (x : Ins) (o : Vop) (conj : Bool)
  | vshrr (x : Ins) (o : Vop) (amt : Nat)
  | vshls (x : Ins) (o : Vop) (amt : Nat)
  | vnarr (x : Ins) (o : Vop) (amt : Nat)
  | vwid (x : Ins) (o : Vop)
  | vadd (x : Ins) (o : Vop)
  | vsub (x : Ins) (o : Vop)
  | vmul (x : Ins) (o : Vop)
  | vectorLogic (x : Ins) (opc : BitVec 6) (o : Vop)
  | vectorCompare (x : Ins) (opc : BitVec 6) (o : Vop)
  | vectorPermute (x : Ins) (opc : BitVec 6) (o : Vop)
  | vectorReduction (x : Ins) (opc : BitVec 6) (rd : Fin 32) (o : Vop)
  | predicateLogic (x : Ins) (opc : BitVec 6) (d : PredEsz) (s1 s2 : Fin 16)
  | vld (x : Ins) (vd : Fin 32) (m : AMode) (pg : Fin 16) (esz : Fin 4)
  | vst (x : Ins) (vs : Fin 32) (m : AMode) (pg : Fin 16) (esz : Fin 4)
  | vldff (x : Ins) (f : FfForm)
  | vgath (x : Ins) (o : Gop)
  | vscat (x : Ins) (o : Gop)
  | vplt (x : Ins) (pd : Fin 16) (gs gt : Fin 32) (esz : Fin 4)
  | vinc (x : Ins) (gd : Fin 32) (esz : Fin 4)
  | vdup (x : Ins) (vd : Fin 32) (src : GImm) (pg : Fin 16) (z : Bool) (esz : Fin 4)
  | vmovg (x : Ins) (gd : Fin 32) (vs : Fin 32) (idx : GImm) (o : GovEsz)
  | vptst (x : Ins) (pd : Fin 16) (vs : Fin 32) (pg : Fin 16) (esz : Fin 4)
  | vlimset (x : Ins)
  | vlimw (x : Ins) (gs : Fin 32)
  | vlimr (x : Ins) (gd : Fin 32)
  | vlimp (x : Ins) (pd pg : Fin 16) (esz : Fin 4)
  | vldp (x : Ins) (pd : Fin 16) (m : GovMode)
  | vstp (x : Ins) (pd : Fin 16) (m : GovMode)
  | vldx (x : Ins) (vd : Fin 32) (a : GovAddr)
  | vstx (x : Ins) (vs : Fin 32) (a : GovAddr)
  -- memory (R242 to R260)
  | memoryRead (agent addr len : Nat) (upset : Upset)
  | memoryWrite (agent addr : Nat) (data : List PByte)
  | writeMergeFlush (agent addr : Nat)
  | regionInit (n : Fin 64) (v : Word)
  | regionInitDone (n : Fin 64)
  | scrubVisit (addr : Nat) (upset : Upset)
  | repairRecordWrite (addr : Nat)
  | errorInjectArm (v : Word)
  | errorInjectDisarm (v : Word)
  -- DMA and queues (R261 to R282)
  | dmaChannelStart (e : Fin 22) (ch : Fin 32) (v : Word)
  | dmaCopy (e : Fin 22) (ch : Fin 32)
  | dmaFill (e : Fin 22) (ch : Fin 32)
  | dmaCompare (e : Fin 22) (ch : Fin 32)
  | dmaEnqueue (e : Fin 22) (ch : Fin 32)
  | dmaDequeue (e : Fin 22) (ch : Fin 32)
  | dmaDescriptorComplete (e : Fin 22) (ch : Fin 32)
  | dmaLeaveStrict (e : Fin 22) (v : Word)
  | dmaAbort (e : Fin 22) (ch : Fin 32) (v : Word)
  | dmaAbortComplete (e : Fin 22) (ch : Fin 32) (written : Nat)
  | pacingMarkCross (e : Fin 22) (ch : Fin 32)
  | queueEnqueue (agent q : Nat) (entry : List PByte)
  | enqueueWriteResponse (q : Nat)
  | queueDequeue (agent q : Nat)
  | dequeueReadReturn (q : Nat)
  | queueInspect (v : Word)
  -- span (R283 to R310)
  | linkEnable (l : Fin 4) (v : Word)
  | linkDisable (l : Fin 4) (v : Word)
  | linkRetrain (l : Fin 4) (v : Word)
  | linkTrainingEnd (l : Fin 4) (aligned : BitVec 5) (skews : List Nat) (peerLink peerIndex : Nat)
  | linkTrainingTimeout (l : Fin 4)
  | linkPeriodSend (l : Fin 4)
  | linkPeriodReceive (l : Fin 4) (lanes : List LanePeriod)
  | commaReceive (l : Fin 4) (c : BitVec 16)
  | laneLoss (l : Fin 4) (p : Fin 5)
  | laneReturn (l : Fin 4) (p : Fin 5)
  | spanPacketReceive (l : Fin 4)
  | remoteWindowAccess (agent addr len : Nat) (wr : Option (List PByte))
  | spanRequestTimeout (tag : Nat)
  | eyeScanStart (l : Fin 4) (v : Word)
  | eyeScanEnd (l : Fin 4) (errors : List Word)
  -- timing (R328 to R346)
  | ptpAnnounce (port : Fin 33) (a : Announce)
  | ptpSync (port : Fin 33) (master : Nat) (t2 : PtpTime) (t1 : Option PtpTime)
  | ptpFollowUp (port : Fin 33) (master : Nat) (t1 : PtpTime)
  | ptpDelayReq (port : Fin 33) (client : Nat)
  | ptpDelayResp (port : Fin 33) (master : Nat) (t3 t4 : PtpTime)
  | announceTimeout (port : Fin 33)
  | holdoverGradeEval (b : Fin 3)
  | ppsInEdge
  | ppsOutPulse
  | frameOutPulse
  | txTimestamp (port : Fin 33) (ident : BitVec 16) (requested dropped : Bool)
  | txtsPop (p : Fin 33) (v : Word)
  | keeperRatioUpdate (units : Nat)
  | timeLatch (b : Fin 3) (v : Word)
  -- holdover DAC (R347 to R353)
  | dacStepTick (ch : Fin 4) (request : BitVec 20)
  | dacClearPinAssert
  | dacClearPinRelease
  | dacCauseClear (v : Word)
  -- power (R354 to R370)
  | powerDomainRequest (d : Fin 96) (v : Word)
  | deviceStateRequest (v : Word)
  | powerCommit (u : PowerUnit)
  | quiesceTimeout (u : PowerUnit) (refuser : BitVec 16)
  | powerExitComplete (u : PowerUnit)
  | clusterNapWake (c : Fin 18)
  | wakePin
  | keeperAlarm
  | deepWakeResume (ticks : Nat) (hashOk : Bool)
  -- Lantern (R371 to R381)
  | lanternTxStart
  | lanternTxEnd
  | preambleDetect (power : Int)
  | syncWordFound (rssi : Int)
  | windowExpiry
  | packetEnd (raw : List Byte)
  | agcMeasurement (rssi : Int) (codeErrors : Nat)
  | lanternSpiCommand (v : Word)
  | spiFrameEnd (miso : BitVec 16)
  | lanternRxRetry
  -- events, snapshots, Watchtower (R382 to R399)
  | eventStatusClear (g : Fin 32) (v : Word)
  | snapRequestBit (v : Word)
  | snapshotBoundary
  | snapshotComplete
  | recordWrite
  | floodEnd
  | flashProgram (ok : Bool)
  | checkpoint
  | recordSlotLatch (v : Word)
  -- start-up, reset, thermal (R400 to R427)
  | powerOn
  | resetAssert
  | resetRelease (straps : BitVec 6)
  | bootStageEnd (r : StageEnd)
  | deviceWatchdogExpiry
  | watchdogKick (v : Word)
  | funcReset (v : Word)
  | funcResetDone
  | thermalWarning (r : Sensor)
  | thermalTrip (rs : List Sensor)
  | thermalTripRelease (rs : List Sensor)
  -- registers without a row of their own (R9, R10), and later rows of the table
  | registerWrite (addr size : Nat) (v : Word) (poison : Bool)
  | registerReadClear (addr size : Nat)
  | ret (x : Ins)
  | invalidRequest (n : Fin 64)
  | mailboxRequestWrite (n : Fin 64) (off : Nat) (data : List Byte)
  | timebaseApplied
  | aonSupplyLoss
  | ptpMessageTransmit (port : Fin 33) (k : PtpKind)
  deriving DecidableEq, Repr

end Sys2Proof
end

