-- ==== Sys2Proof/Config.lean ====
section
/-! DEFINITION. What the spec leaves open: every constant here is free (it has no body), so no statement can rest on a value of
it. Each is named in the assumption log. -/
namespace Sys2Proof

/-- A free value for each draw (log entry 5). -/
opaque Config.free : Nat → Nat

/-- Which instruction of its class an opcode value is, by its place in the list of R203 or R228; a number beyond the list stands for a
reserved opcode (log entry 21). -/
opaque Config.opcode : Nat → Nat → Nat

/-- A part of an instruction whose place in its words the spec does not give: the words, and which part (log entry 21). -/
opaque Config.part : Word → Word → Nat → Nat

/-- Result of an ALU opcode on its operands: the spec numbers no opcodes (R203; log entry 21). -/
opaque Config.alu : BitVec 7 → BitVec 6 → Word → Word → Word

/-- What the displacement of a branch counts from, as a distance from the branch (R203; log entry 37). -/
opaque Config.branchBase : Word

/-- Outcome of a compare opcode (R203; log entry 21). -/
opaque Config.cmp : BitVec 7 → Word → Word → Bool

/-- Bits above a loaded value narrower than the register (R203 gives no extension; log entry 22): size code and raw value. -/
opaque Config.loadHigh : Nat → Nat → Word

/-- Element result of a vector logic opcode (R228; log entry 21): opcode, element width in bits, operands. -/
opaque Config.vlogic : BitVec 6 → Nat → Nat → Nat → Nat

/-- Outcome of a vector compare opcode on one element (R228; log entry 21). -/
opaque Config.vcmp : BitVec 6 → Nat → Nat → Nat → Bool

/-- Source element (of the first source, then of the second) that a permute opcode brings to a place (R228; log entry 21). -/
opaque Config.vperm : BitVec 6 → Nat → BitVec 512 → BitVec 512 → Nat → Nat

/-- Result of a reduction opcode over the active elements (R228; log entry 21). -/
opaque Config.vreduce : BitVec 6 → Nat → List Nat → Word

/-- Result of a predicate logic opcode (R228; log entry 21). -/
opaque Config.plogic : BitVec 6 → BitVec 64 → BitVec 64 → BitVec 64

/-- Solution with a factor that has a 0 on its diagonal, of which the spec states nothing (R136; log entry 23): dimension, columns,
factor, right side. -/
opaque Config.solve : Nat → Nat → List (Int × Int) → List (Int × Int) → List (Int × Int)

/-- Decoding of one code block (TS 38.212, 36.212; R142 to R145; log entry 24): the descriptor, the combined values, the
iteration bounds; answers whether its CRC passes, the iterations run and the decoded bytes. -/
opaque Config.decodeBlock : List Byte → Nat → List Byte → Nat → Nat → Bool × Nat × List Byte

/-- Coded bytes of an encoder command over its payload (TS 38.211, 38.212, 36.211, 36.212; R150; log entry 24). -/
opaque Config.encode : List Byte → List Byte → List Byte

/-- Whether a coded byte depends on a payload byte (R152; log entry 24): descriptor, coded byte, payload byte. -/
opaque Config.depends : List Byte → Nat → Nat → Bool

/-- Decoded bits of POLAR_UCI_DEC and whether its CRC passes (R150; log entry 24). -/
opaque Config.polarDecode : List Byte → List Byte → Bool × List Byte

/-- Whether CRC24A of a transport block passes whose blocks have all passed (R145; log entry 24): descriptor and decoded blocks. -/
opaque Config.tbCrc : List Byte → List (List Byte) → Bool

/-- Detail of the completion record of an encoder command: the spec gives no layout (R133; log entry 24). -/
opaque Config.encDetail : List Byte → Nat

/-- busy_cycles and energy_nj of a command that ends with a status from 0x10 to 0x13 (R134; log entry 24). -/
opaque Config.badCycles : List Byte → Nat

/-- Activity-meter energy of a command in nJ (R133; log entry 24). -/
opaque Config.energy : List Byte → Nat → Nat

/-- ECDSA verification of an image (R402; log entry 25): header bytes 0 to 47 and body, signature, key index. -/
opaque Config.imageOk : List Byte → Bool

/-- Verification of a debug token (R405; log entry 25): unique identifier and token; answers its validity in hours. -/
opaque Config.tokenOk : List Byte → List Byte → Option Nat

/-- Fused state: key present, and not revoked, by key index (R402; log entry 25). -/
opaque Config.keyGood : Nat → Bool

/-- Spare rows that manufacturing has used in a memory unit (R258; log entry 31). -/
opaque Config.fuseRows : Nat → Nat

/-- Engine commands of an item (R154; log entry 26): work, bytes of its grant or carrier, half B; answers the engine kind of each (0 for
work of the cores), its descriptor, and cycles for work of the cores. -/
opaque Config.commands : Nat → List Byte → Bool → List (Nat × List Byte × Nat)

/-- How the value of a coded bit that is sent twice in one transmission joins the first (R144; log entry 24). -/
opaque Config.repeatLlr : Byte → Byte → Byte

/-- The calibration table that the boot calibration builds (R165; log entry 26): engine kind and (e_start, e_cycle) of the bands of
each valid row. -/
opaque Config.calBoot : Nat → Option (Nat × List (Nat × Nat))

/-- What Parapet makes of the coefficients of a poisoned calibration row, by row and band (R164; log entry 204). -/
opaque Config.calLost : Nat → Nat → Nat × Nat

/-- Power in mW of a part of R20's table that not all its lanes or links use (R161; log entry 26): part and units in use. -/
opaque Config.partPower : Nat → Nat → Nat

/-- Activation energy of a cluster in uJ (R180; log entry 26). -/
opaque Config.activation : Nat → Nat

/-- Thermal model coefficients of a cluster (R162; log entry 26): beta in 1/65536, theta in 1/65536 K/W, idle power in mW at a
temperature (Q8.8). -/
opaque Config.beta : Nat → Nat
opaque Config.theta : Nat → Nat
opaque Config.pIdle : Nat → Int → Nat

/-- Frequency term of Belfry's servo in 10^-12 after an offset (R333; log entry 27): base, term before, filtered offset. -/
opaque Config.servo : Nat → Int → Int → Int

/-- The offset filter (R333; log entry 27): offsets newest first. -/
opaque Config.filter : List Int → Int

/-- Home cluster that Psiwyn assigns to a carrier among the active ones (R82, R166; log entry 28). -/
opaque Config.home : Nat → List Nat → Nat

/-- Queue identifier that Psiwyn chooses (R281, R82; log entry 28): low end, high end, identifiers in use. -/
opaque Config.chooseQueue : Nat → Nat → List Nat → Nat

/-- Identity of the running image: version and security version by slot (R77, R402; log entry 25) come from the header; the
latency-calibrated correction of a port's timestamps in ns (R339; log entry 27). -/
opaque Config.phyLatency : Nat → Int

/-- Bytes of the tile image of core k (R358; log entry 29). -/
opaque Config.tileImage : Nat → Nat → Byte

/-- Items that belong to a carrier slot beside grants (R155; log entry 26): carrier payload and slot within the frame; answers kind
(0 SRS, 1 PUCCH or PRACH, 2 measurement; 3 marks the PRACH ones among kind 1) and symbol. -/
opaque Config.slotWork : List Byte → Nat → List (Nat × Nat)

/-- Whether an entry of a downlink grant queue is a PDCCH descriptor: the spec names no field that tells it from a grant (R111,
R112; log entry 38). -/
opaque Config.isPdcch : List Byte → Bool

/-- First pages of 4 KiB of the partitions of the symbol ring of a direction (R41; log entry 28): downlink, the carriers with their
sizes. -/
opaque Config.ringParts : Bool → List (Nat × Nat) → List Nat

/-- Where the units of a half of the slot store lie, in units of 64 bytes (log entry 176): the units with their sizes. -/
opaque Config.slotParts : List (Nat × Nat) → List Nat

/-- Where a block is placed in a half of the code-block store, in units of 64 bytes (log entry 176): blocks in use, size. -/
opaque Config.blockPlace : List (Nat × Nat) → Nat → Nat

/-- SRS result record of a carrier, in units of 64 bytes (R127; log entry 176). -/
opaque Config.srsRecord : Nat → Nat

/-- Whether a PRB of an uplink grant carries DMRS of it (R100, TS 38.211; log entry 180): grant, PRB. -/
opaque Config.prbDmrs : List Byte → Nat → Bool

/-- Estimation of a PRB (R100; log entry 180): bytes of its record by offset, from the grant, the PRB, and the beam data of its DMRS
symbols with their exponents. -/
opaque Config.estimate : List Byte → Nat → List (List Byte) → Nat → Byte

/-- LLR of a bit of an equalised element (R101; log entry 180): bits per symbol, bit, I and Q in units of 2 to the exponent, SINR. -/
opaque Config.llr : Nat → Nat → Int → Int → Int → Int → Int

/-- Inverse DFT of transform precoding (R89, TS 38.211; log entry 180): elements as I, Q, exponent. -/
opaque Config.idft : List (Int × Int × Int) → List (Int × Int × Int)

/-- Scrambling bit of a coded bit of an uplink grant (R101, TS 38.211 and 36.211; log entry 180). -/
opaque Config.scrambled : List Byte → Nat → Bool

/-- Modulated element of a downlink grant from its bits, as a 24-bit word (R98, R116, TS 38.211 and 36.211; log entry 180). -/
opaque Config.modulate : List Byte → List Bool → Nat

/-- DMRS or PT-RS element of a downlink grant (log entry 180): grant, symbol, layer, subcarrier. -/
opaque Config.dlDmrs : List Byte → Nat → Nat → Nat → Nat

/-- Exponent of a layer in a symbol record (R116; log entry 180): the grants of the symbol, symbol, layer. -/
opaque Config.layerExp : List (List Byte) → Nat → Nat → Byte

/-- Element of a PDCCH and its DMRS (R120, TS 38.211 and 36.211; log entry 180): carrier, descriptor, coded bits, symbol, subcarrier. -/
opaque Config.pdcchRe : List Byte → List Byte → List Byte → Nat → Nat → Option (Int × Int)

/-- Reference and control signals that precoding inserts beside PDCCH (R120; log entry 180): carrier, symbol of the frame, beam port,
subcarrier. -/
opaque Config.refRe : List Byte → Nat → Nat → Nat → Option (Int × Int)

/-- Element of an SSB (R123, TS 38.211 and 36.211; log entry 180): carrier, system frame number, symbol of the frame, subcarrier. -/
opaque Config.ssbRe : List Byte → Nat → Nat → Nat → Int × Int

/-- Index of the SSB that overlaps a PRB block (R123; log entry 39): carrier payload, symbol of the frame, PRB. -/
opaque Config.ssbIndex : List Byte → Nat → Nat → Nat

/-- What a derivation computes (R127; log entry 180): carrier payload, slot count, offset. -/
opaque Config.srsResult : List Byte → Nat → Nat → Byte

/-- Whether a PRB block overlaps an SSB in a symbol of the frame (R123; log entry 39): carrier payload, symbol of the frame, PRB; 0 no,
1 with a PBCH resource element, 2 without. -/
opaque Config.ssbBlock : List Byte → Nat → Nat → Nat

/-- Address in DRAM of a PRB block in a guard copy (R123; log entry 28): carrier, copy, symbol of the frame, stream, PRB. -/
opaque Config.guardBlock : Nat → Nat → Nat → Nat → Nat → Nat

/-- Access class of a register that the spec puts in none (R72; log entry 40). -/
opaque Config.regClass : Nat → Nat

/-- Address and size of the ring of a system queue (R273; log entry 28). -/
opaque Config.sysRing : Nat → Nat

/-- Addresses that Psiwyn chooses at start-up (log entry 28): 0 queue states, 1 host index table, 2 firmware counter banks, 3 the
calibration table. -/
opaque Config.psiAddr : Nat → Nat

end Sys2Proof
end

