-- ==== Sys2Proof/Decode.lean ====
section
/-! DEFINITION. Words that spell a command. The table gives no row any bits, so no word of its numbering spells one; the words of a
core's instructions stand here, by the fields that the spec gives each class (R203, R204, R228, R233). -/
namespace Sys2Proof

/-- The command that a word spells: none, for the table gives its rows no bits (log entry 7). -/
def decodeTableWord (_nbits _w : Nat) : Option Instr := none

/-- Bits `hi` to `lo` of an instruction word. -/
def fieldOf (w : Word) (hi lo : Nat) : Nat := w.toNat / 2 ^ lo % 2 ^ (hi + 1 - lo)

/-- A reserved encoding on a core: it raises ILLEGAL, whatever the constructor (R204). -/
def reservedOn (k : Fin 144) : Instr := .wait ⟨k, true⟩

/-- Class 0x6 (R203): branch, or call when link = 1. -/
def decodeBranch (k : Fin 144) (w : Word) : Instr :=
  let cond : Fin 16 := Fin.ofNat 16 (fieldOf w 27 24)
  let disp := (BitVec.ofNat 23 (fieldOf w 22 0)).toInt
  if fieldOf w 23 23 = 1 then .call ⟨k, false⟩ cond disp else .branch ⟨k, false⟩ cond disp

/-- Class 0xC (R233): the value 0b11 of eng, opcodes from 6 on and reserved bits are ILLEGAL. -/
def decodeEngine (k : Fin 144) (w : Word) : Instr :=
  let x : Ins := ⟨k, false⟩
  let r1 : Fin 32 := Fin.ofNat 32 (fieldOf w 23 19)
  let r2 : Fin 32 := Fin.ofNat 32 (fieldOf w 18 14)
  let eng : Fin 4 := Fin.ofNat 4 (fieldOf w 9 8)
  if fieldOf w 6 0 ≠ 0 ∨ fieldOf w 9 8 = 3 then reservedOn k
  else match fieldOf w 27 24 with
    | 0 => .ciss x r1 (Fin.ofNat 16 (fieldOf w 13 10)) eng (fieldOf w 7 7 == 1)
    | 1 => .ccmt x r2
    | 2 => .ckil x r2
    | 3 => .ctstE x eng
    | 4 => .ctstT x r2
    | 5 => .crkl x r1 r2
    | _ => reservedOn k

/-- A register number of 5 bits, one of 4 bits, an accumulator, a size or element width. -/
def reg5 (w : Word) (lo : Nat) : Fin 32 := Fin.ofNat 32 (fieldOf w (lo + 4) lo)
def reg4 (w : Word) (lo : Nat) : Fin 16 := Fin.ofNat 16 (fieldOf w (lo + 3) lo)
def reg3 (w : Word) (lo : Nat) : Fin 8 := Fin.ofNat 8 (fieldOf w (lo + 2) lo)
def two (w : Word) (lo : Nat) : Fin 4 := Fin.ofNat 4 (fieldOf w (lo + 1) lo)

/-- A signed field. -/
def signedOf (w : Word) (hi lo : Nat) : Int := (BitVec.ofNat (hi + 1 - lo) (fieldOf w hi lo)).toInt

/-- An address operand whose register, mode and signed offset stand at these places (R193, R203). -/
def modeOf (w : Word) (a mode offHi offLo : Nat) : AMode := ⟨reg4 w a, reg3 w mode, signedOf w offHi offLo⟩

/-- The file that a class 0x4 opcode selects, by its place in the class: G, A, S, W, O (R203). -/
def fileAt : Nat → RegFile
  | 0 => .g | 1 => .a | 2 => .s | 3 => .w | _ => .o

/-- Class 0x0 (R203): arithmetic, moves. -/
def decodeAlu (k : Fin 144) (w : Word) : Instr :=
  let opc := BitVec.ofNat 7 (fieldOf w 27 21)
  let func := BitVec.ofNat 6 (fieldOf w 5 0)
  match Config.opcode 0x0 (fieldOf w 27 21) with
  | 0 => .alu ⟨k, false⟩ .arith opc func (reg5 w 16) (reg5 w 11) (reg5 w 6)
  | 1 => .alu ⟨k, false⟩ .move opc func (reg5 w 16) (reg5 w 11) (reg5 w 6)
  | _ => reservedOn k

/-- Class 0x1 (R203): arithmetic and moves with an immediate, compares. -/
def decodeAluImm (k : Fin 144) (w : Word) : Instr :=
  let opc := BitVec.ofNat 7 (fieldOf w 27 21)
  let imm := BitVec.ofNat 11 (fieldOf w 10 0)
  match Config.opcode 0x1 (fieldOf w 27 21) with
  | 0 => .aluImmediate ⟨k, false⟩ .arith opc (reg5 w 16) (reg5 w 11) imm
  | 1 => .aluImmediate ⟨k, false⟩ .move opc (reg5 w 16) (reg5 w 11) imm
  | 2 => .compare ⟨k, false⟩ opc (reg5 w 11) (.imm (imm.signExtend 32))
  | _ => reservedOn k

/-- Class 0x2 (R199, R203): mod bit 0 selects .F, bit 1 selects 32 × 32, bits 3:2 the halves; the rest is reserved. -/
def decodeMac (k : Fin 144) (w : Word) : Instr :=
  let frac := fieldOf w 0 0 == 1
  let wide := fieldOf w 1 1 == 1
  let halves := BitVec.ofNat 2 (fieldOf w 3 2)
  if fieldOf w 8 4 ≠ 0 then reservedOn k
  else match Config.opcode 0x2 (fieldOf w 27 22) with
    | 0 => .mac ⟨k, false⟩ (reg3 w 19) (reg5 w 14) (reg5 w 9) frac wide halves
    | 1 => .msu ⟨k, false⟩ (reg3 w 19) (reg5 w 14) (reg5 w 9) frac wide halves
    | 2 => .cmac ⟨k, false⟩ (reg3 w 19) (reg5 w 14) (reg5 w 9)
    | _ => reservedOn k

/-- Class 0x3 (R200, R201, R203): moves and stores from an accumulator, and their fellows. -/
def decodeAcc (k : Fin 144) (w : Word) : Instr :=
  let acc := reg3 w 19
  let rd := reg5 w 14
  let m := modeOf w 10 7 6 0
  match Config.opcode 0x3 (fieldOf w 27 22) with
  | 0 => .mva ⟨k, false⟩ .h acc rd
  | 1 => .mva ⟨k, false⟩ .w acc rd
  | 2 => .mva ⟨k, false⟩ .l acc rd
  | 3 => .sta ⟨k, false⟩ .h acc m
  | 4 => .sta ⟨k, false⟩ .w acc m
  | 5 => .sta ⟨k, false⟩ .l acc m
  | 6 => .expa ⟨k, false⟩ acc rd
  | 7 => .clra ⟨k, false⟩ acc
  | 8 => .bexpclr ⟨k, false⟩
  | _ => reservedOn k

/-- Class 0x4 (R203): loads, then stores, of the five files. -/
def decodeMem (k : Fin 144) (w : Word) : Instr :=
  let n := Config.opcode 0x4 (fieldOf w 27 24)
  let m := modeOf w 13 10 9 0
  if n < 5 then .load ⟨k, false⟩ (fileAt n) (two w 22) (reg5 w 17) m
  else if n < 10 then .store ⟨k, false⟩ (fileAt (n - 5)) (two w 22) (reg5 w 17) m
  else reservedOn k

/-- Class 0x5 (R202, R203), of two words: the size and the second register of LD2 and LDST stand at no place that the spec gives. -/
def decodeDual (k : Fin 144) (w v : Word) : Instr :=
  let o : Dual := ⟨reg4 w 15, reg3 w 12, signedOf v 31 24, reg4 w 8, reg3 w 5, signedOf v 23 16⟩
  let size := Fin.ofNat 4 (Config.part w v 0)
  let r := Fin.ofNat 32 (Config.part w v 1)
  if fieldOf v 7 0 ≠ 0 then reservedOn k
  else match Config.opcode 0x5 (fieldOf w 27 22) with
    | 0 => .tapm ⟨k, false⟩ (reg3 w 19) o (signedOf v 15 8)
    | 1 => .ld2 ⟨k, false⟩ size (reg5 w 0) r o
    | 2 => .ldst ⟨k, false⟩ size (reg5 w 0) r o
    | _ => reservedOn k

/-- Class 0x7 (R203): the spec gives only the place of the opcode. -/
def decodeControl (k : Fin 144) (w : Word) : Instr :=
  let part := Config.part w 0
  let r := Fin.ofNat 32 (part 0)
  let a := Fin.ofNat 16 (part 0)
  let file : RegFile := fileAt (part 1 % 5)
  match Config.opcode 0x7 (fieldOf w 27 22) with
  | 0 => .loop ⟨k, false⟩ (.reg r) (BitVec.ofNat 32 (part 1))
  | 1 => .loop ⟨k, false⟩ (.imm (BitVec.ofNat 32 (part 0 % 2 ^ 24))) (BitVec.ofNat 32 (part 1))
  | 2 => .lpsave ⟨k, false⟩ a
  | 3 => .lprest ⟨k, false⟩ a
  | 4 => .rti0 ⟨k, false⟩
  | 5 => .rti1 ⟨k, false⟩
  | 6 => .mfz ⟨k, false⟩ r (part 1 % 0x1000)
  | 7 => .mtz ⟨k, false⟩ r (part 1 % 0x1000)
  | 8 => .ptst ⟨k, false⟩ (.file file) r
  | 9 => .ptst ⟨k, false⟩ .acc r
  | 10 => .wait ⟨k, false⟩
  | 11 => .sync ⟨k, false⟩
  | _ => reservedOn k

/-- Class 0x8 (R218, R228): the amount of a shift stands at no place that the spec gives. -/
def decodeElement (k : Fin 144) (w : Word) : Instr :=
  let x : Ins := ⟨k, false⟩
  let o : Vop := ⟨fieldOf w 21 21 == 1, reg5 w 16, reg5 w 11, reg5 w 6, reg4 w 2, two w 0⟩
  let opc := BitVec.ofNat 6 (fieldOf w 27 22)
  let amt := Config.part w 0 0
  match Config.opcode 0x8 (fieldOf w 27 22) with
  | 0 => .vadds x o
  | 1 => .vsubs x o
  | 2 => .vabss x o
  | 3 => .vnegs x o
  | 4 => .vmulhr x o
  | 5 => .vcmulhr x o false
  | 6 => .vcmulhr x o true
  | 7 => .vshrr x o amt
  | 8 => .vshls x o amt
  | 9 => .vnarr x o amt
  | 10 => .vwid x o
  | 11 => .vadd x o
  | 12 => .vsub x o
  | 13 => .vmul x o
  | 14 => .vectorLogic x opc o
  | 15 => .vectorCompare x opc o
  | 16 => .vectorPermute x opc o
  | 17 => .vectorReduction x opc (reg5 w 16) o
  | _ => reservedOn k

/-- Class 0x9 (R216, R217, R222, R226, R228): s2 holds a register or a 5-bit immediate, as the opcode selects. -/
def decodePredicate (k : Fin 144) (w : Word) : Instr :=
  let x : Ins := ⟨k, false⟩
  let z := fieldOf w 21 21 == 1
  let d := reg5 w 16
  let pd := Fin.ofNat 16 (fieldOf w 20 16)
  let pg := reg4 w 2
  let esz := two w 0
  let imm : GImm := .imm (BitVec.ofNat 32 (fieldOf w 10 6))
  match Config.opcode 0x9 (fieldOf w 27 22) with
  | 0 => .vplt x pd (reg5 w 11) (reg5 w 6) esz
  | 1 => .vinc x d esz
  | 2 => .vdup x d (.reg (reg5 w 6)) pg z esz
  | 3 => .vdup x d imm pg z esz
  | 4 => .vmovg x d (reg5 w 11) (.reg (reg5 w 6)) ⟨pg, z, esz⟩
  | 5 => .vmovg x d (reg5 w 11) imm ⟨pg, z, esz⟩
  | 6 => .vptst x pd (reg5 w 11) pg esz
  | 7 => .predicateLogic x (BitVec.ofNat 6 (fieldOf w 27 22)) ⟨pd, esz⟩ (Fin.ofNat 16 (fieldOf w 15 11)) (Fin.ofNat 16 (fieldOf w 10 6))
  | 8 => .vlimset x
  | 9 => .vlimw x (reg5 w 6)
  | 10 => .vlimr x d
  | 11 => .vlimp x pd pg esz
  | _ => reservedOn k

/-- Class 0xA (R220, R226, R228, R229). -/
def decodeVectorMem (k : Fin 144) (w : Word) : Instr :=
  let x : Ins := ⟨k, false⟩
  let vd := reg5 w 18
  let pd := Fin.ofNat 16 (fieldOf w 22 18)
  let m := modeOf w 14 11 4 0
  let pg := reg4 w 7
  let esz := two w 5
  match Config.opcode 0xA (fieldOf w 27 23) with
  | 0 => .vld x vd m pg esz
  | 1 => .vst x vd m pg esz
  | 2 => .vldff x (.contiguous vd m pg esz)
  | 3 => .vldp x pd ⟨m, pg, esz⟩
  | 4 => .vstp x pd ⟨m, pg, esz⟩
  | 5 => .vldx x vd ⟨reg4 w 14, pg, esz⟩
  | 6 => .vstx x vd ⟨reg4 w 14, pg, esz⟩
  | _ => reservedOn k

/-- Class 0xB (R223, R226, R228). -/
def decodeGather (k : Fin 144) (w : Word) : Instr :=
  let o : Gop := ⟨reg5 w 18, reg5 w 13, reg4 w 9, reg4 w 5, two w 3, two w 1, fieldOf w 0 0 == 1⟩
  match Config.opcode 0xB (fieldOf w 27 23) with
  | 0 => .vgath ⟨k, false⟩ o
  | 1 => .vscat ⟨k, false⟩ o
  | 2 => .vldff ⟨k, false⟩ (.gather o)
  | _ => reservedOn k

/-- The instruction that words spell on a core (R203): class 0x5 takes the second word too. Fields stand where R203, R228 and R233 put
them; which opcode value is which instruction the spec gives for classes 0x6 and 0xC only (log entry 21). -/
def decodeCore (k : Fin 144) (w v : Word) : Instr :=
  match fieldOf w 31 28 with
  | 0x0 => decodeAlu k w
  | 0x1 => decodeAluImm k w
  | 0x2 => decodeMac k w
  | 0x3 => decodeAcc k w
  | 0x4 => decodeMem k w
  | 0x5 => decodeDual k w v
  | 0x6 => decodeBranch k w
  | 0x7 => decodeControl k w
  | 0x8 => decodeElement k w
  | 0x9 => decodePredicate k w
  | 0xA => decodeVectorMem k w
  | 0xB => decodeGather k w
  | 0xC => decodeEngine k w
  | _ => reservedOn k

end Sys2Proof
end

