-- ==== Sys2Proof/Machine/RegNames.lean ====
section
/-! DEFINITION. Names of the registers (device addresses, R6, R23) and of their fields, as the register sections of the spec
give them. -/
namespace Sys2Proof.Machine

/-- A bit field of a register: lowest bit and width. -/
structure Fld where
  lo : Nat
  width : Nat
  deriving DecidableEq, Repr

/-- The whole register as a field. -/
abbrev Fld.whole : Fld := ⟨0, 32⟩

namespace Rg

abbrev DRM_CTRL : Nat := 0x20000000000
abbrev DRM_STATUS : Nat := 0x20000000004
abbrev DRM_TIME_OFFSET : Nat := 0x20000000008
abbrev DRM_GRACE : Nat := 0x2000000000C
abbrev DRM_POSITION : Nat := 0x20000000010
abbrev DRM_SYM_COUNT_LO : Nat := 0x20000000018
abbrev DRM_SYM_COUNT_HI : Nat := 0x2000000001C
abbrev DRM_SLOT_COUNT_LO : Nat := 0x20000000020
abbrev DRM_SLOT_COUNT_HI : Nat := 0x20000000024
abbrev DRM_FRAME_COUNT_LO : Nat := 0x20000000028
abbrev DRM_FRAME_COUNT_HI : Nat := 0x2000000002C
abbrev DRM_TICKQ_QUEUED : Nat := 0x20000000030
abbrev DRM_LATE_COUNT : Nat := 0x20000000034
abbrev DRM_LATE_UPSTREAM : Nat := 0x20000000038
abbrev DRM_LAST_LATE_ITEM : Nat := 0x2000000003C
abbrev DRM_STALE_WRITES : Nat := 0x20000000040
abbrev DRM_LOST_TICKS : Nat := 0x20000000044
abbrev DRM_FAULT : Nat := 0x20000000048
abbrev PCE_MBX_GLOBAL : Nat := 0x20000A80000
abbrev PCE_RELAY_TIMEOUT : Nat := 0x20000A80004
abbrev PCE_MBX_DOORBELL (i : Nat) : Nat := 0x20000A81000 + 0x10 * i
abbrev PCE_MBX_STATE (i : Nat) : Nat := 0x20000A81004 + 0x10 * i
abbrev PCE_MBX_RELEASE (i : Nat) : Nat := 0x20000A81008 + 0x10 * i
abbrev PCE_MBX_IGNORED (i : Nat) : Nat := 0x20000A8100C + 0x10 * i
abbrev PCE_NRING_CONSUMER : Nat := 0x20000A82000
abbrev PCE_NRING_PRODUCER : Nat := 0x20000A82004
abbrev PCE_NRING_LOST : Nat := 0x20000A82008
abbrev PCE_EXPERT_DENIED : Nat := 0x20000A8200C
abbrev ZCL_DEC_ITER_CAP (i : Nat) : Nat := 0x20000301000 + 0x8000 * i
abbrev ZCL_ENG_LATE_ERRORS (i : Nat) : Nat := 0x20000301004 + 0x8000 * i
abbrev PPT_CTRL : Nat := 0x20000100000
abbrev PPT_STATUS : Nat := 0x20000100004
abbrev PPT_SLOT_BUDGET : Nat := 0x20000100008
abbrev PPT_GUARD_BUDGET : Nat := 0x2000010000C
abbrev PPT_THERMAL : Nat := 0x20000100010
abbrev PPT_LAST_DEMAND : Nat := 0x20000100014
abbrev PPT_SHED_SLOTS : Nat := 0x20000100018
abbrev PPT_GRANTS_REFUSED : Nat := 0x2000010001C
abbrev PPT_PROTECTED_OVER : Nat := 0x20000100020
abbrev PPT_GUARD_OVER : Nat := 0x20000100024
abbrev PPT_REPLAYS : Nat := 0x20000100028
abbrev PPT_CADENCE_STATUS : Nat := 0x2000010002C
abbrev PPT_ECC_THRESHOLD : Nat := 0x20000100030
abbrev PPT_HEADROOM (i : Nat) : Nat := 0x20000100100 + 0x4 * i
abbrev PPT_CLUSTER (i : Nat) : Nat := 0x20000100180 + 0x4 * i
abbrev ZCR_CTRL (i : Nat) : Nat := 0x20000200000 + 0x1000 * i
abbrev ZCR_ENTRY (i : Nat) : Nat := 0x20000200004 + 0x1000 * i
abbrev ZCR_MODE (i : Nat) : Nat := 0x20000200008 + 0x1000 * i
abbrev ZCR_STATUS (i : Nat) : Nat := 0x2000020000C + 0x1000 * i
abbrev ZCR_BEXP (i : Nat) : Nat := 0x20000200010 + 0x1000 * i
abbrev ZCR_LOOP_DEPTH (i : Nat) : Nat := 0x20000200014 + 0x1000 * i
abbrev ZCR_LOOP_START (i j : Nat) : Nat := 0x20000200020 + 0x1000 * i + 0x10 * j
abbrev ZCR_LOOP_END (i j : Nat) : Nat := 0x20000200024 + 0x1000 * i + 0x10 * j
abbrev ZCR_LOOP_COUNT (i j : Nat) : Nat := 0x20000200028 + 0x1000 * i + 0x10 * j
abbrev ZCR_INT_ENABLE (i : Nat) : Nat := 0x20000200060 + 0x1000 * i
abbrev ZCR_INT_LEVEL (i : Nat) : Nat := 0x20000200064 + 0x1000 * i
abbrev ZCR_INT_PENDING (i : Nat) : Nat := 0x20000200068 + 0x1000 * i
abbrev ZCR_EPC0 (i : Nat) : Nat := 0x20000200070 + 0x1000 * i
abbrev ZCR_EPC1 (i : Nat) : Nat := 0x20000200074 + 0x1000 * i
abbrev ZCR_ESR0 (i : Nat) : Nat := 0x20000200078 + 0x1000 * i
abbrev ZCR_ESR1 (i : Nat) : Nat := 0x2000020007C + 0x1000 * i
abbrev ZCR_EADDR (i : Nat) : Nat := 0x20000200080 + 0x1000 * i
abbrev ZCR_FAR0_BASE (i : Nat) : Nat := 0x20000200084 + 0x1000 * i
abbrev ZCR_FAR1_BASE (i : Nat) : Nat := 0x20000200088 + 0x1000 * i
abbrev ZCR_TIMER (i : Nat) : Nat := 0x2000020008C + 0x1000 * i
abbrev ZCR_CYCLES_LO (i : Nat) : Nat := 0x20000200090 + 0x1000 * i
abbrev ZCR_CYCLES_HI (i : Nat) : Nat := 0x20000200094 + 0x1000 * i
abbrev ZCR_EXT_STALLS (i : Nat) : Nat := 0x20000200098 + 0x1000 * i
abbrev ZCR_VLEN_B (i : Nat) : Nat := 0x200002000A0 + 0x1000 * i
abbrev ZCR_VSTART (i : Nat) : Nat := 0x200002000A4 + 0x1000 * i
abbrev ZCR_VSTATUS (i : Nat) : Nat := 0x200002000A8 + 0x1000 * i
abbrev ZCR_VLIM (i : Nat) : Nat := 0x200002000B0 + 0x1000 * i
abbrev CPL_CTRL (c : Nat) : Nat := 0x20000400000 + 0x1000 * c
abbrev CPL_TAGS (c : Nat) : Nat := 0x20000400004 + 0x1000 * c
abbrev CPL_KILLS (c : Nat) : Nat := 0x20000400008 + 0x1000 * c
abbrev CPL_KILLS_IGNORED (c : Nat) : Nat := 0x2000040000C + 0x1000 * c
abbrev CPL_REFUSED (c : Nat) : Nat := 0x20000400010 + 0x1000 * c
abbrev CPL_LATE_INFO (c k : Nat) : Nat := 0x20000400100 + 0x1000 * c + 0x20 * k
abbrev CPL_LATE_ITEM (c k : Nat) : Nat := 0x20000400104 + 0x1000 * c + 0x20 * k
abbrev CPL_LATE_PARAM_LO (c k : Nat) : Nat := 0x20000400108 + 0x1000 * c + 0x20 * k
abbrev CPL_LATE_PARAM_HI (c k : Nat) : Nat := 0x2000040010C + 0x1000 * c + 0x20 * k
abbrev CPL_LATE_POP (c k : Nat) : Nat := 0x20000400110 + 0x1000 * c + 0x20 * k
abbrev CPL_LATE_LOST (c k : Nat) : Nat := 0x20000400114 + 0x1000 * c + 0x20 * k
abbrev MEC_CTRL : Nat := 0x20000500000
abbrev MEC_STATUS : Nat := 0x20000500004
abbrev MEC_CE_COUNT : Nat := 0x20000500010
abbrev MEC_UE_COUNT : Nat := 0x20000500014
abbrev MEC_POISON_READS : Nat := 0x20000500018
abbrev MEC_LAST_UE_LO : Nat := 0x20000500020
abbrev MEC_LAST_UE_HI : Nat := 0x20000500024
abbrev MEC_LAST_CE_LO : Nat := 0x20000500028
abbrev MEC_LAST_CE_HI : Nat := 0x2000050002C
abbrev MEC_SCRUB_CTRL : Nat := 0x20000500030
abbrev MEC_SCRUB_PASSES : Nat := 0x20000500034
abbrev MEC_INJECT_ADDR_LO : Nat := 0x20000500040
abbrev MEC_INJECT_ADDR_HI : Nat := 0x20000500044
abbrev MEC_INJECT_CTRL : Nat := 0x20000500048
abbrev MEC_DDR_CONFIG : Nat := 0x20000500060
abbrev MEC_CLUSTER_CE (i : Nat) : Nat := 0x20000500200 + 0x4 * i
abbrev MEC_REGION_BASE (i : Nat) : Nat := 0x20000501000 + 0x10 * i
abbrev MEC_REGION_LIMIT (i : Nat) : Nat := 0x20000501004 + 0x10 * i
abbrev MEC_REGION_CTRL (i : Nat) : Nat := 0x20000501008 + 0x10 * i
abbrev DMA_ENG_CTRL (e : Nat) : Nat := 0x20000600000 + 0x8000 * e
abbrev DMA_ENG_STATUS (e : Nat) : Nat := 0x20000600004 + 0x8000 * e
abbrev DMA_ENG_HALTS (e : Nat) : Nat := 0x20000600008 + 0x8000 * e
abbrev DMA_CH_CTRL (e ch : Nat) : Nat := 0x20000600100 + 0x8000 * e + 0x40 * ch
abbrev DMA_CH_STATUS (e ch : Nat) : Nat := 0x20000600104 + 0x8000 * e + 0x40 * ch
abbrev DMA_CH_DESC_LO (e ch : Nat) : Nat := 0x20000600108 + 0x8000 * e + 0x40 * ch
abbrev DMA_CH_DESC_HI (e ch : Nat) : Nat := 0x2000060010C + 0x8000 * e + 0x40 * ch
abbrev DMA_CH_PACE (e ch : Nat) : Nat := 0x20000600110 + 0x8000 * e + 0x40 * ch
abbrev DMA_CH_HIGH (e ch : Nat) : Nat := 0x20000600114 + 0x8000 * e + 0x40 * ch
abbrev DMA_CH_LOW (e ch : Nat) : Nat := 0x20000600118 + 0x8000 * e + 0x40 * ch
abbrev DMA_CH_BYTES (e ch : Nat) : Nat := 0x2000060011C + 0x8000 * e + 0x40 * ch
abbrev DMA_CH_ABORT (e ch : Nat) : Nat := 0x20000600120 + 0x8000 * e + 0x40 * ch
abbrev DMA_CH_ABORT_RESULT (e ch : Nat) : Nat := 0x20000600124 + 0x8000 * e + 0x40 * ch
abbrev DMA_CH_ERR (e ch : Nat) : Nat := 0x20000600128 + 0x8000 * e + 0x40 * ch
abbrev DMA_CH_ERR_ADDR_LO (e ch : Nat) : Nat := 0x2000060012C + 0x8000 * e + 0x40 * ch
abbrev DMA_CH_ERR_ADDR_HI (e ch : Nat) : Nat := 0x20000600130 + 0x8000 * e + 0x40 * ch
abbrev QMG_CTRL : Nat := 0x20000700000
abbrev QMG_STATE_BASE_LO : Nat := 0x20000700008
abbrev QMG_STATE_BASE_HI : Nat := 0x2000070000C
abbrev QMG_HOST_TABLE_LO : Nat := 0x20000700010
abbrev QMG_HOST_TABLE_HI : Nat := 0x20000700014
abbrev QMG_REJECTS : Nat := 0x20000700020
abbrev QMG_CACHE_MISSES : Nat := 0x20000700024
abbrev QMG_LAST_REJECT : Nat := 0x20000700028
abbrev QMG_INSPECT_ID : Nat := 0x20000700030
abbrev QMG_INSPECT_DATA (i : Nat) : Nat := 0x20000700040 + 0x4 * i
abbrev SPN_CTRL : Nat := 0x20000800000
abbrev SPN_TIMEOUT : Nat := 0x20000800004
abbrev SPN_ROUTE (i : Nat) : Nat := 0x20000800040 + 0x4 * i
abbrev SPN_LINK_CTRL (i : Nat) : Nat := 0x20000801000 + 0x1000 * i
abbrev SPN_LINK_STATUS (i : Nat) : Nat := 0x20000801004 + 0x1000 * i
abbrev SPN_LINK_REPLAYS (i : Nat) : Nat := 0x20000801008 + 0x1000 * i
abbrev SPN_LINK_RESTRIPES (i : Nat) : Nat := 0x2000080100C + 0x1000 * i
abbrev SPN_LINK_CRC_ERRORS (i : Nat) : Nat := 0x20000801010 + 0x1000 * i
abbrev SPN_LINK_TIMEOUTS (i : Nat) : Nat := 0x20000801014 + 0x1000 * i
abbrev SPN_LANE_STATUS (i j : Nat) : Nat := 0x20000801020 + 0x1000 * i + 0x4 * j
abbrev SPN_SCAN_CTRL (i : Nat) : Nat := 0x20000801040 + 0x1000 * i
abbrev SPN_SCAN_STATUS (i : Nat) : Nat := 0x20000801044 + 0x1000 * i
abbrev SPN_SCAN_ADDR_LO (i : Nat) : Nat := 0x20000801048 + 0x1000 * i
abbrev SPN_SCAN_ADDR_HI (i : Nat) : Nat := 0x2000080104C + 0x1000 * i
abbrev ETH_PORT_CTRL (i : Nat) : Nat := 0x20000900000 + 0x4000 * i
abbrev ETH_PORT_TIMING (i : Nat) : Nat := 0x20000900004 + 0x4000 * i
abbrev ETH_PORT_STATUS (i : Nat) : Nat := 0x20000900008 + 0x4000 * i
abbrev ETH_CNT_FCS (i : Nat) : Nat := 0x20000900010 + 0x4000 * i
abbrev ETH_CNT_FEC_UNCORR (i : Nat) : Nat := 0x20000900014 + 0x4000 * i
abbrev ETH_CNT_UNKNOWN (i : Nat) : Nat := 0x20000900018 + 0x4000 * i
abbrev ETH_CNT_EARLY (i : Nat) : Nat := 0x2000090001C + 0x4000 * i
abbrev ETH_CNT_LATE (i : Nat) : Nat := 0x20000900020 + 0x4000 * i
abbrev ETH_CNT_UNANNOUNCED (i : Nat) : Nat := 0x20000900024 + 0x4000 * i
abbrev ETH_CNT_DUPLICATE (i : Nat) : Nat := 0x20000900028 + 0x4000 * i
abbrev ETH_CNT_TX_POISON (i : Nat) : Nat := 0x2000090002C + 0x4000 * i
abbrev ETH_SYNCE_CTRL : Nat := 0x20000984000
abbrev PCE_BAR2_BASE : Nat := 0x20000A83000
abbrev PCE_LINK_STATUS : Nat := 0x20000A83004
abbrev BLF_KEEPER_LO : Nat := 0x20000B00000
abbrev BLF_KEEPER_HI : Nat := 0x20000B00004
abbrev BLF_KEEPER_RATIO_LO : Nat := 0x20000B00008
abbrev BLF_KEEPER_RATIO_HI : Nat := 0x20000B0000C
abbrev BLF_KEEPER_STATUS : Nat := 0x20000B00010
abbrev BLF_SLEEP_LO : Nat := 0x20000B00018
abbrev BLF_SLEEP_HI : Nat := 0x20000B0001C
abbrev BLF_PPS_CTRL : Nat := 0x20000B00020
abbrev BLF_FRAME_OUT_CTRL : Nat := 0x20000B00024
abbrev BLF_HOLDOVER_LIMITS : Nat := 0x20000B00028
abbrev BLF_PPS_IN_LO : Nat := 0x20000B00030
abbrev BLF_PPS_IN_HI : Nat := 0x20000B00034
abbrev BLF_TB_CTRL (i : Nat) : Nat := 0x20000B01000 + 0x1000 * i
abbrev BLF_TB_STATUS (i : Nat) : Nat := 0x20000B01004 + 0x1000 * i
abbrev BLF_TB_SLEW (i : Nat) : Nat := 0x20000B01008 + 0x1000 * i
abbrev BLF_TB_LOCK_NS (i : Nat) : Nat := 0x20000B0100C + 0x1000 * i
abbrev BLF_TB_LATCH_W0 (i : Nat) : Nat := 0x20000B01010 + 0x1000 * i
abbrev BLF_TB_LATCH_W1 (i : Nat) : Nat := 0x20000B01014 + 0x1000 * i
abbrev BLF_TB_LATCH_W2 (i : Nat) : Nat := 0x20000B01018 + 0x1000 * i
abbrev BLF_TB_OFFSET (i : Nat) : Nat := 0x20000B01020 + 0x1000 * i
abbrev BLF_TB_RATE (i : Nat) : Nat := 0x20000B01024 + 0x1000 * i
abbrev BLF_TB_ERROR (i : Nat) : Nat := 0x20000B01028 + 0x1000 * i
abbrev BLF_TB_HOLDOVER_S (i : Nat) : Nat := 0x20000B0102C + 0x1000 * i
abbrev BLF_TB_MASTER_CHANGES (i : Nat) : Nat := 0x20000B01030 + 0x1000 * i
abbrev BLF_TB_ANNOUNCE_TIMEOUTS (i : Nat) : Nat := 0x20000B01034 + 0x1000 * i
abbrev BLF_TB_MASTER_LO (i : Nat) : Nat := 0x20000B01038 + 0x1000 * i
abbrev BLF_TB_MASTER_HI (i : Nat) : Nat := 0x20000B0103C + 0x1000 * i
abbrev BLF_TXTS_STATUS (i : Nat) : Nat := 0x20000B08000 + 0x40 * i
abbrev BLF_TXTS_ID (i : Nat) : Nat := 0x20000B08004 + 0x40 * i
abbrev BLF_TXTS_TS_W0 (i : Nat) : Nat := 0x20000B08008 + 0x40 * i
abbrev BLF_TXTS_TS_W1 (i : Nat) : Nat := 0x20000B0800C + 0x40 * i
abbrev BLF_TXTS_TS_W2 (i : Nat) : Nat := 0x20000B08010 + 0x40 * i
abbrev BLF_TXTS_POP (i : Nat) : Nat := 0x20000B08014 + 0x40 * i
abbrev BLF_TXTS_DROPPED (i : Nat) : Nat := 0x20000B08018 + 0x40 * i
abbrev HDC_STATUS : Nat := 0x20000C00000
abbrev HDC_CLEARS : Nat := 0x20000C00004
abbrev HDC_CH_CTRL (i : Nat) : Nat := 0x20000C00100 + 0x100 * i
abbrev HDC_CH_CODE (i : Nat) : Nat := 0x20000C00104 + 0x100 * i
abbrev HDC_CH_CLEAR (i : Nat) : Nat := 0x20000C00108 + 0x100 * i
abbrev HDC_CH_OUT (i : Nat) : Nat := 0x20000C0010C + 0x100 * i
abbrev HDC_CH_STEP (i : Nat) : Nat := 0x20000C00110 + 0x100 * i
abbrev HDC_CH_RATE (i : Nat) : Nat := 0x20000C00114 + 0x100 * i
abbrev HDC_CH_AMP (i : Nat) : Nat := 0x20000C00118 + 0x100 * i
abbrev HDC_CH_GAIN (i : Nat) : Nat := 0x20000C0011C + 0x100 * i
abbrev PWR_DEVICE : Nat := 0x20000D00000
abbrev PWR_DEVICE_REQ : Nat := 0x20000D00004
abbrev PWR_WAKE_CFG : Nat := 0x20000D00008
abbrev PWR_WAKE_STATUS : Nat := 0x20000D0000C
abbrev PWR_KEEPER_ALARM_LO : Nat := 0x20000D00010
abbrev PWR_KEEPER_ALARM_HI : Nat := 0x20000D00014
abbrev PWR_DEEP_CFG : Nat := 0x20000D00018
abbrev PWR_KEEP_LO : Nat := 0x20000D00020
abbrev PWR_KEEP_HI : Nat := 0x20000D00024
abbrev PWR_REFUSALS : Nat := 0x20000D00030
abbrev PWR_SUPERSEDED : Nat := 0x20000D00038
abbrev PWR_REPLAYED : Nat := 0x20000D0003C
abbrev PWR_LAST_REFUSER : Nat := 0x20000D00034
abbrev PWR_DOM (i : Nat) : Nat := 0x20000D00100 + 0x4 * i
abbrev PWR_DOM_REQ (i : Nat) : Nat := 0x20000D00300 + 0x4 * i
abbrev PWR_TILE_KEEP (i : Nat) : Nat := 0x20000D00500 + 0x4 * i
abbrev LNT_CTRL : Nat := 0x20000E00000
abbrev LNT_MOD : Nat := 0x20000E00004
abbrev LNT_RATE : Nat := 0x20000E00008
abbrev LNT_SYNC : Nat := 0x20000E0000C
abbrev LNT_PKT : Nat := 0x20000E00010
abbrev LNT_RX_CFG : Nat := 0x20000E00014
abbrev LNT_AGC : Nat := 0x20000E00018
abbrev LNT_RAMP : Nat := 0x20000E0001C
abbrev LNT_STATUS : Nat := 0x20000E00020
abbrev LNT_SPI_CMD : Nat := 0x20000E00024
abbrev LNT_SPI_DATA : Nat := 0x20000E00028
abbrev LNT_QUEUE_TX : Nat := 0x20000E00030
abbrev LNT_QUEUE_RX : Nat := 0x20000E00034
abbrev LNT_QUEUE_BUF : Nat := 0x20000E00038
abbrev LNT_CNT (i : Nat) : Nat := 0x20000E00040 + 0x4 * i
abbrev LNT_TABLE (i : Nat) : Nat := 0x20000E00200 + 0x4 * i
abbrev EVT_STATUS (i : Nat) : Nat := 0x20000F00000 + 0x10 * i
abbrev EVT_ENABLE (i : Nat) : Nat := 0x20000F00004 + 0x10 * i
abbrev EVT_RING (i : Nat) : Nat := 0x20000F00008 + 0x10 * i
abbrev EVT_RECORD (i : Nat) : Nat := 0x20000F0000C + 0x10 * i
abbrev EVT_SNAP_CTRL : Nat := 0x20000F00400
abbrev EVT_SNAP_SEQ : Nat := 0x20000F00404
abbrev EVT_SNAP_TICK : Nat := 0x20000F00408
abbrev EVT_RAISES : Nat := 0x20000F0040C
abbrev EVT_FW_BASE_LO : Nat := 0x20000F00410
abbrev EVT_FW_BASE_HI : Nat := 0x20000F00414
abbrev EVT_FW_BANK_BYTES : Nat := 0x20000F00418
abbrev EVT_FW_SLOTS : Nat := 0x20000F0041C
abbrev EVT_THR_SEL (i : Nat) : Nat := 0x20000F00500 + 0x8 * i
abbrev EVT_THR_VAL (i : Nat) : Nat := 0x20000F00504 + 0x8 * i
abbrev WTR_CTRL : Nat := 0x20001000000
abbrev WTR_STATUS : Nat := 0x20001000004
abbrev WTR_NEXT_SEQ : Nat := 0x20001000008
abbrev WTR_OLDEST_SEQ : Nat := 0x2000100000C
abbrev WTR_PERSISTED_SEQ : Nat := 0x20001000010
abbrev WTR_POWER_CYCLES : Nat := 0x20001000014
abbrev WTR_OP_SECONDS : Nat := 0x20001000018
abbrev WTR_SUPPRESSED : Nat := 0x2000100001C
abbrev WTR_FLASH_LOST : Nat := 0x20001000020
abbrev WTR_FLASH_BASE : Nat := 0x20001000024
abbrev WTR_FLASH_PAGES : Nat := 0x20001000028
abbrev WTR_READ_SLOT : Nat := 0x20001000030
abbrev WTR_READ_DATA (i : Nat) : Nat := 0x20001000040 + 0x4 * i
abbrev BOOT_STATE : Nat := 0x20001100000
abbrev BOOT_RESET_CAUSE : Nat := 0x20001100004
abbrev BOOT_STRAPS : Nat := 0x20001100008
abbrev BOOT_FUNC_RESET : Nat := 0x20001100010
abbrev BOOT_FUNC_STATUS : Nat := 0x20001100014
abbrev BOOT_WDT_CTRL : Nat := 0x20001100018
abbrev BOOT_WDT_KICK : Nat := 0x2000110001C

end Rg

namespace Fd

abbrev DRM_CTRL_start_mode : Fld := ⟨4, 1⟩
abbrev DRM_CTRL_master_scs : Fld := ⟨2, 2⟩
abbrev DRM_CTRL_enable : Fld := ⟨0, 1⟩
abbrev DRM_STATUS_frame_epoch : Fld := ⟨20, 1⟩
abbrev DRM_STATUS_slot_epoch : Fld := ⟨19, 1⟩
abbrev DRM_STATUS_sym_epoch : Fld := ⟨18, 1⟩
abbrev DRM_STATUS_tickq_depth : Fld := ⟨16, 2⟩
abbrev DRM_STATUS_tickq_hwm : Fld := ⟨14, 2⟩
abbrev DRM_STATUS_master_scs_active : Fld := ⟨10, 2⟩
abbrev DRM_STATUS_realigned : Fld := ⟨9, 1⟩
abbrev DRM_STATUS_estimated : Fld := ⟨8, 1⟩
abbrev DRM_STATUS_waiting : Fld := ⟨1, 1⟩
abbrev DRM_STATUS_running : Fld := ⟨0, 1⟩
abbrev DRM_TIME_OFFSET_time_offset : Fld := ⟨0, 32⟩
abbrev DRM_GRACE_grace_6 : Fld := ⟨12, 2⟩
abbrev DRM_GRACE_grace_5 : Fld := ⟨10, 2⟩
abbrev DRM_GRACE_grace_4 : Fld := ⟨8, 2⟩
abbrev DRM_GRACE_grace_3 : Fld := ⟨6, 2⟩
abbrev DRM_GRACE_grace_2 : Fld := ⟨4, 2⟩
abbrev DRM_GRACE_grace_1 : Fld := ⟨2, 2⟩
abbrev DRM_GRACE_grace_0 : Fld := ⟨0, 2⟩
abbrev DRM_POSITION_sfn : Fld := ⟨22, 10⟩
abbrev DRM_POSITION_slot : Fld := ⟨15, 7⟩
abbrev DRM_POSITION_symbol : Fld := ⟨0, 4⟩
abbrev DRM_SYM_COUNT_LO_sym_count : Fld := ⟨0, 32⟩
abbrev DRM_SYM_COUNT_HI_sym_count : Fld := ⟨0, 32⟩
abbrev DRM_SLOT_COUNT_LO_slot_count : Fld := ⟨0, 32⟩
abbrev DRM_SLOT_COUNT_HI_slot_count : Fld := ⟨0, 32⟩
abbrev DRM_FRAME_COUNT_LO_frame_count : Fld := ⟨0, 32⟩
abbrev DRM_FRAME_COUNT_HI_frame_count : Fld := ⟨0, 32⟩
abbrev DRM_TICKQ_QUEUED_queued : Fld := ⟨0, 32⟩
abbrev DRM_LATE_COUNT_late : Fld := ⟨0, 32⟩
abbrev DRM_LATE_UPSTREAM_late_upstream : Fld := ⟨0, 32⟩
abbrev DRM_LAST_LATE_ITEM_item_id : Fld := ⟨0, 32⟩
abbrev DRM_STALE_WRITES_stale : Fld := ⟨0, 32⟩
abbrev DRM_LOST_TICKS_lost : Fld := ⟨0, 32⟩
abbrev DRM_FAULT_stale_write : Fld := ⟨1, 1⟩
abbrev DRM_FAULT_timebase_step : Fld := ⟨0, 1⟩
abbrev PCE_MBX_GLOBAL_host_discards : Fld := ⟨16, 16⟩
abbrev PCE_MBX_GLOBAL_protocol_version : Fld := ⟨8, 8⟩
abbrev PCE_MBX_GLOBAL_active_pair : Fld := ⟨3, 1⟩
abbrev PCE_MBX_GLOBAL_clear_discards : Fld := ⟨2, 1⟩
abbrev PCE_MBX_GLOBAL_takeover : Fld := ⟨1, 1⟩
abbrev PCE_MBX_GLOBAL_ready : Fld := ⟨0, 1⟩
abbrev PCE_RELAY_TIMEOUT_timeout_ms : Fld := ⟨0, 16⟩
abbrev PCE_MBX_DOORBELL_tag : Fld := ⟨0, 16⟩
abbrev PCE_MBX_STATE_tag : Fld := ⟨16, 16⟩
abbrev PCE_MBX_STATE_state : Fld := ⟨0, 2⟩
abbrev PCE_MBX_RELEASE_release : Fld := ⟨0, 1⟩
abbrev PCE_MBX_IGNORED_ignored : Fld := ⟨0, 32⟩
abbrev PCE_NRING_CONSUMER_consumer : Fld := ⟨0, 16⟩
abbrev PCE_NRING_PRODUCER_phase : Fld := ⟨16, 1⟩
abbrev PCE_NRING_PRODUCER_producer : Fld := ⟨0, 16⟩
abbrev PCE_NRING_LOST_lost : Fld := ⟨0, 32⟩
abbrev PCE_EXPERT_DENIED_denied : Fld := ⟨0, 32⟩
abbrev ZCL_DEC_ITER_CAP_shed_extra : Fld := ⟨8, 1⟩
abbrev ZCL_DEC_ITER_CAP_cap_standard : Fld := ⟨0, 6⟩
abbrev ZCL_ENG_LATE_ERRORS_late_errors : Fld := ⟨0, 32⟩
abbrev PPT_CTRL_relax_margin : Fld := ⟨24, 8⟩
abbrev PPT_CTRL_time_fill : Fld := ⟨16, 8⟩
abbrev PPT_CTRL_protect_clusters : Fld := ⟨8, 5⟩
abbrev PPT_CTRL_enable : Fld := ⟨0, 1⟩
abbrev PPT_STATUS_spares_ready : Fld := ⟨24, 2⟩
abbrev PPT_STATUS_active_clusters : Fld := ⟨19, 5⟩
abbrev PPT_STATUS_failures : Fld := ⟨16, 3⟩
abbrev PPT_STATUS_cadence_suspended : Fld := ⟨12, 1⟩
abbrev PPT_STATUS_protected_over : Fld := ⟨11, 1⟩
abbrev PPT_STATUS_guard_over : Fld := ⟨10, 1⟩
abbrev PPT_STATUS_shed_level : Fld := ⟨0, 4⟩
abbrev PPT_SLOT_BUDGET_budget_uj : Fld := ⟨0, 32⟩
abbrev PPT_GUARD_BUDGET_guard_uj : Fld := ⟨0, 32⟩
abbrev PPT_THERMAL_t_limit : Fld := ⟨16, 16⟩
abbrev PPT_THERMAL_t_ref : Fld := ⟨0, 16⟩
abbrev PPT_LAST_DEMAND_demand_uj : Fld := ⟨0, 32⟩
abbrev PPT_SHED_SLOTS_shed_slots : Fld := ⟨0, 32⟩
abbrev PPT_GRANTS_REFUSED_refused : Fld := ⟨0, 32⟩
abbrev PPT_PROTECTED_OVER_protected_over : Fld := ⟨0, 32⟩
abbrev PPT_GUARD_OVER_guard_over : Fld := ⟨0, 32⟩
abbrev PPT_REPLAYS_replays : Fld := ⟨0, 32⟩
abbrev PPT_CADENCE_STATUS_bound_flows : Fld := ⟨8, 9⟩
abbrev PPT_CADENCE_STATUS_accumulators : Fld := ⟨0, 8⟩
abbrev PPT_ECC_THRESHOLD_threshold : Fld := ⟨0, 16⟩
abbrev PPT_HEADROOM_headroom_uj : Fld := ⟨0, 32⟩
abbrev PPT_CLUSTER_role : Fld := ⟨16, 4⟩
abbrev PPT_CLUSTER_cause : Fld := ⟨0, 6⟩
abbrev ZCR_CTRL_run : Fld := ⟨0, 1⟩
abbrev ZCR_ENTRY_entry : Fld := ⟨2, 30⟩
abbrev ZCR_MODE_bexp_en : Fld := ⟨5, 1⟩
abbrev ZCR_MODE_rnd : Fld := ⟨4, 1⟩
abbrev ZCR_MODE_acc_scale : Fld := ⟨0, 3⟩
abbrev ZCR_STATUS_level : Fld := ⟨4, 2⟩
abbrev ZCR_STATUS_f : Fld := ⟨2, 1⟩
abbrev ZCR_STATUS_acc_ovf : Fld := ⟨1, 1⟩
abbrev ZCR_STATUS_sat : Fld := ⟨0, 1⟩
abbrev ZCR_BEXP_lead : Fld := ⟨0, 7⟩
abbrev ZCR_LOOP_DEPTH_depth : Fld := ⟨0, 3⟩
abbrev ZCR_LOOP_START_start : Fld := ⟨0, 32⟩
abbrev ZCR_LOOP_END_end : Fld := ⟨0, 32⟩
abbrev ZCR_LOOP_COUNT_count : Fld := ⟨0, 24⟩
abbrev ZCR_INT_ENABLE_enable : Fld := ⟨0, 32⟩
abbrev ZCR_INT_LEVEL_level0 : Fld := ⟨0, 32⟩
abbrev ZCR_INT_PENDING_soft : Fld := ⟨16, 16⟩
abbrev ZCR_INT_PENDING_hard : Fld := ⟨0, 16⟩
abbrev ZCR_EPC0_epc : Fld := ⟨0, 32⟩
abbrev ZCR_EPC1_epc : Fld := ⟨0, 32⟩
abbrev ZCR_ESR0_input : Fld := ⟨16, 5⟩
abbrev ZCR_ESR0_prev_level : Fld := ⟨1, 2⟩
abbrev ZCR_ESR0_prev_f : Fld := ⟨0, 1⟩
abbrev ZCR_ESR1_fatal : Fld := ⟨31, 1⟩
abbrev ZCR_ESR1_input : Fld := ⟨16, 5⟩
abbrev ZCR_ESR1_cause : Fld := ⟨8, 8⟩
abbrev ZCR_ESR1_prev_level : Fld := ⟨1, 2⟩
abbrev ZCR_ESR1_prev_f : Fld := ⟨0, 1⟩
abbrev ZCR_EADDR_addr : Fld := ⟨0, 32⟩
abbrev ZCR_FAR0_BASE_base : Fld := ⟨0, 18⟩
abbrev ZCR_FAR1_BASE_base : Fld := ⟨0, 18⟩
abbrev ZCR_TIMER_timer : Fld := ⟨0, 32⟩
abbrev ZCR_CYCLES_LO_cycles : Fld := ⟨0, 32⟩
abbrev ZCR_CYCLES_HI_cycles : Fld := ⟨0, 32⟩
abbrev ZCR_EXT_STALLS_stalls : Fld := ⟨0, 32⟩
abbrev ZCR_VLEN_B_vlen_b : Fld := ⟨0, 16⟩
abbrev ZCR_VSTART_vstart : Fld := ⟨0, 6⟩
abbrev ZCR_VSTATUS_fault_elem : Fld := ⟨8, 6⟩
abbrev ZCR_VSTATUS_vsat : Fld := ⟨0, 1⟩
abbrev ZCR_VLIM_vlim : Fld := ⟨0, 7⟩
abbrev CPL_CTRL_remote_reserve : Fld := ⟨0, 8⟩
abbrev CPL_TAGS_issued : Fld := ⟨16, 9⟩
abbrev CPL_TAGS_free : Fld := ⟨0, 9⟩
abbrev CPL_KILLS_count : Fld := ⟨0, 32⟩
abbrev CPL_KILLS_IGNORED_count : Fld := ⟨0, 32⟩
abbrev CPL_REFUSED_count : Fld := ⟨0, 32⟩
abbrev CPL_LATE_INFO_valid : Fld := ⟨31, 1⟩
abbrev CPL_LATE_INFO_depth : Fld := ⟨24, 4⟩
abbrev CPL_LATE_INFO_engine : Fld := ⟨20, 2⟩
abbrev CPL_LATE_INFO_code : Fld := ⟨8, 8⟩
abbrev CPL_LATE_INFO_tag : Fld := ⟨0, 8⟩
abbrev CPL_LATE_ITEM_value : Fld := ⟨0, 32⟩
abbrev CPL_LATE_PARAM_LO_value : Fld := ⟨0, 32⟩
abbrev CPL_LATE_PARAM_HI_value : Fld := ⟨0, 32⟩
abbrev CPL_LATE_POP_pop : Fld := ⟨0, 1⟩
abbrev CPL_LATE_LOST_lost : Fld := ⟨0, 32⟩
abbrev MEC_CTRL_writeback_en : Fld := ⟨1, 1⟩
abbrev MEC_CTRL_scrub_en : Fld := ⟨0, 1⟩
abbrev MEC_STATUS_init_discards : Fld := ⟨16, 16⟩
abbrev MEC_STATUS_candidate : Fld := ⟨6, 1⟩
abbrev MEC_STATUS_region_busy : Fld := ⟨0, 6⟩
abbrev MEC_CE_COUNT_count : Fld := ⟨0, 32⟩
abbrev MEC_UE_COUNT_count : Fld := ⟨0, 32⟩
abbrev MEC_POISON_READS_count : Fld := ⟨0, 32⟩
abbrev MEC_LAST_UE_LO_addr : Fld := ⟨0, 32⟩
abbrev MEC_LAST_UE_HI_addr : Fld := ⟨0, 16⟩
abbrev MEC_LAST_CE_LO_addr : Fld := ⟨0, 32⟩
abbrev MEC_LAST_CE_HI_addr : Fld := ⟨0, 16⟩
abbrev MEC_SCRUB_CTRL_period_h : Fld := ⟨0, 8⟩
abbrev MEC_SCRUB_PASSES_passes : Fld := ⟨0, 32⟩
abbrev MEC_INJECT_ADDR_LO_addr : Fld := ⟨0, 32⟩
abbrev MEC_INJECT_ADDR_HI_addr : Fld := ⟨0, 16⟩
abbrev MEC_INJECT_CTRL_kind : Fld := ⟨1, 2⟩
abbrev MEC_INJECT_CTRL_arm : Fld := ⟨0, 1⟩
abbrev MEC_DDR_CONFIG_trained : Fld := ⟨1, 1⟩
abbrev MEC_DDR_CONFIG_density : Fld := ⟨0, 1⟩
abbrev MEC_CLUSTER_CE_count : Fld := ⟨0, 32⟩
abbrev MEC_REGION_BASE_addr_64k : Fld := ⟨0, 32⟩
abbrev MEC_REGION_LIMIT_addr_64k : Fld := ⟨0, 32⟩
abbrev MEC_REGION_CTRL_busy : Fld := ⟨3, 1⟩
abbrev MEC_REGION_CTRL_init : Fld := ⟨2, 1⟩
abbrev MEC_REGION_CTRL_code : Fld := ⟨1, 1⟩
abbrev MEC_REGION_CTRL_enable : Fld := ⟨0, 1⟩
abbrev DMA_ENG_CTRL_leave_strict : Fld := ⟨0, 1⟩
abbrev DMA_ENG_STATUS_strict : Fld := ⟨0, 1⟩
abbrev DMA_ENG_HALTS_halts : Fld := ⟨0, 32⟩
abbrev DMA_CH_CTRL_core : Fld := ⟨5, 3⟩
abbrev DMA_CH_CTRL_pace : Fld := ⟨3, 2⟩
abbrev DMA_CH_CTRL_start : Fld := ⟨0, 1⟩
abbrev DMA_CH_STATUS_desc_index : Fld := ⟨16, 16⟩
abbrev DMA_CH_STATUS_state : Fld := ⟨0, 3⟩
abbrev DMA_CH_DESC_LO_addr : Fld := ⟨0, 32⟩
abbrev DMA_CH_DESC_HI_addr : Fld := ⟨0, 16⟩
abbrev DMA_CH_PACE_flush : Fld := ⟨20, 1⟩
abbrev DMA_CH_PACE_queue : Fld := ⟨0, 20⟩
abbrev DMA_CH_HIGH_mark : Fld := ⟨0, 21⟩
abbrev DMA_CH_LOW_mark : Fld := ⟨0, 21⟩
abbrev DMA_CH_BYTES_bytes : Fld := ⟨0, 32⟩
abbrev DMA_CH_ABORT_abort : Fld := ⟨0, 1⟩
abbrev DMA_CH_ABORT_RESULT_result : Fld := ⟨0, 2⟩
abbrev DMA_CH_ERR_desc_index : Fld := ⟨16, 16⟩
abbrev DMA_CH_ERR_code : Fld := ⟨0, 8⟩
abbrev DMA_CH_ERR_ADDR_LO_addr : Fld := ⟨0, 32⟩
abbrev DMA_CH_ERR_ADDR_HI_addr : Fld := ⟨0, 16⟩
abbrev QMG_CTRL_enable : Fld := ⟨0, 1⟩
abbrev QMG_STATE_BASE_LO_addr : Fld := ⟨0, 32⟩
abbrev QMG_STATE_BASE_HI_addr : Fld := ⟨0, 16⟩
abbrev QMG_HOST_TABLE_LO_addr : Fld := ⟨0, 32⟩
abbrev QMG_HOST_TABLE_HI_addr : Fld := ⟨0, 16⟩
abbrev QMG_REJECTS_count : Fld := ⟨0, 32⟩
abbrev QMG_CACHE_MISSES_count : Fld := ⟨0, 32⟩
abbrev QMG_LAST_REJECT_queue : Fld := ⟨0, 20⟩
abbrev QMG_INSPECT_ID_queue : Fld := ⟨0, 20⟩
abbrev QMG_INSPECT_DATA_word : Fld := ⟨0, 32⟩
abbrev SPN_CTRL_mode : Fld := ⟨8, 1⟩
abbrev SPN_CTRL_index : Fld := ⟨0, 3⟩
abbrev SPN_TIMEOUT_timeout_us : Fld := ⟨0, 16⟩
abbrev SPN_ROUTE_alt_valid : Fld := ⟨5, 1⟩
abbrev SPN_ROUTE_alt_link : Fld := ⟨3, 2⟩
abbrev SPN_ROUTE_valid : Fld := ⟨2, 1⟩
abbrev SPN_ROUTE_link : Fld := ⟨0, 2⟩
abbrev SPN_LINK_CTRL_err_limit : Fld := ⟨8, 8⟩
abbrev SPN_LINK_CTRL_retrain : Fld := ⟨1, 1⟩
abbrev SPN_LINK_CTRL_enable : Fld := ⟨0, 1⟩
abbrev SPN_LINK_STATUS_state : Fld := ⟨30, 2⟩
abbrev SPN_LINK_STATUS_out_a : Fld := ⟨27, 3⟩
abbrev SPN_LINK_STATUS_out_b : Fld := ⟨24, 3⟩
abbrev SPN_LINK_STATUS_rx_lost : Fld := ⟨20, 3⟩
abbrev SPN_LINK_STATUS_width : Fld := ⟨16, 3⟩
abbrev SPN_LINK_STATUS_peer_link : Fld := ⟨8, 2⟩
abbrev SPN_LINK_STATUS_peer_index : Fld := ⟨0, 8⟩
abbrev SPN_LINK_REPLAYS_count : Fld := ⟨0, 32⟩
abbrev SPN_LINK_RESTRIPES_count : Fld := ⟨0, 32⟩
abbrev SPN_LINK_CRC_ERRORS_count : Fld := ⟨0, 32⟩
abbrev SPN_LINK_TIMEOUTS_count : Fld := ⟨0, 32⟩
abbrev SPN_LANE_STATUS_skew : Fld := ⟨16, 9⟩
abbrev SPN_LANE_STATUS_retired : Fld := ⟨3, 1⟩
abbrev SPN_LANE_STATUS_out : Fld := ⟨2, 1⟩
abbrev SPN_LANE_STATUS_aligned : Fld := ⟨1, 1⟩
abbrev SPN_LANE_STATUS_locked : Fld := ⟨0, 1⟩
abbrev SPN_SCAN_CTRL_dwell_log2 : Fld := ⟨4, 5⟩
abbrev SPN_SCAN_CTRL_lane : Fld := ⟨1, 3⟩
abbrev SPN_SCAN_CTRL_start : Fld := ⟨0, 1⟩
abbrev SPN_SCAN_STATUS_points : Fld := ⟨4, 12⟩
abbrev SPN_SCAN_STATUS_state : Fld := ⟨0, 2⟩
abbrev SPN_SCAN_ADDR_LO_addr : Fld := ⟨0, 32⟩
abbrev SPN_SCAN_ADDR_HI_addr : Fld := ⟨0, 16⟩
abbrev ETH_PORT_CTRL_mtu : Fld := ⟨16, 16⟩
abbrev ETH_PORT_CTRL_fec : Fld := ⟨3, 1⟩
abbrev ETH_PORT_CTRL_mode : Fld := ⟨1, 2⟩
abbrev ETH_PORT_CTRL_enable : Fld := ⟨0, 1⟩
abbrev ETH_PORT_TIMING_t_lead : Fld := ⟨8, 4⟩
abbrev ETH_PORT_TIMING_rx_window_end : Fld := ⟨4, 2⟩
abbrev ETH_PORT_TIMING_cp_adv : Fld := ⟨0, 3⟩
abbrev ETH_PORT_STATUS_lane_lock : Fld := ⟨3, 4⟩
abbrev ETH_PORT_STATUS_fec_lock : Fld := ⟨2, 1⟩
abbrev ETH_PORT_STATUS_an_done : Fld := ⟨1, 1⟩
abbrev ETH_PORT_STATUS_link_up : Fld := ⟨0, 1⟩
abbrev ETH_CNT_FCS_count : Fld := ⟨0, 32⟩
abbrev ETH_CNT_FEC_UNCORR_count : Fld := ⟨0, 32⟩
abbrev ETH_CNT_UNKNOWN_count : Fld := ⟨0, 32⟩
abbrev ETH_CNT_EARLY_count : Fld := ⟨0, 32⟩
abbrev ETH_CNT_LATE_count : Fld := ⟨0, 32⟩
abbrev ETH_CNT_UNANNOUNCED_count : Fld := ⟨0, 32⟩
abbrev ETH_CNT_DUPLICATE_count : Fld := ⟨0, 32⟩
abbrev ETH_CNT_TX_POISON_count : Fld := ⟨0, 32⟩
abbrev ETH_SYNCE_CTRL_squelched1 : Fld := ⟨23, 1⟩
abbrev ETH_SYNCE_CTRL_div1 : Fld := ⟨22, 1⟩
abbrev ETH_SYNCE_CTRL_enable1 : Fld := ⟨21, 1⟩
abbrev ETH_SYNCE_CTRL_lane1 : Fld := ⟨16, 5⟩
abbrev ETH_SYNCE_CTRL_squelched0 : Fld := ⟨7, 1⟩
abbrev ETH_SYNCE_CTRL_div0 : Fld := ⟨6, 1⟩
abbrev ETH_SYNCE_CTRL_enable0 : Fld := ⟨5, 1⟩
abbrev ETH_SYNCE_CTRL_lane0 : Fld := ⟨0, 5⟩
abbrev PCE_BAR2_BASE_window : Fld := ⟨0, 2⟩
abbrev PCE_LINK_STATUS_width : Fld := ⟨4, 4⟩
abbrev PCE_LINK_STATUS_speed : Fld := ⟨0, 4⟩
abbrev BLF_KEEPER_LO_count : Fld := ⟨0, 32⟩
abbrev BLF_KEEPER_HI_count : Fld := ⟨0, 32⟩
abbrev BLF_KEEPER_RATIO_LO_ratio : Fld := ⟨0, 32⟩
abbrev BLF_KEEPER_RATIO_HI_ratio : Fld := ⟨0, 32⟩
abbrev BLF_KEEPER_STATUS_calibrated : Fld := ⟨0, 1⟩
abbrev BLF_SLEEP_LO_ticks : Fld := ⟨0, 32⟩
abbrev BLF_SLEEP_HI_ticks : Fld := ⟨0, 32⟩
abbrev BLF_PPS_CTRL_width_ms : Fld := ⟨8, 8⟩
abbrev BLF_PPS_CTRL_base : Fld := ⟨2, 2⟩
abbrev BLF_PPS_CTRL_in_enable : Fld := ⟨1, 1⟩
abbrev BLF_PPS_CTRL_out_enable : Fld := ⟨0, 1⟩
abbrev BLF_FRAME_OUT_CTRL_width_us : Fld := ⟨16, 16⟩
abbrev BLF_FRAME_OUT_CTRL_rate : Fld := ⟨1, 4⟩
abbrev BLF_FRAME_OUT_CTRL_enable : Fld := ⟨0, 1⟩
abbrev BLF_HOLDOVER_LIMITS_limit_4 : Fld := ⟨24, 8⟩
abbrev BLF_HOLDOVER_LIMITS_limit_3 : Fld := ⟨16, 8⟩
abbrev BLF_HOLDOVER_LIMITS_limit_2 : Fld := ⟨8, 8⟩
abbrev BLF_HOLDOVER_LIMITS_limit_1 : Fld := ⟨0, 8⟩
abbrev BLF_PPS_IN_LO_radio_units : Fld := ⟨0, 32⟩
abbrev BLF_PPS_IN_HI_radio_units : Fld := ⟨0, 32⟩
abbrev BLF_TB_CTRL_latch : Fld := ⟨4, 1⟩
abbrev BLF_TB_CTRL_source : Fld := ⟨0, 2⟩
abbrev BLF_TB_STATUS_epoch : Fld := ⟨16, 16⟩
abbrev BLF_TB_STATUS_stepped : Fld := ⟨8, 1⟩
abbrev BLF_TB_STATUS_grade : Fld := ⟨4, 3⟩
abbrev BLF_TB_STATUS_state : Fld := ⟨0, 3⟩
abbrev BLF_TB_SLEW_slew_ppb_s : Fld := ⟨16, 16⟩
abbrev BLF_TB_SLEW_rate_cap_ppb : Fld := ⟨0, 16⟩
abbrev BLF_TB_LOCK_NS_lock_ns : Fld := ⟨0, 32⟩
abbrev BLF_TB_LATCH_W0_word : Fld := ⟨0, 32⟩
abbrev BLF_TB_LATCH_W1_word : Fld := ⟨0, 32⟩
abbrev BLF_TB_LATCH_W2_word : Fld := ⟨0, 32⟩
abbrev BLF_TB_OFFSET_value : Fld := ⟨0, 32⟩
abbrev BLF_TB_RATE_value : Fld := ⟨0, 32⟩
abbrev BLF_TB_ERROR_value : Fld := ⟨0, 32⟩
abbrev BLF_TB_HOLDOVER_S_value : Fld := ⟨0, 32⟩
abbrev BLF_TB_MASTER_CHANGES_count : Fld := ⟨0, 32⟩
abbrev BLF_TB_ANNOUNCE_TIMEOUTS_count : Fld := ⟨0, 32⟩
abbrev BLF_TB_MASTER_LO_identity : Fld := ⟨0, 32⟩
abbrev BLF_TB_MASTER_HI_identity : Fld := ⟨0, 32⟩
abbrev BLF_TXTS_STATUS_overflow : Fld := ⟨7, 1⟩
abbrev BLF_TXTS_STATUS_depth : Fld := ⟨0, 7⟩
abbrev BLF_TXTS_ID_valid : Fld := ⟨31, 1⟩
abbrev BLF_TXTS_ID_id : Fld := ⟨0, 16⟩
abbrev BLF_TXTS_TS_W0_word : Fld := ⟨0, 32⟩
abbrev BLF_TXTS_TS_W1_word : Fld := ⟨0, 32⟩
abbrev BLF_TXTS_TS_W2_word : Fld := ⟨0, 32⟩
abbrev BLF_TXTS_POP_pop : Fld := ⟨0, 1⟩
abbrev BLF_TXTS_DROPPED_dropped : Fld := ⟨0, 32⟩
abbrev HDC_STATUS_strap_mid : Fld := ⟨4, 1⟩
abbrev HDC_STATUS_belfry_reset : Fld := ⟨3, 1⟩
abbrev HDC_STATUS_thermal : Fld := ⟨2, 1⟩
abbrev HDC_STATUS_watchdog : Fld := ⟨1, 1⟩
abbrev HDC_STATUS_pin : Fld := ⟨0, 1⟩
abbrev HDC_CLEARS_clears : Fld := ⟨0, 32⟩
abbrev HDC_CH_CTRL_gen : Fld := ⟨2, 2⟩
abbrev HDC_CH_CTRL_source : Fld := ⟨0, 2⟩
abbrev HDC_CH_CODE_code : Fld := ⟨0, 20⟩
abbrev HDC_CH_CLEAR_code : Fld := ⟨0, 20⟩
abbrev HDC_CH_OUT_code : Fld := ⟨0, 20⟩
abbrev HDC_CH_STEP_max_step : Fld := ⟨0, 20⟩
abbrev HDC_CH_RATE_rate_div : Fld := ⟨0, 16⟩
abbrev HDC_CH_AMP_amp : Fld := ⟨0, 20⟩
abbrev HDC_CH_GAIN_gain : Fld := ⟨0, 32⟩
abbrev PWR_DEVICE_pending : Fld := ⟨8, 3⟩
abbrev PWR_DEVICE_in_flight : Fld := ⟨4, 3⟩
abbrev PWR_DEVICE_state : Fld := ⟨0, 3⟩
abbrev PWR_DEVICE_REQ_target : Fld := ⟨0, 2⟩
abbrev PWR_WAKE_CFG_alarm_en : Fld := ⟨1, 1⟩
abbrev PWR_WAKE_CFG_pin_en : Fld := ⟨0, 1⟩
abbrev PWR_WAKE_STATUS_replayed : Fld := ⟨2, 1⟩
abbrev PWR_WAKE_STATUS_alarm : Fld := ⟨1, 1⟩
abbrev PWR_WAKE_STATUS_pin : Fld := ⟨0, 1⟩
abbrev PWR_KEEPER_ALARM_LO_count : Fld := ⟨0, 32⟩
abbrev PWR_KEEPER_ALARM_HI_count : Fld := ⟨0, 32⟩
abbrev PWR_DEEP_CFG_dram_keep : Fld := ⟨0, 1⟩
abbrev PWR_KEEP_LO_keep : Fld := ⟨0, 32⟩
abbrev PWR_KEEP_HI_keep : Fld := ⟨0, 32⟩
abbrev PWR_REFUSALS_count : Fld := ⟨0, 32⟩
abbrev PWR_SUPERSEDED_count : Fld := ⟨0, 32⟩
abbrev PWR_REPLAYED_count : Fld := ⟨0, 32⟩
abbrev PWR_LAST_REFUSER_unit : Fld := ⟨16, 16⟩
abbrev PWR_LAST_REFUSER_domain : Fld := ⟨8, 8⟩
abbrev PWR_LAST_REFUSER_reason : Fld := ⟨0, 8⟩
abbrev PWR_DOM_latched : Fld := ⟨12, 1⟩
abbrev PWR_DOM_pending : Fld := ⟨8, 3⟩
abbrev PWR_DOM_in_flight : Fld := ⟨4, 3⟩
abbrev PWR_DOM_state : Fld := ⟨0, 3⟩
abbrev PWR_DOM_REQ_target : Fld := ⟨0, 3⟩
abbrev PWR_TILE_KEEP_banks : Fld := ⟨0, 16⟩
abbrev LNT_CTRL_spi_div : Fld := ⟨8, 8⟩
abbrev LNT_CTRL_whiten : Fld := ⟨3, 1⟩
abbrev LNT_CTRL_agc_en : Fld := ⟨2, 1⟩
abbrev LNT_CTRL_tx_preempt : Fld := ⟨1, 1⟩
abbrev LNT_CTRL_enable : Fld := ⟨0, 1⟩
abbrev LNT_MOD_h : Fld := ⟨8, 6⟩
abbrev LNT_MOD_osr : Fld := ⟨2, 2⟩
abbrev LNT_MOD_bt : Fld := ⟨1, 1⟩
abbrev LNT_MOD_order : Fld := ⟨0, 1⟩
abbrev LNT_RATE_value : Fld := ⟨0, 32⟩
abbrev LNT_SYNC_value : Fld := ⟨0, 32⟩
abbrev LNT_PKT_window_sym : Fld := ⟨10, 11⟩
abbrev LNT_PKT_sync_len : Fld := ⟨9, 1⟩
abbrev LNT_PKT_pre_len : Fld := ⟨0, 8⟩
abbrev LNT_RX_CFG_capture_db : Fld := ⟨16, 4⟩
abbrev LNT_RX_CFG_det_thresh : Fld := ⟨0, 16⟩
abbrev LNT_AGC_agc_addr : Fld := ⟨24, 8⟩
abbrev LNT_AGC_target : Fld := ⟨16, 8⟩
abbrev LNT_AGC_hyst : Fld := ⟨12, 4⟩
abbrev LNT_AGC_agc_period : Fld := ⟨0, 12⟩
abbrev LNT_RAMP_tr_lead : Fld := ⟨24, 8⟩
abbrev LNT_RAMP_ramp_step : Fld := ⟨8, 4⟩
abbrev LNT_RAMP_ramp_len : Fld := ⟨0, 7⟩
abbrev LNT_STATUS_rssi : Fld := ⟨16, 16⟩
abbrev LNT_STATUS_gain_index : Fld := ⟨8, 6⟩
abbrev LNT_STATUS_held : Fld := ⟨4, 4⟩
abbrev LNT_STATUS_frozen : Fld := ⟨3, 1⟩
abbrev LNT_STATUS_state : Fld := ⟨0, 2⟩
abbrev LNT_SPI_CMD_busy : Fld := ⟨31, 1⟩
abbrev LNT_SPI_CMD_go : Fld := ⟨24, 1⟩
abbrev LNT_SPI_CMD_frame : Fld := ⟨0, 24⟩
abbrev LNT_SPI_DATA_miso : Fld := ⟨0, 16⟩
abbrev LNT_QUEUE_TX_queue : Fld := ⟨0, 20⟩
abbrev LNT_QUEUE_RX_queue : Fld := ⟨0, 20⟩
abbrev LNT_QUEUE_BUF_queue : Fld := ⟨0, 20⟩
abbrev LNT_CNT_count : Fld := ⟨0, 32⟩
abbrev LNT_TABLE_gain_word : Fld := ⟨16, 16⟩
abbrev LNT_TABLE_ramp : Fld := ⟨0, 16⟩
abbrev EVT_STATUS_bits : Fld := ⟨0, 32⟩
abbrev EVT_ENABLE_bits : Fld := ⟨0, 32⟩
abbrev EVT_RING_bits : Fld := ⟨0, 32⟩
abbrev EVT_RECORD_bits : Fld := ⟨0, 32⟩
abbrev EVT_SNAP_CTRL_request : Fld := ⟨16, 1⟩
abbrev EVT_SNAP_CTRL_period_slots : Fld := ⟨0, 16⟩
abbrev EVT_SNAP_SEQ_value : Fld := ⟨0, 32⟩
abbrev EVT_SNAP_TICK_value : Fld := ⟨0, 32⟩
abbrev EVT_RAISES_value : Fld := ⟨0, 32⟩
abbrev EVT_FW_BASE_LO_value : Fld := ⟨0, 32⟩
abbrev EVT_FW_BASE_HI_value : Fld := ⟨0, 16⟩
abbrev EVT_FW_BANK_BYTES_value : Fld := ⟨0, 32⟩
abbrev EVT_FW_SLOTS_value : Fld := ⟨0, 32⟩
abbrev EVT_THR_SEL_unit : Fld := ⟨16, 16⟩
abbrev EVT_THR_SEL_enable : Fld := ⟨15, 1⟩
abbrev EVT_THR_SEL_word : Fld := ⟨0, 7⟩
abbrev EVT_THR_VAL_value : Fld := ⟨0, 32⟩
abbrev WTR_CTRL_flash_en : Fld := ⟨1, 1⟩
abbrev WTR_CTRL_enable : Fld := ⟨0, 1⟩
abbrev WTR_STATUS_fifo : Fld := ⟨8, 4⟩
abbrev WTR_STATUS_flash_error : Fld := ⟨2, 1⟩
abbrev WTR_STATUS_flash_busy : Fld := ⟨1, 1⟩
abbrev WTR_STATUS_flood : Fld := ⟨0, 1⟩
abbrev WTR_NEXT_SEQ_value : Fld := ⟨0, 32⟩
abbrev WTR_OLDEST_SEQ_value : Fld := ⟨0, 32⟩
abbrev WTR_PERSISTED_SEQ_value : Fld := ⟨0, 32⟩
abbrev WTR_POWER_CYCLES_value : Fld := ⟨0, 32⟩
abbrev WTR_OP_SECONDS_value : Fld := ⟨0, 32⟩
abbrev WTR_SUPPRESSED_count : Fld := ⟨0, 32⟩
abbrev WTR_FLASH_LOST_count : Fld := ⟨0, 32⟩
abbrev WTR_FLASH_BASE_value : Fld := ⟨0, 32⟩
abbrev WTR_FLASH_PAGES_value : Fld := ⟨0, 32⟩
abbrev WTR_READ_SLOT_slot : Fld := ⟨0, 14⟩
abbrev WTR_READ_DATA_word : Fld := ⟨0, 32⟩
abbrev BOOT_STATE_cause : Fld := ⟨16, 16⟩
abbrev BOOT_STATE_failed_stage : Fld := ⟨8, 4⟩
abbrev BOOT_STATE_stage : Fld := ⟨0, 4⟩
abbrev BOOT_RESET_CAUSE_cause : Fld := ⟨0, 4⟩
abbrev BOOT_STRAPS_boot_src : Fld := ⟨5, 1⟩
abbrev BOOT_STRAPS_dac_mid : Fld := ⟨4, 1⟩
abbrev BOOT_STRAPS_ddr_density : Fld := ⟨3, 1⟩
abbrev BOOT_STRAPS_span_id : Fld := ⟨0, 3⟩
abbrev BOOT_FUNC_RESET_hold_off : Fld := ⟨16, 1⟩
abbrev BOOT_FUNC_RESET_unit : Fld := ⟨0, 16⟩
abbrev BOOT_FUNC_STATUS_unit : Fld := ⟨16, 16⟩
abbrev BOOT_FUNC_STATUS_refused : Fld := ⟨1, 1⟩
abbrev BOOT_FUNC_STATUS_busy : Fld := ⟨0, 1⟩
abbrev BOOT_WDT_CTRL_timeout_ms : Fld := ⟨0, 16⟩
abbrev BOOT_WDT_KICK_kick : Fld := ⟨0, 1⟩

end Fd

end Sys2Proof.Machine
end

