-- ==== Sys2Proof/Machine/State.lean ====
section
/-! DEFINITION. The state of the block as plain data: the queue of waiting commands, the register file, the memories and,
group by group, every piece of state that no register shows. Registers have one home, `regs`. -/
namespace Sys2Proof.Machine

/-- A sparse table: keys strictly rising, no entry equal to what an unlisted key reads as. -/
abbrev SMap (α : Type) := List (Nat × α)

/-- Pins that the device drives. -/
inductive Pin where
  | ppsOut | frameOut | synceOut0 | synceOut1 | sleepOut | thermTripN | lntTr | lntPaEn | dacOut (ch : Nat) (code : Nat)
  deriving DecidableEq, Repr

/-- What leaves the block. The model's own record of outputs (log entry 6). -/
inductive Out where
  /-- An MSI-X message on a vector (R69, R384). -/
  | msix (vector : Nat)
  /-- A write into the notification ring in host memory (R67): all bytes but the phase byte, or the phase byte. -/
  | hostWrite (addr : Nat) (bytes : List Byte)
  /-- A PCIe read completion, with its EP bit (R71, R325). -/
  | completion (bytes : List Byte) (ep : Bool)
  /-- A completion with Unsupported Request status (R71, R325). -/
  | unsupported
  /-- An advisory non-fatal error: of a poisoned TLP, or else of an Unsupported Request (R325). -/
  | advisory (poisoned : Bool)
  /-- Data delivered to an agent of the network-on-chip (R253). -/
  | data (agent : Nat) (bytes : List PByte)
  /-- The answer to a queue operation: status code (R275) and entry. -/
  | queueAnswer (agent q status : Nat) (entry : List PByte)
  /-- The value that a register read returns. -/
  | regValue (addr : Nat) (v : Word)
  /-- A U-plane packet: port, 802.1Q tag (R312), eCPRI identity, beam identifier under Category B (R315), symbol, first PRB, block bytes
  (R318, R320). -/
  | uplane (port : Nat) (tag : Option Nat) (eaxc : Nat) (beam : Option Nat) (sym : Word) (prb : Nat) (bytes : List Byte)
  /-- A C-plane message of a carrier slot (R318): port, tag, eCPRI identity, section type (R314), beam identifier, slot. -/
  | cplane (port : Nat) (tag : Option Nat) (eaxc sect : Nat) (beam : Option Nat) (slot : Word)
  /-- A management frame that a port sends (R313, R321). -/
  | mgmt (port : Nat) (body : List Byte)
  /-- A one-way delay measurement response (R314). -/
  | delayResponse (port : Nat) (body : List Byte)
  /-- A one-way delay measurement that this device initiates, with or without a Follow_Up (R314). -/
  | delayRequest (port : Nat) (followUp : Bool) (body : List Byte)
  /-- A synchronous Ethernet output carries the recovered clock of a lane, at 156.25 MHz or 25 MHz (R313). -/
  | synce (o lane : Nat) (slow : Bool)
  /-- A PTP message: port, kind, time stamp (R337); a Delay_Resp carries the client. -/
  | ptp (port : Nat) (kind : PtpKind) (t : PtpTime)
  | ptpDelayResp (port client : Nat) (t : PtpTime)
  /-- The Follow_Up of a two-step Sync: port, time stamp of the Sync (R337). -/
  | ptpFollowUp (port : Nat) (t : PtpTime)
  /-- A pulse on a pin, which rises and stays high for some nanoseconds (R344). -/
  | pulse (p : Pin) (ns : Nat)
  /-- A pin level. -/
  | pin (p : Pin) (high : Bool)
  /-- A span packet put on a link (R296). -/
  | packet (link : Nat) (p : Packet)
  /-- The wire bits of one lane period from the comma marker on (R285). -/
  | lane (link lane : Nat) (bits : List Bool)
  /-- A frame on the Lantern control port (R375). -/
  | spi (frame : BitVec 24)
  /-- A Lantern packet on the air (R371, R373, R377): the amplitudes of the ramp, each held `step` samples, up before the packet and
  down in reverse order after it; the symbols at full amplitude. -/
  | air (ramp : List Nat) (step : Nat) (symbols : List Int)
  deriving DecidableEq, Repr

/-- A tick of the master numerology (R29, R30): radio time, kinds and counts. -/
structure Tick where
  time : Nat
  slot : Bool
  frame : Bool
  /-- Its symbol-, slot- and frame-tick counts (R49). -/
  symC : Nat
  slotC : Nat
  frameC : Nat
  /-- Studio time (2^-16 ns) that Belfry latched at the tick (R175). -/
  studio : Nat
  deriving DecidableEq, Repr

/-- How far a work item has come. -/
inductive Phase where
  | admitted | released | started | complete | expired
  deriving DecidableEq, Repr

/-- What an item does, beyond its stage (R94, R114, R123, R127). -/
inductive Work where
  | ingress | combining | estimation | demapping | decoding | encoding | mapping | precoding | egress | ssb | srs | derive | measure
  | control
  deriving DecidableEq, Repr

/-- A work item: the header of R35 and what Drum and Parapet know of it. -/
structure Item where
  id : Nat
  issue : Word
  deadline : Word
  cls : Nat
  stage : Nat
  flags : Nat
  kind : Nat
  energy : Nat
  cycles : Nat
  cluster : Nat
  gen : Nat
  unitRef : Nat
  /-- The output unit that the item writes (R44). -/
  outUnit : Nat
  /-- Watchdog edge (R37), known from release on. -/
  edge : Word
  phase : Phase
  work : Work
  carrier : Nat
  /-- Symbol 0 of the carrier slot it belongs to (R33). -/
  slot : Word
  /-- Carrier symbol, from the slot it belongs to. -/
  symbol : Nat
  /-- The grant it was generated from, 0 for none. -/
  grant : Nat
  /-- The ingress item that gates it (R95). -/
  gate : Option Nat
  /-- Its input unit was late at release or when it was read (R40). -/
  lateInput : Bool
  /-- Shed level under which it was admitted (R171). -/
  level : Nat
  /-- Half of a paired decode: 0 none, 1 A, 2 B (R105). -/
  half : Nat
  /-- Free tick of its output unit (R43). -/
  outFree : Word
  /-- Status and peak iterations of the last decoder or encoder command that ended for it (R119, R133, R149). -/
  outcome : Option (Nat × Nat)
  /-- Where the payload of its last decoder command lies (R106, R142). -/
  payload : Nat := 0
  /-- A gated item has started (R95). -/
  begun : Bool := false
  /-- It runs no more: what it had to write is written or discarded, be it past its watchdog, which does not stop it (R39). -/
  done : Bool := false
  deriving DecidableEq, Repr

/-- An output unit (R43, R44, R121). -/
structure OutUnit where
  gen : Nat
  late : Bool
  freeTick : Option Word
  egress : Bool
  deriving DecidableEq, Repr

/-- Drum (R26 to R51). -/
structure Drum where
  /-- The tick whose handling is in progress. -/
  cur : Option Tick
  /-- The tick queue (R47). -/
  queue : List Tick
  /-- The last tick issued since the start. -/
  last : Option Tick
  /-- Radio time of a fatal timing fault whose resume tick is due (R48). -/
  faultAt : Option Nat
  /-- Radio time of the step that ended the tick sequence (R49). -/
  stepAt : Option Nat
  /-- A cross-device re-plan is due (R301). -/
  replan : Bool
  /-- Widths of the links that the plan of cross-device work uses (R301). -/
  spanPlan : List Nat
  items : List Item
  units : SMap OutUnit
  nextItem : Nat
  /-- DRM_TIME_OFFSET as it was applied at the start (R31). -/
  offset : Int
  /-- Guard copies that are valid (R123): 4 * carrier + copy. -/
  guards : List Nat
  /-- Carriers that have used the previous guard copy, each with the frame, by its index, for which it did (R124). -/
  fell : List (Nat × Nat)
  deriving DecidableEq, Repr

/-- A carrier (R82). -/
structure Carrier where
  payload : List Byte
  ulq : Nat
  dlq : Nat
  home : Nat
  /-- The copy of the SSB weight table (R83). -/
  weights : List PByte
  deriving DecidableEq, Repr

/-- A flow (R186, R386). -/
structure Flow where
  id : Nat
  payload : List Byte
  slot : Nat
  deriving DecidableEq, Repr

/-- A cadence binding (R174, R185). -/
structure Binding where
  flow : Nat
  payload : List Byte
  /-- Studio frames up to this index have had their reservation (R176). -/
  placed : Nat
  deriving DecidableEq, Repr

/-- A phase accumulator (R175). -/
structure Accum where
  rate : Nat
  phase : Nat
  index : Nat
  deriving DecidableEq, Repr

/-- A cadence reservation of one slot (R176, R178). -/
structure Reserve where
  flow : Nat
  slotRef : Word
  used : Bool
  freeRun : Bool
  deriving DecidableEq, Repr

/-- A grant in hand (R89, R111): its 64 bytes and what became of it. -/
structure Grant where
  id : Nat
  downlink : Bool
  raw : List Byte
  /-- Class of the grant's items (R167, R178). -/
  cls : Nat
  /-- It has been admitted, at this shed level (R169). -/
  admitted : Option Nat
  /-- Status bits gathered for the result or the report. -/
  status : Nat
  mutedSyms : Nat
  cluster : Nat
  iterations : Nat
  answered : Bool
  /-- Where its block begins in a half of the code-block store (R102, R119). -/
  place : Nat := 0
  /-- Mean post-equalisation SINR of its PRB records (R100, R106). -/
  sinr : Nat := 0
  /-- Age of the precoders of its first symbol (R126). -/
  age : Nat := 0
  deriving DecidableEq, Repr

/-- An enqueue that was rejected and is tried again (R106, R126, R240). -/
structure Retry where
  queue : Nat
  entry : List Byte
  /-- The queue of free buffers that the entry still needs a buffer of (R106). -/
  buf : Option Nat
  flow : Nat
  downlink : Bool
  /-- The payload that goes into that buffer (R106). -/
  payload : List PByte
  deriving DecidableEq, Repr

/-- A failed cluster that waits for its retirement, and the spare being activated for it (R180, R181). -/
structure Failing where
  cluster : Nat
  spare : Option Nat
  /-- Mailbox tag and device of the CLUSTER_RETIRE that caused it (R87). -/
  cmd : Option Nat
  /-- It is a spare that failed before it took over: it has no work to hand on, and `spare` is the one activated in its place. -/
  waiting : Bool
  deriving DecidableEq, Repr

/-- Parapet and what Psiwyn keeps of the radio configuration (R155 to R186). -/
structure Parapet where
  carriers : SMap (Option Carrier)
  flows : List Flow
  nextGrant : Nat
  grants : List Grant
  retries : List Retry
  bindings : List Binding
  accums : List Accum
  /-- Studio time (2^-16 ns) and radio time latched at the previous slot tick (R175). -/
  latched : Option (Nat × Nat)
  reserves : List Reserve
  failing : List Failing
  /-- Spares whose activation is complete, and clusters with replays waiting for it (R181). -/
  ready : List Nat
  powerLimit : Nat
  guardMw : Nat
  dozeSlots : Nat
  /-- Slots without an admitted item, per cluster (R183). -/
  idle : SMap Nat
  /-- Replay and activation energy charged to the guard budget of the current slot (R180, R181). -/
  guardUsed : Nat
  /-- One more than the slot count of the carrier slot whose SRS a carrier's newest valid result comes from (R127). -/
  srs : SMap Nat
  /-- The result that a carrier's last slot-store unit used, as `srs` has it (R127): by twice the carrier, one more for the downlink. -/
  srsUsed : SMap Nat
  /-- The slot-store unit that a carrier opened last, by the same keys (R93): one more than its half and twice the count of its slot, or twice
  2^64 where that slot lies before the start of Drum. -/
  unitLast : SMap Nat
  /-- Temperature band of each cluster (R163), as predicted at the last slot tick. -/
  bands : SMap Nat
  /-- (band, cycles, nJ) measured since the last frame tick by calibration row (R165). The rows lie in control memory (R164). -/
  measured : SMap (List (Nat × Nat × Nat))
  /-- Calibration rows whose samples are not 0: those that the last frame used (R164). -/
  sampled : List Nat
  /-- Batches are refused until Psiwyn has rebuilt the calendar (R408). -/
  rebuilding : Bool
  deriving DecidableEq, Repr

/-- How far a mailbox command has come (R58, R63). -/
inductive CmdPhase where
  | posted | busy | done | pending
  deriving DecidableEq, Repr

/-- When a pending command commits (R65). -/
inductive Commit where
  | frame | slot | other
  deriving DecidableEq, Repr

/-- How a relayed request came (R70): the link, the device_index that it names, the level that it carries (R76). -/
structure Relayed where
  link : Nat
  dev : Nat
  level : Bool
  deriving DecidableEq, Repr

/-- A device's place in the relay tree (R77, R307): its index, its parent's index and the link towards it, 0xFF for none. -/
structure RelaySelf where
  index : Nat
  parent : Nat
  link : Nat
  deriving DecidableEq, Repr

/-- An outstanding mailbox command (R58). -/
structure Cmd where
  /-- The mailbox that still holds it, if any; mailbox 0 for a request that came over a relay link. -/
  mbx : Option Nat
  /-- A PCIe reset has cleared that mailbox: its status goes out as a notification (R327). -/
  lost : Bool
  /-- The 32 bytes of its header (R55). -/
  head : List Byte
  tag : Nat
  dev : Nat
  code : Nat
  payload : List Byte
  phase : CmdPhase
  commit : Commit
  status : Nat
  detail : Nat
  /-- The link on which a relayed request came, the device_index that it names, the level that it carries (R70, R76). -/
  relayed : Option Relayed := none
  /-- Registers that its acceptance changed, as they were: a takeover that aborts it puts them back (R73). -/
  undo : List (Nat × Word) := []
  deriving DecidableEq, Repr

/-- A notification that waits or was written (R66). -/
structure Notif where
  kind : Nat
  dev : Nat
  tag : Nat
  status : Nat
  tick : Word
  time : Nat
  p0 : Word
  p1 : Word
  deriving DecidableEq, Repr

/-- The notification ring (R66, R78). -/
structure Ring where
  addr : Nat
  sizeLog : Nat
  enabled : Bool
  fill : Nat
  seq : Word
  deriving DecidableEq, Repr

/-- The expert lease (R71, R80). -/
structure Lease where
  mbx : Nat
  base : Nat
  periodMs : Nat
  rw : Bool
  deriving DecidableEq, Repr

/-- Psiwyn's side of the host interface (R52 to R87, R327, R410 to R413). -/
structure HostIf where
  /-- BAR0 bytes of the mailbox areas and of the MSI-X table and pending bits (R52, R53). -/
  bar0 : SMap Byte
  /-- Mailboxes in the order in which their doorbells arrived (R64). -/
  order : List Nat
  cmds : List Cmd
  levels : BitVec 64
  ring : Ring
  backlog : List Notif
  /-- Notifications discarded since the last overflow summary (R67, R68), by kind. -/
  lostBy : SMap Nat
  vectors : SMap Nat
  /-- Advisory non-fatal errors logged since the configuration space was cleared (R323, R325): poisoned TLP, Unsupported Request. -/
  aer : List Bool
  lease : Option Lease
  /-- Devices numbered by RELAY_ENUMERATE (R307), root first. -/
  relay : List RelayDev
  /-- This device's own place in the relay tree (R77, R307). -/
  self : RelaySelf
  /-- Relay messages on their way to a link (R70). -/
  relayOut : List (Nat × Packet)
  /-- A take-over is in progress: commands that were committed are in the journal (R73). -/
  journal : List Nat
  /-- Notifications due from a running take-over (R410). -/
  deferred : List Notif
  lastTick : Word
  lastTickTime : Nat
  deriving DecidableEq, Repr

/-- The 32 bytes of state of a queue (R274). -/
structure QState where
  base : Nat
  sizeLog : Nat
  esize : Nat
  head : Word
  tail : Word
  stuck : Nat
  threshold : Nat
  owner : Nat
  hostSlot : Nat
  flags : BitVec 8
  deriving DecidableEq, Repr

/-- A cached queue state (R279). -/
structure QEntry where
  q : Nat
  st : QState
  dirty : Bool
  deriving DecidableEq, Repr

/-- A queue operation in order of arrival (R276): one whose ring access is under way, or one that waits for it. -/
structure QOp where
  agent : Nat
  q : Nat
  enq : Bool
  issued : Bool
  entry : List PByte
  /-- When it arrived, in radio units. -/
  at_ : Nat
  deriving DecidableEq, Repr

/-- The queue manager (R273 to R282). -/
structure Qm where
  /-- The state cache, most recently used first (R279). -/
  cache : List QEntry
  ops : List QOp
  /-- Queues whose host_tail was clamped at the previous read (R280). -/
  clamped : List Nat
  /-- Queues whose last enqueue was rejected (R276). -/
  rejecting : List Nat
  /-- Identifiers of the queues that were created, with their host slots (R281). -/
  created : List (Nat × Option Nat)
  deriving DecidableEq, Repr

/-- A DMA channel at work (R261 to R272). -/
structure Chan where
  /-- The 64 bytes of the current descriptor; none while the next one is still to be taken. -/
  desc : List Byte
  /-- Address of the descriptor in hand or to be read next. -/
  addr : Nat
  /-- The current descriptor's operation has run and its writes are issued. -/
  ran : Bool
  result : Nat
  bytes : Nat
  offset : Nat
  /-- A descriptor of the chain asked for the completion interrupt (R265). -/
  interrupt : Bool
  aborting : Bool
  flushing : Bool
  /-- Descriptors taken since the start: the index of the next one (DMA_CH_STATUS). -/
  taken : Nat := 0
  deriving DecidableEq, Repr

/-- A scalar register with its poison bit (R188). -/
structure SReg where
  v : Word
  p : Bool
  deriving DecidableEq, Repr

/-- An accumulator with its poison bit (R188). -/
structure AReg where
  v : BitVec 72
  p : Bool
  deriving DecidableEq, Repr

/-- A vector register of 64 bytes with one poison bit per byte (R213). -/
structure VReg where
  v : BitVec 512
  p : BitVec 64
  deriving DecidableEq, Repr

/-- The loop state of one level of the core: depth and the four levels (R188, R196). -/
structure Loops where
  depth : Nat
  start : List Word
  last : List Word
  count : List Word
  deriving DecidableEq, Repr

/-- An entry of the store buffer (R190): core address and bytes. -/
structure SbEntry where
  addr : Word
  bytes : List PByte
  deriving DecidableEq, Repr

/-- A CISS that has been sent ahead of the end of an older instruction (R236): its handle, and what a squash puts back. -/
structure Issuing where
  handle : Word
  r1 : Nat
  old : SReg
  oldF : Bool
  deriving DecidableEq, Repr

/-- A Ziliend core beside its ZCR frame (R187 to R211, R229). -/
structure Core where
  g : SMap SReg
  a : SMap SReg
  s : SMap SReg
  w : SMap SReg
  o : SMap SReg
  acc : SMap AReg
  /-- The level-0 shadow bank: G0 to G15, A0 to A7, ACC0 to ACC3, loop state (R206). -/
  sg : SMap SReg
  sa : SMap SReg
  sacc : SMap AReg
  sloops : Loops
  v : SMap VReg
  pd : SMap (BitVec 64)
  pc : Word
  /-- Where a return goes: the spec names no register for it (log entry 20). -/
  link : Word
  waiting : Bool
  sb : List SbEntry
  /-- CISS instructions sent behind an instruction that waits for another device, oldest first (R236). -/
  issuing : List Issuing
  deriving DecidableEq, Repr

/-- States of a Cupola tag (R232). -/
inductive TagState where
  | free | issued | committed | returned
  deriving DecidableEq, Repr

/-- A write that an engine command makes (R132). -/
structure EngWrite where
  addr : Nat
  bytes : List PByte
  deriving DecidableEq, Repr

/-- What the computation of a command came to (R133, R134): writes, status, detail, late errors (code, parameter). -/
structure EngResult where
  writes : List EngWrite
  status : Nat
  cycles : Nat
  energy : Nat
  detail : List Byte
  late : List (Nat × Nat)
  /-- A passing paired half claims the release word at this address (R147). -/
  claim : Option Nat
  deriving DecidableEq, Repr

/-- A Cupola tag (R231, R232). -/
structure Tag where
  state : TagState
  seq : BitVec 8
  eng : Nat
  /-- Owning core 0 to 7; 8 for a command of the system queue. -/
  owner : Nat
  held : Bool
  desc : List Byte
  /-- The command has started, and waits for operands of another device (R129). -/
  reading : Bool
  result : Option EngResult
  /-- Late errors still to be delivered (R239). -/
  late : List (Nat × Nat)
  reply : Option Nat
  deriving DecidableEq, Repr

/-- A late error in a core's queue (R239). -/
structure Late where
  tag : Nat
  eng : Nat
  code : Nat
  item : Nat
  param : Nat
  deriving DecidableEq, Repr

/-- Cupola of one cluster (R230 to R241). -/
structure Cupola where
  tags : SMap Tag
  /-- Free tags in the order in which they were freed (R231). -/
  freeTags : List Nat
  /-- Queued tags of the three engines, oldest first. -/
  q0 : List Nat
  q1 : List Nat
  q2 : List Nat
  /-- Late-error queues by core (R239), oldest first. -/
  lates : SMap (List Late)
  /-- Tags that the matrix engine's queue held when its last command started: their start cost is hidden (R141). -/
  overlap : List Nat
  deriving DecidableEq, Repr

/-- A tag after reset (R232). -/
abbrev Tag.reset : Tag :=
  { state := .free, seq := 0, eng := 0, owner := 0, held := false, desc := [], reading := false, result := none, late := [], reply := none }

/-- Cupola of a cluster after reset: all tags free, in order of number (R231; log entry 3). -/
abbrev Cupola.reset : Cupola :=
  { tags := [], freeTags := List.range 256, q0 := [], q1 := [], q2 := [], lates := [], overlap := [] }

/-- A write-merge buffer (R249): the writer, the 64-byte line and the bytes written into it. -/
structure Merge where
  agent : Nat
  line : Nat
  bytes : List (Nat × PByte)
  deriving DecidableEq, Repr

/-- A code word of the candidate table (R259): address, corrected errors, clock of the errors newest first. -/
structure Cand where
  word : Nat
  times : List Nat
  deriving DecidableEq, Repr

/-- MEC beside its registers (R242 to R260). -/
structure Mec where
  /-- First addresses of the code words whose poison marker is set (R252). -/
  poison : List Nat
  /-- Code words stored with an injected error that is uncorrectable (true) or correctable (false) (R260). -/
  upset : SMap (Option Bool)
  merges : List Merge
  /-- When the corrected errors of each cluster's memories, and the parity errors of its engines, of the last second were met, newest
  first (R135, R180 cause 1, R254). -/
  ceLog : SMap (List Nat)
  cands : List Cand
  /-- Field repair records: kind, unit, address, seconds (R259). -/
  repairs : List (Nat × Nat × Nat × Nat)
  /-- Code words of SRAM whose row repair has not taken effect (R259). -/
  pendingRows : List Nat
  /-- Engines and code words of the read-modify-writes that met an uncorrectable error, not yet reported (R135). -/
  rmwBad : List (Nat × Nat)
  /-- The scrubber's pass (R256): when it began, the ranges of addresses visited in it, whether it is complete. -/
  scrubStart : Nat
  scrubbed : List (Nat × Nat)
  scrubDone : Bool
  deriving DecidableEq, Repr

/-- A request over span that waits for its answer (R298). -/
structure SpanReq where
  tag : Nat
  agent : Nat
  addr : Nat
  len : Nat
  isWrite : Bool
  link : Nat
  /-- Device that the request goes to. -/
  dst : Nat
  /-- An instruction, a descriptor or an engine command waits for the answer (R187, R265). -/
  held : Bool
  /-- Bytes of a write. -/
  body : List PByte
  /-- Tag of the engine command that wrote (R135, R232). -/
  cmd : Option Nat
  deriving DecidableEq, Repr

/-- The answer to a held request, until what waits for it takes it: its bytes, none for an error. -/
structure SpanAns where
  agent : Nat
  dst : Nat
  addr : Nat
  len : Nat
  isWrite : Bool
  body : List PByte
  data : Option (List PByte)
  deriving DecidableEq, Repr

/-- What an end found in training (R292): the aligned lanes, their skews, the far end. -/
structure Trained where
  aligned : BitVec 5
  skews : List Nat
  peerLink : Nat
  peerIndex : Nat
  deriving DecidableEq, Repr

/-- One span link beside its registers (R283 to R304). -/
structure Link where
  training : Bool
  /-- The lanes of this end are aligned: it sends UP and awaits the peer's (R292). -/
  trained : Option Trained
  /-- Sequence of the next period to send and of the last accepted. -/
  txSeq : BitVec 15
  rxSeq : BitVec 15
  /-- Periods held for replay (R295), oldest first: sequence and payload words. -/
  held : List (BitVec 15 × List (BitVec 64))
  /-- Periods to send again from here (R295). -/
  replayFrom : Option (BitVec 15)
  /-- The period on the wire is a replayed one: a nack that arrives meanwhile asks for it (R295). -/
  resent : Bool
  nackTx : Bool
  /-- The period in progress is discarded: a lane was lost in it (R299). -/
  discard : Bool
  peerState : Nat
  peerOutA : Nat
  peerOutB : Nat
  /-- Transmit lanes in use by logical lane (R284, R300). -/
  lanes : List Nat
  spare : Option Nat
  /-- Receive lanes marked out, in ascending order (R299). -/
  rxOut : List Nat
  /-- Logical lanes of the receive direction. -/
  rxLanes : List Nat
  /-- Trailer CRC failures of each receive lane in the running second, and at key 5 that second (R299). -/
  crcErrs : SMap Nat
  credits : Nat
  owed : Nat
  /-- Words to send before the next packet: the rest of periods cut anew at a smaller width (R300). -/
  txWords : List (BitVec 64)
  txPkts : List Packet
  /-- Words received of a packet not yet whole. -/
  rxWords : List (BitVec 64)
  /-- Packets received whole, oldest first. -/
  rxPkts : List Packet
  deriving DecidableEq, Repr

/-- A link after reset: 2,048 credits (R298), logical lane k on physical lane k, lane 4 the spare (R284). -/
abbrev Link.reset : Link :=
  { training := false, trained := none, discard := false, txSeq := 0, rxSeq := 0x7FFF, held := [], replayFrom := none, resent := false, nackTx := false, peerState := 3, peerOutA := 7,
    peerOutB := 7, lanes := [0, 1, 2, 3], spare := some 4, rxOut := [], rxLanes := [0, 1, 2, 3], crcErrs := [], credits := 2048,
    owed := 0, txWords := [], txPkts := [], rxWords := [], rxPkts := [] }

/-- The span block (R283 to R310). -/
structure Span where
  links : SMap Link
  reqs : List SpanReq
  nextTag : Nat
  /-- Answers that a core or a DMA channel has not taken yet. -/
  answers : List SpanAns
  deriving DecidableEq, Repr

/-- An entry of the eCPRI flow map (R316): its 16 bytes. -/
structure EFlow where
  eaxc : Nat
  port : Nat
  dir : Nat
  carrier : Nat
  stream : Nat
  mantissa : Nat
  category : Nat
  flags : Nat
  vlan : Nat
  deriving DecidableEq, Repr

/-- What is known of a PRB block of an ingress symbol (R91, R317), by its ingress item. -/
structure Blk where
  item : Nat
  stream : Nat
  prb : Nat
  written : Bool
  erased : Bool
  deriving DecidableEq, Repr

/-- Fronthaul ports beside their registers (R311 to R322). -/
structure Eth where
  flows : List EFlow
  blocks : List Blk
  mgmtTx : SMap Nat
  mgmtRx : SMap Nat
  deriving DecidableEq, Repr

/-- A master heard (R334, R335): its last dataset, the port that heard it, the profile's selection and local_priority there, and how many
of its Announce messages have come. -/
structure Master where
  data : Announce
  port : Nat
  alternate : Bool
  localPriority : Nat
  heard : Nat
  deriving DecidableEq, Repr

/-- A time base (R328 to R336): phase at an instant of `now`, and the servo. -/
structure Base where
  /-- Radio: 2^-32 radio units; studio and system: 2^-16 ns. -/
  phase : Nat
  at_ : Nat
  /-- Frequency and slew terms in units of 10^-12. -/
  freq : Int
  slew : Int
  /-- Compensation of DAC channel 0 (R329, R349), in units of 10^-12 / 65536. -/
  comp : Int
  /-- Where the slew term ramps to (R333). -/
  target : Int
  /-- Consecutive offsets in ns, newest first, that count (R332). -/
  offsets : List Int
  /-- Consecutive offsets within lock_ns (R333). -/
  within : Nat
  announces : Nat
  /-- PPS_IN edges in sequence with a time of day before each (R332). -/
  pps : Nat
  holdFrom : Nat
  /-- The frequency term that DAC channel 0 was asked for when HOLDOVER began (R348). -/
  ask : Int
  /-- Radio phase from which on the system base moves with the radio base (R336). -/
  lead : Option Nat
  /-- The masters heard, the last one first. -/
  masters : List Master
  selected : Option Nat
  /-- The master selected last (R334). -/
  last : Option Nat
  /-- Frequency terms in force and the clock from which on, newest first (R335). -/
  freqs : List (Nat × Int)
  /-- Keeper crystal stability declared for the base (R345). -/
  xtal : Nat
  deriving DecidableEq, Repr

/-- A PTP instance of a port (R337, R346): its 24 bytes and its measurement under way. -/
structure PtpInst where
  payload : List Byte
  t1 : Option PtpTime
  t2 : Option PtpTime
  syncMaster : Nat
  clients : List Nat
  deriving DecidableEq, Repr

/-- A transmit timestamp (R340). -/
structure Txts where
  ident : BitVec 16
  t : PtpTime
  deriving DecidableEq, Repr

/-- Belfry beside its registers (R328 to R346). -/
structure Belfry where
  base0 : Base
  base1 : Base
  base2 : Base
  ptp : SMap (Option PtpInst)
  txts : SMap (List Txts)
  tlv : List Byte
  /-- Time of day for the next PPS_IN edge (R345). -/
  tod : Option PtpTime
  /-- Latched at Deep entry (R343): radio phase, system phase. -/
  sleep : Option (Nat × Nat × Nat)
  /-- Phases of the three bases at the last PPS_IN edge (R344). -/
  edge : List Nat
  discardedReqs : Nat
  deriving DecidableEq, Repr

/-- Holdover DAC generators (R350): direction up, LFSR, present value, running; the pin. -/
structure DacGen where
  up : Bool
  lfsr : BitVec 23
  value : Int
  started : Bool
  deriving DecidableEq, Repr

/-- Holdover DAC beside its registers. -/
structure Dac where
  gens : SMap DacGen
  /-- A clear latched by AON during Deep (R353). -/
  latched : Bool
  /-- The code that Belfry last requested of channel 0, held in HOLDOVER (R348). -/
  held : Option Nat
  deriving DecidableEq, Repr

/-- The power controller beside its registers (R354 to R370). -/
structure Power where
  /-- Domains whose entry is in quiesce (R364). -/
  quiesce : List Nat
  /-- Domains whose exit is under way (R359). -/
  exiting : List Nat
  /-- The same of the device (R361). -/
  deviceQuiesce : Bool
  deviceExiting : Bool
  /-- Wake sources seen during a Deep entry or in Deep (R362, R367): 1 pin, 2 alarm. -/
  wake : Nat
  /-- A wake was latched during the entry to Deep (R367). -/
  latched : Bool
  /-- A POWER_STATE_SET to Deep waits for its power-down record to be programmed (R397). -/
  downWait : Bool
  deriving DecidableEq, Repr

/-- A received Lantern packet that waits (R381). -/
structure LntPkt where
  /-- It completes a transmit descriptor and needs no buffer. -/
  tx : Bool
  /-- The buffer taken for it, once there is one. -/
  buf : Option Nat
  payload : List Byte
  /-- The entry of R381 without its buffer address. -/
  entry : List Byte
  deriving DecidableEq, Repr

/-- Lantern beside its registers (R371 to R381). -/
structure Lantern where
  pd : Int
  syncRssi : Int
  captured : Bool
  syncTime : Nat
  heldPkts : List LntPkt
  tx : Option (List Byte)
  /-- Frames on the wire and waiting: host frames marked. -/
  spi : List (Bool × BitVec 24)
  deriving DecidableEq, Repr

/-- Events and snapshots beside their registers (R382 to R390). -/
structure Events where
  /-- Shadow words by bank and frame word (R387). -/
  bank0 : SMap Word
  bank1 : SMap Word
  /-- The live table of the firmware counters by byte offset (R386); its DRAM address is not given (log entry 13). -/
  live : SMap Word
  /-- Firmware counter updates held back during the copy (R389): offset and amount. -/
  heldLive : List (Nat × Nat)
  /-- Flow slots to free at the next snapshot (R386), and whether the snapshot under way is that one. -/
  freeing : List (Nat × Bool)
  /-- A snapshot under way: its commands complete with it. -/
  snapBusy : Bool
  sincePeriodic : Nat
  /-- Epoch bits of the 64-bit wrap counters of each unit's frame (R385). -/
  epochs : SMap Nat
  deriving DecidableEq, Repr

/-- A Watchtower record before it has its sequence number (R391, R393). -/
structure Rec where
  code : Nat
  source : Nat
  p0 : Word
  p1 : Word
  p2 : Word
  p3 : Word
  seconds : Nat
  nanos : Nat
  estimated : Bool
  time : Nat
  deriving DecidableEq, Repr

/-- A suppressed code (R394): count, source of the last, clock of the first. -/
structure Supp where
  code : Nat
  count : Nat
  source : Nat
  first : Nat
  deriving DecidableEq, Repr

/-- Watchtower beside its registers (R391 to R399). -/
structure Watchtower where
  fifo : List Rec
  /-- Ring slots: sequence, power cycles and record. -/
  ring : SMap (Option (Nat × Nat × Rec))
  supp : List Supp
  /-- Records programmed to flash, newest first: sequence, power cycles, record. -/
  flash : List (Nat × Nat × Rec)
  /-- First lost sequence and count of the run of records lost from flash (R396). -/
  lost : Option (Nat × Nat)
  deriving DecidableEq, Repr

/-- State of an image slot (R402, R412, R413). -/
inductive SlotState where
  | empty | staged | active
  deriving DecidableEq, Repr

/-- An image slot in flash: its bytes, header and body, as far as they were written, and its state (R402). -/
structure Slot where
  header : List Byte
  state : SlotState
  deriving DecidableEq, Repr

/-- State of a control pair (R409 to R413). -/
inductive Pair where
  | active | standby | recovering | retired
  deriving DecidableEq, Repr

/-- Boot, reset and control pairs beside their registers (R400 to R416). -/
structure Boot where
  inReset : Bool
  tripHold : Bool
  straps : BitVec 6
  slotA : Slot
  slotB : Slot
  /-- The slot that runs: false A, true B. -/
  runsB : Bool
  pair0 : Pair
  pair1 : Pair
  /-- Failures of the pairs (R411): pair, clock. -/
  failures : List (Nat × Nat)
  /-- FW_ACTIVATE waits for its frame tick or its probation runs: seconds (R413). -/
  activate : Option Nat
  probation : Bool
  /-- The image in staging: header and body (R412). -/
  staging : Option (List Byte)
  secCounter : Nat
  /-- The start-up under way is the shortened one of a wake (R403). -/
  short : Bool
  /-- A full start-up after Deep: its lock epoch began at the wake (R331). -/
  woken : Bool
  /-- AON has been powered since the last start-up (R397). -/
  powerUp : Bool
  uniqueId : List Byte
  unlocked : Bool
  resetUnits : List Nat
  /-- Of them, those that stay Off after the reset (R181). -/
  holdOff : List Nat
  deriving DecidableEq, Repr

/-- Thermal sensors and the trip (R162, R427). -/
structure Thermal where
  sensors : SMap Sensor
  tripped : Bool
  deriving DecidableEq, Repr

/-- The machine. -/
structure State where
  /-- Commands that wait, first in, first out. -/
  pending : List Instr
  /-- Cycles of the radio time base clock since reset (R26). -/
  now : Nat
  /-- Free values drawn so far: the model's own field (log entry 5). -/
  free : Nat
  out : List Out
  regs : SMap Word
  mem : List Host.Cell
  mec : Mec
  drum : Drum
  ppt : Parapet
  host : HostIf
  qm : Qm
  dma : SMap Chan
  cores : SMap Core
  cpl : SMap Cupola
  span : Span
  eth : Eth
  blf : Belfry
  dac : Dac
  pwr : Power
  lnt : Lantern
  evt : Events
  wtr : Watchtower
  boot : Boot
  thm : Thermal
  deriving DecidableEq, Repr

/-- Why the block stops. No rule of the spec stops it. -/
inductive Fault where
  /-- Raised by no command: the spec gives every command of the table an effect. Safe. -/
  | noEffect
  deriving DecidableEq, Repr

/-- Why a command has no meaning in this model. -/
inductive Refusal where
  /-- A command whose meaning has not been written; safe: nothing can be proved of it. -/
  | notModelled (mnemonic : String)
  deriving DecidableEq, Repr

/-- What a command answers. -/
abbrev Res : Type := Host.Outcome State Fault Refusal

/-- A core after reset (R188, R211; log entry 3). -/
abbrev Core.reset : Core :=
  { g := [], a := [], s := [], w := [], o := [], acc := [], sg := [], sa := [], sacc := [], sloops := ⟨0, [], [], []⟩,
    v := [], pd := [], pc := 0, link := 0, waiting := false, sb := [], issuing := [] }

/-- A time base after reset (R330). -/
abbrev Base.reset : Base :=
  { phase := 0, at_ := 0, freq := 0, slew := 0, comp := 0, target := 0, offsets := [], within := 0, announces := 0, pps := 0, holdFrom := 0,
    ask := 0, lead := none, masters := [], selected := none, last := none, freqs := [], xtal := 0 }

/-- The machine right after reset: RESET_N released, the boot ROM in its first stage (R403). -/
def State.reset : State :=
  { pending := [], now := 0, free := 0, out := [], regs := [], mem := [],
    mec := {
      poison := [], upset := [], merges := [], ceLog := [], cands := [], repairs := [], pendingRows := [], rmwBad := [],
      scrubStart := 0, scrubbed := [], scrubDone := false },
    drum := { cur := none, queue := [], last := none, faultAt := none, stepAt := none, replan := false, spanPlan := [0, 0, 0, 0], items := [],
              units := [], nextItem := 1, offset := 0, guards := [], fell := [] },
    ppt := { carriers := [], flows := [], nextGrant := 1, grants := [], retries := [], bindings := [], accums := [],
             latched := none, reserves := [], failing := [], ready := [], powerLimit := 120000, guardMw := 4800,
             dozeSlots := 200, idle := [], guardUsed := 0, srs := [], srsUsed := [], unitLast := [], bands := [], measured := [], sampled := [], rebuilding := false },
    host := { bar0 := [], order := [], cmds := [], levels := 0,
              ring := { addr := 0, sizeLog := 8, enabled := false, fill := 0, seq := 0 }, backlog := [], lostBy := [],
              vectors := [], aer := [false, false], lease := none, relay := [], self := ⟨0, 0xFF, 0xFF⟩, relayOut := [], journal := [], deferred := [], lastTick := 0,
              lastTickTime := 0 },
    qm := { cache := [], ops := [], clamped := [], rejecting := [], created := [] },
    dma := [], cores := [], cpl := [], span := { links := [], reqs := [], nextTag := 0, answers := [] },
    eth := { flows := [], blocks := [], mgmtTx := [], mgmtRx := [] },
    blf := { base0 := Base.reset, base1 := Base.reset, base2 := Base.reset, ptp := [], txts := [], tlv := [], tod := none,
             sleep := none, edge := [0, 0, 0], discardedReqs := 0 },
    dac := { gens := [], latched := false, held := none },
    pwr := { quiesce := [], exiting := [], deviceQuiesce := false, deviceExiting := false, wake := 0, latched := false,
             downWait := false },
    lnt := { pd := 0, syncRssi := 0, captured := false, syncTime := 0, heldPkts := [], tx := none, spi := [] },
    evt := { bank0 := [], bank1 := [], live := [], heldLive := [], freeing := [], snapBusy := false, sincePeriodic := 0, epochs := [] },
    wtr := { fifo := [], ring := [], supp := [], flash := [], lost := none },
    boot := { inReset := false, tripHold := false, straps := 0, slotA := ⟨[], .empty⟩, slotB := ⟨[], .empty⟩, runsB := false,
              pair0 := .standby, pair1 := .standby, failures := [], activate := none, probation := false, staging := none,
              secCounter := 0, short := false, woken := false, powerUp := true, uniqueId := [], unlocked := true, resetUnits := [], holdOff := [] },
    thm := { sensors := [], tripped := false } }

end Sys2Proof.Machine
end

