-- ==== Sys2Proof/Machine/Bits.lean ====
section
/-! DEFINITION. Bit fields, little-endian bytes (R5), signed values, rounding, and the CRCs of the spec. -/
namespace Sys2Proof.Machine

/-- Value of a field of a word. -/
def Fld.get (f : Fld) (w : Word) : Nat := w.toNat / 2 ^ f.lo % 2 ^ f.width

/-- A word with one field replaced; the value is cut to the field's width. -/
def Fld.set (f : Fld) (w : Word) (n : Nat) : Word :=
  BitVec.ofNat 32 (w.toNat % 2 ^ f.lo + n % 2 ^ f.width * 2 ^ f.lo + w.toNat / 2 ^ (f.lo + f.width) * 2 ^ (f.lo + f.width))

/-- Largest value of a field. -/
def Fld.max (f : Fld) : Nat := 2 ^ f.width - 1

/-- Bits `hi` down to `lo` of a number. -/
def bits (n hi lo : Nat) : Nat := n / 2 ^ lo % 2 ^ (hi + 1 - lo)

/-- One bit of a number. -/
def bit (n i : Nat) : Bool := n.testBit i

/-- A flag as a number. -/
def b2n (b : Bool) : Nat := if b then 1 else 0

/-- Unsigned value of little-endian bytes (R5). -/
def leNat : List Byte → Nat
  | [] => 0
  | b :: bs => b.toNat + 256 * leNat bs

/-- The `n` little-endian bytes of a number (R5). -/
def leBytes : Nat → Nat → List Byte
  | 0, _ => []
  | n + 1, v => BitVec.ofNat 8 v :: leBytes n (v / 256)

/-- Unsigned field of `n` bytes at offset `off` of a layout. -/
def le (bs : List Byte) (off n : Nat) : Nat := leNat ((bs.drop off).take n)

/-- Signed value of the low `w` bits of a number, two's complement. -/
def sgn (w n : Nat) : Int := if n % 2 ^ w < 2 ^ (w - 1) then ((n % 2 ^ w : Nat) : Int) else ((n % 2 ^ w : Nat) : Int) - 2 ^ w

/-- Two's complement of `w` bits of an integer. -/
def twos (w : Nat) (x : Int) : Nat := (x % (2 ^ w : Int)).toNat

/-- Signed field of a layout. -/
def leS (bs : List Byte) (off n : Nat) : Int := sgn (8 * n) (le bs off n)

/-- Bytes without poison. -/
def clean (bs : List Byte) : List PByte := bs.map (fun b => ⟨b, false⟩)

/-- The values of bytes, poison left aside. -/
def vals (bs : List PByte) : List Byte := bs.map (·.v)

/-- Whether any byte is poisoned. -/
def anyP (bs : List PByte) : Bool := bs.any (·.p)

/-- Bytes that all carry poison. -/
def poisoned (bs : List Byte) : List PByte := bs.map (fun b => ⟨b, true⟩)

/-- A list cut or padded with `d` to length `n`. -/
def fit {α : Type} (d : α) : Nat → List α → List α
  | 0, _ => []
  | n + 1, [] => d :: fit d n []
  | n + 1, x :: xs => x :: fit d n xs

/-- Overwrite a list from offset `off`. -/
def splice {α : Type} (l : List α) (off : Nat) (new : List α) : List α :=
  l.take off ++ new ++ l.drop (off + new.length)

/-- Element of a list, with a default. -/
def nth {α : Type} (d : α) (l : List α) (i : Nat) : α := (l[i]?).getD d

/-- Replace one element. -/
def setNth {α : Type} (l : List α) (i : Nat) (v : α) : List α := l.set i v

/-- Ceiling of a quotient. -/
def ceilDiv (a b : Nat) : Nat := (a + b - 1) / b

/-- Ceiling of a quotient of integers, divisor positive. -/
def ceilDivI (a b : Int) : Int := -((-a) / b)

/-- Arithmetic shift right by `n` with convergent rounding (half to even), R200, R218. -/
def rndEven (x : Int) (n : Nat) : Int :=
  let q := x / (2 ^ n : Int)
  let r := x % (2 ^ n : Int)
  if n = 0 then x
  else if 2 * r < 2 ^ n then q
  else if 2 * r > 2 ^ n then q + 1
  else if q % 2 = 0 then q else q + 1

/-- Shift right by `n`, truncating toward minus infinity. -/
def rndDown (x : Int) (n : Nat) : Int := x / (2 ^ n : Int)

/-- Saturation to `w` signed bits. -/
def satS (w : Nat) (x : Int) : Int := max (-(2 ^ (w - 1) : Int)) (min ((2 ^ (w - 1) : Int) - 1) x)

/-- One step of CRC-16 with polynomial 0x1021, most significant bit first (R56). -/
def crc16Byte (c : BitVec 16) (b : Byte) : BitVec 16 :=
  (List.range 8).foldl (fun c i => if c.msb != b.getMsbD i then (c <<< 1) ^^^ 0x1021 else c <<< 1) c

/-- CRC-16 of R56 and R373: initial value 0xFFFF, no reflection, no final inversion. -/
def crc16 (bs : List Byte) : BitVec 16 := bs.foldl crc16Byte 0xFFFF

/-- One step of CRC-32 with polynomial 0x04C1_1DB7, reflected. -/
def crc32Byte (c : BitVec 32) (b : Byte) : BitVec 32 :=
  (List.range 8).foldl (fun c i => if c.getLsbD 0 != b.getLsbD i then (c >>> 1) ^^^ 0xEDB88320 else c >>> 1) c

/-- CRC-32 of R291: initial value 0xFFFF_FFFF, final inversion. -/
def crc32 (bs : List Byte) : BitVec 32 := ~~~ (bs.foldl crc32Byte 0xFFFFFFFF)

/-- `a` lies after `b` in serial arithmetic of `w` bits (R34, R391). -/
def serialAfter (w a b : Nat) : Bool :=
  let d := (a + 2 ^ w - b % 2 ^ w) % 2 ^ w
  decide (1 ≤ d) && decide (d ≤ 2 ^ (w - 1) - 1)

end Sys2Proof.Machine
end

