-- ==== Sys2Proof/Machine/Maps.lean ====
section
/-! DEFINITION. Operations on sparse tables: reading, writing, removing. A table keeps its keys rising and holds no entry
equal to what an unlisted key reads as, so equal contents are equal data. -/
namespace Sys2Proof.Machine

namespace Map

/-- What key `k` reads as, `d` where the table does not list it. -/
def get {α : Type} (d : α) : SMap α → Nat → α
  | [], _ => d
  | (k', v) :: m, k => if k' = k then v else get d m k

/-- Put an entry at its place among rising keys. -/
def insert {α : Type} (k : Nat) (v : α) : SMap α → SMap α
  | [] => [(k, v)]
  | (k', v') :: m => if k < k' then (k, v) :: (k', v') :: m else (k', v') :: insert k v m

/-- Remove a key. -/
def erase {α : Type} (k : Nat) (m : SMap α) : SMap α := m.filter (fun e => e.1 != k)

/-- Write `v` at key `k`; writing what an unlisted key reads as removes the entry. -/
def set {α : Type} [DecidableEq α] (d : α) (m : SMap α) (k : Nat) (v : α) : SMap α :=
  if v = d then erase k m else insert k v (erase k m)

/-- Change the value at a key. -/
def upd {α : Type} [DecidableEq α] (d : α) (m : SMap α) (k : Nat) (f : α → α) : SMap α := set d m k (f (get d m k))

/-- Remove the keys of a range. -/
def clear {α : Type} (lo hi : Nat) (m : SMap α) : SMap α := m.filter (fun e => !(decide (lo ≤ e.1) && decide (e.1 < hi)))

/-- Keys strictly rising. -/
def rising {α : Type} : SMap α → Bool
  | [] => true
  | [_] => true
  | a :: b :: m => decide (a.1 < b.1) && rising (b :: m)

/-- The canonical form over a default. -/
def wf {α : Type} [DecidableEq α] (d : α) (m : SMap α) : Bool := rising m && m.all (fun e => decide (e.2 ≠ d))

end Map

end Sys2Proof.Machine
end

