-- ==== Sys2Proof/Machine/RegMap.lean ====
section
/-! DEFINITION. The register maps of the spec: for every register its offset in the window of its block, its instances, and its
fields with place, width, access code and reset value (R6, R9, R11, and the register sections of the chapters). -/
namespace Sys2Proof.Machine

/-- Access codes (R9). -/
inductive Acc where
  | rw | ro | wo | w1c | w1s | rc
  deriving DecidableEq, Repr

/-- A field: lowest bit, width, access code, reset value. -/
structure FieldD where
  lo : Nat
  width : Nat
  acc : Acc
  rst : Nat
  deriving DecidableEq, Repr

/-- A register: offset of its first instance in the window, (count, stride) of each repetition, fields. -/
structure RegD where
  off : Nat
  dims : List (Nat × Nat)
  fields : List FieldD
  deriving DecidableEq, Repr

/-- Registers of block DRM. -/
def regsDRM : List RegD := [
  ⟨0x0, [], [⟨4, 1, .rw, 0⟩, ⟨2, 2, .rw, 1⟩, ⟨0, 1, .rw, 0⟩]⟩,
  ⟨0x4, [], [⟨20, 1, .ro, 0⟩, ⟨19, 1, .ro, 0⟩, ⟨18, 1, .ro, 0⟩, ⟨16, 2, .ro, 0⟩, ⟨14, 2, .rc, 0⟩, ⟨10, 2, .ro, 1⟩, ⟨9, 1, .rc, 0⟩, ⟨8, 1, .ro, 0⟩, ⟨1, 1, .ro, 0⟩, ⟨0, 1, .ro, 0⟩]⟩,
  ⟨0x8, [], [⟨0, 32, .rw, 0⟩]⟩,
  ⟨0xC, [], [⟨12, 2, .rw, 1⟩, ⟨10, 2, .rw, 1⟩, ⟨8, 2, .rw, 1⟩, ⟨6, 2, .rw, 1⟩, ⟨4, 2, .rw, 1⟩, ⟨2, 2, .rw, 1⟩, ⟨0, 2, .rw, 1⟩]⟩,
  ⟨0x10, [], [⟨22, 10, .ro, 0⟩, ⟨15, 7, .ro, 0⟩, ⟨0, 4, .ro, 0⟩]⟩,
  ⟨0x18, [], [⟨0, 32, .ro, 0⟩]⟩,
  ⟨0x1C, [], [⟨0, 32, .ro, 0⟩]⟩,
  ⟨0x20, [], [⟨0, 32, .ro, 0⟩]⟩,
  ⟨0x24, [], [⟨0, 32, .ro, 0⟩]⟩,
  ⟨0x28, [], [⟨0, 32, .ro, 0⟩]⟩,
  ⟨0x2C, [], [⟨0, 32, .ro, 0⟩]⟩,
  ⟨0x30, [], [⟨0, 32, .rc, 0⟩]⟩,
  ⟨0x34, [], [⟨0, 32, .rc, 0⟩]⟩,
  ⟨0x38, [], [⟨0, 32, .rc, 0⟩]⟩,
  ⟨0x3C, [], [⟨0, 32, .ro, 0⟩]⟩,
  ⟨0x40, [], [⟨0, 32, .rc, 0⟩]⟩,
  ⟨0x44, [], [⟨0, 32, .rc, 0⟩]⟩,
  ⟨0x48, [], [⟨1, 1, .w1c, 0⟩, ⟨0, 1, .w1c, 0⟩]⟩]

/-- Registers of block PCE. -/
def regsPCE : List RegD := [
  ⟨0x80000, [], [⟨16, 16, .ro, 0⟩, ⟨8, 8, .ro, 3⟩, ⟨3, 1, .ro, 0⟩, ⟨2, 1, .wo, 0⟩, ⟨1, 1, .ro, 0⟩, ⟨0, 1, .ro, 0⟩]⟩,
  ⟨0x80004, [], [⟨0, 16, .rw, 100⟩]⟩,
  ⟨0x81000, [(64, 0x10)], [⟨0, 16, .wo, 0⟩]⟩,
  ⟨0x81004, [(64, 0x10)], [⟨16, 16, .ro, 0⟩, ⟨0, 2, .ro, 0⟩]⟩,
  ⟨0x81008, [(64, 0x10)], [⟨0, 1, .wo, 0⟩]⟩,
  ⟨0x8100C, [(64, 0x10)], [⟨0, 32, .rc, 0⟩]⟩,
  ⟨0x82000, [], [⟨0, 16, .rw, 0⟩]⟩,
  ⟨0x82004, [], [⟨16, 1, .ro, 1⟩, ⟨0, 16, .ro, 0⟩]⟩,
  ⟨0x82008, [], [⟨0, 32, .rc, 0⟩]⟩,
  ⟨0x8200C, [], [⟨0, 32, .rc, 0⟩]⟩,
  ⟨0x83000, [], [⟨0, 2, .rw, 0⟩]⟩,
  ⟨0x83004, [], [⟨4, 4, .ro, 0⟩, ⟨0, 4, .ro, 0⟩]⟩]

/-- Registers of block ZCL. -/
def regsZCL : List RegD := [
  ⟨0x1000, [(18, 0x8000)], [⟨8, 1, .rw, 0⟩, ⟨0, 6, .rw, 0⟩]⟩,
  ⟨0x1004, [(18, 0x8000)], [⟨0, 32, .rc, 0⟩]⟩]

/-- Registers of block PPT. -/
def regsPPT : List RegD := [
  ⟨0x0, [], [⟨24, 8, .rw, 240⟩, ⟨16, 8, .rw, 240⟩, ⟨8, 5, .rw, 16⟩, ⟨0, 1, .rw, 0⟩]⟩,
  ⟨0x4, [], [⟨24, 2, .ro, 0⟩, ⟨19, 5, .ro, 0⟩, ⟨16, 3, .ro, 0⟩, ⟨12, 1, .ro, 0⟩, ⟨11, 1, .rc, 0⟩, ⟨10, 1, .rc, 0⟩, ⟨0, 4, .ro, 0⟩]⟩,
  ⟨0x8, [], [⟨0, 32, .rw, 0⟩]⟩,
  ⟨0xC, [], [⟨0, 32, .rw, 0⟩]⟩,
  ⟨0x10, [], [⟨16, 16, .rw, 27648⟩, ⟨0, 16, .ro, 0⟩]⟩,
  ⟨0x14, [], [⟨0, 32, .ro, 0⟩]⟩,
  ⟨0x18, [], [⟨0, 32, .rc, 0⟩]⟩,
  ⟨0x1C, [], [⟨0, 32, .rc, 0⟩]⟩,
  ⟨0x20, [], [⟨0, 32, .rc, 0⟩]⟩,
  ⟨0x24, [], [⟨0, 32, .rc, 0⟩]⟩,
  ⟨0x28, [], [⟨0, 32, .rc, 0⟩]⟩,
  ⟨0x2C, [], [⟨8, 9, .ro, 0⟩, ⟨0, 8, .ro, 0⟩]⟩,
  ⟨0x30, [], [⟨0, 16, .rw, 64⟩]⟩,
  ⟨0x100, [(18, 0x4)], [⟨0, 32, .ro, 0⟩]⟩,
  ⟨0x180, [(18, 0x4)], [⟨16, 4, .ro, 0⟩, ⟨0, 6, .w1c, 0⟩]⟩]

/-- Registers of block ZCR. -/
def regsZCR : List RegD := [
  ⟨0x0, [(144, 0x1000)], [⟨0, 1, .rw, 0⟩]⟩,
  ⟨0x4, [(144, 0x1000)], [⟨2, 30, .rw, 0⟩]⟩,
  ⟨0x8, [(144, 0x1000)], [⟨5, 1, .rw, 0⟩, ⟨4, 1, .rw, 0⟩, ⟨0, 3, .rw, 0⟩]⟩,
  ⟨0xC, [(144, 0x1000)], [⟨4, 2, .ro, 0⟩, ⟨2, 1, .ro, 0⟩, ⟨1, 1, .w1c, 0⟩, ⟨0, 1, .w1c, 0⟩]⟩,
  ⟨0x10, [(144, 0x1000)], [⟨0, 7, .rw, 71⟩]⟩,
  ⟨0x14, [(144, 0x1000)], [⟨0, 3, .ro, 0⟩]⟩,
  ⟨0x20, [(144, 0x1000), (4, 0x10)], [⟨0, 32, .rw, 0⟩]⟩,
  ⟨0x24, [(144, 0x1000), (4, 0x10)], [⟨0, 32, .rw, 0⟩]⟩,
  ⟨0x28, [(144, 0x1000), (4, 0x10)], [⟨0, 24, .rw, 0⟩]⟩,
  ⟨0x60, [(144, 0x1000)], [⟨0, 32, .rw, 0⟩]⟩,
  ⟨0x64, [(144, 0x1000)], [⟨0, 32, .rw, 0⟩]⟩,
  ⟨0x68, [(144, 0x1000)], [⟨16, 16, .w1s, 0⟩, ⟨0, 16, .ro, 0⟩]⟩,
  ⟨0x70, [(144, 0x1000)], [⟨0, 32, .rw, 0⟩]⟩,
  ⟨0x74, [(144, 0x1000)], [⟨0, 32, .rw, 0⟩]⟩,
  ⟨0x78, [(144, 0x1000)], [⟨16, 5, .ro, 0⟩, ⟨1, 2, .rw, 0⟩, ⟨0, 1, .rw, 0⟩]⟩,
  ⟨0x7C, [(144, 0x1000)], [⟨31, 1, .ro, 0⟩, ⟨16, 5, .ro, 0⟩, ⟨8, 8, .ro, 0⟩, ⟨1, 2, .rw, 0⟩, ⟨0, 1, .rw, 0⟩]⟩,
  ⟨0x80, [(144, 0x1000)], [⟨0, 32, .ro, 0⟩]⟩,
  ⟨0x84, [(144, 0x1000)], [⟨0, 18, .rw, 0⟩]⟩,
  ⟨0x88, [(144, 0x1000)], [⟨0, 18, .rw, 0⟩]⟩,
  ⟨0x8C, [(144, 0x1000)], [⟨0, 32, .rw, 0⟩]⟩,
  ⟨0x90, [(144, 0x1000)], [⟨0, 32, .ro, 0⟩]⟩,
  ⟨0x94, [(144, 0x1000)], [⟨0, 32, .ro, 0⟩]⟩,
  ⟨0x98, [(144, 0x1000)], [⟨0, 32, .rc, 0⟩]⟩,
  ⟨0xA0, [(144, 0x1000)], [⟨0, 16, .ro, 64⟩]⟩,
  ⟨0xA4, [(144, 0x1000)], [⟨0, 6, .rw, 0⟩]⟩,
  ⟨0xA8, [(144, 0x1000)], [⟨8, 6, .ro, 0⟩, ⟨0, 1, .w1c, 0⟩]⟩,
  ⟨0xB0, [(144, 0x1000)], [⟨0, 7, .rw, 64⟩]⟩]

/-- Registers of block CPL. -/
def regsCPL : List RegD := [
  ⟨0x0, [(18, 0x1000)], [⟨0, 8, .rw, 16⟩]⟩,
  ⟨0x4, [(18, 0x1000)], [⟨16, 9, .ro, 0⟩, ⟨0, 9, .ro, 256⟩]⟩,
  ⟨0x8, [(18, 0x1000)], [⟨0, 32, .rc, 0⟩]⟩,
  ⟨0xC, [(18, 0x1000)], [⟨0, 32, .rc, 0⟩]⟩,
  ⟨0x10, [(18, 0x1000)], [⟨0, 32, .rc, 0⟩]⟩,
  ⟨0x100, [(18, 0x1000), (8, 0x20)], [⟨31, 1, .ro, 0⟩, ⟨24, 4, .ro, 0⟩, ⟨20, 2, .ro, 0⟩, ⟨8, 8, .ro, 0⟩, ⟨0, 8, .ro, 0⟩]⟩,
  ⟨0x104, [(18, 0x1000), (8, 0x20)], [⟨0, 32, .ro, 0⟩]⟩,
  ⟨0x108, [(18, 0x1000), (8, 0x20)], [⟨0, 32, .ro, 0⟩]⟩,
  ⟨0x10C, [(18, 0x1000), (8, 0x20)], [⟨0, 32, .ro, 0⟩]⟩,
  ⟨0x110, [(18, 0x1000), (8, 0x20)], [⟨0, 1, .wo, 0⟩]⟩,
  ⟨0x114, [(18, 0x1000), (8, 0x20)], [⟨0, 32, .rc, 0⟩]⟩]

/-- Registers of block MEC. -/
def regsMEC : List RegD := [
  ⟨0x0, [], [⟨1, 1, .rw, 1⟩, ⟨0, 1, .rw, 0⟩]⟩,
  ⟨0x4, [], [⟨16, 16, .rc, 0⟩, ⟨6, 1, .w1c, 0⟩, ⟨0, 6, .ro, 0⟩]⟩,
  ⟨0x10, [], [⟨0, 32, .rc, 0⟩]⟩,
  ⟨0x14, [], [⟨0, 32, .rc, 0⟩]⟩,
  ⟨0x18, [], [⟨0, 32, .rc, 0⟩]⟩,
  ⟨0x20, [], [⟨0, 32, .ro, 0⟩]⟩,
  ⟨0x24, [], [⟨0, 16, .ro, 0⟩]⟩,
  ⟨0x28, [], [⟨0, 32, .ro, 0⟩]⟩,
  ⟨0x2C, [], [⟨0, 16, .ro, 0⟩]⟩,
  ⟨0x30, [], [⟨0, 8, .rw, 24⟩]⟩,
  ⟨0x34, [], [⟨0, 32, .ro, 0⟩]⟩,
  ⟨0x40, [], [⟨0, 32, .rw, 0⟩]⟩,
  ⟨0x44, [], [⟨0, 16, .rw, 0⟩]⟩,
  ⟨0x48, [], [⟨1, 2, .rw, 0⟩, ⟨0, 1, .rw, 0⟩]⟩,
  ⟨0x60, [], [⟨1, 1, .ro, 0⟩, ⟨0, 1, .ro, 0⟩]⟩,
  ⟨0x200, [(18, 0x4)], [⟨0, 32, .ro, 0⟩]⟩,
  ⟨0x1000, [(64, 0x10)], [⟨0, 32, .rw, 0⟩]⟩,
  ⟨0x1004, [(64, 0x10)], [⟨0, 32, .rw, 0⟩]⟩,
  ⟨0x1008, [(64, 0x10)], [⟨3, 1, .ro, 0⟩, ⟨2, 1, .w1s, 0⟩, ⟨1, 1, .rw, 0⟩, ⟨0, 1, .rw, 0⟩]⟩]

/-- Registers of block DMA. -/
def regsDMA : List RegD := [
  ⟨0x0, [(22, 0x8000)], [⟨0, 1, .w1s, 0⟩]⟩,
  ⟨0x4, [(22, 0x8000)], [⟨0, 1, .ro, 1⟩]⟩,
  ⟨0x8, [(22, 0x8000)], [⟨0, 32, .rc, 0⟩]⟩,
  ⟨0x100, [(22, 0x8000), (32, 0x40)], [⟨5, 3, .rw, 0⟩, ⟨3, 2, .rw, 0⟩, ⟨0, 1, .w1s, 0⟩]⟩,
  ⟨0x104, [(22, 0x8000), (32, 0x40)], [⟨16, 16, .ro, 0⟩, ⟨0, 3, .ro, 0⟩]⟩,
  ⟨0x108, [(22, 0x8000), (32, 0x40)], [⟨0, 32, .rw, 0⟩]⟩,
  ⟨0x10C, [(22, 0x8000), (32, 0x40)], [⟨0, 16, .rw, 0⟩]⟩,
  ⟨0x110, [(22, 0x8000), (32, 0x40)], [⟨20, 1, .rw, 0⟩, ⟨0, 20, .rw, 0⟩]⟩,
  ⟨0x114, [(22, 0x8000), (32, 0x40)], [⟨0, 21, .rw, 0⟩]⟩,
  ⟨0x118, [(22, 0x8000), (32, 0x40)], [⟨0, 21, .rw, 0⟩]⟩,
  ⟨0x11C, [(22, 0x8000), (32, 0x40)], [⟨0, 32, .ro, 0⟩]⟩,
  ⟨0x120, [(22, 0x8000), (32, 0x40)], [⟨0, 1, .wo, 0⟩]⟩,
  ⟨0x124, [(22, 0x8000), (32, 0x40)], [⟨0, 2, .ro, 0⟩]⟩,
  ⟨0x128, [(22, 0x8000), (32, 0x40)], [⟨16, 16, .ro, 0⟩, ⟨0, 8, .ro, 0⟩]⟩,
  ⟨0x12C, [(22, 0x8000), (32, 0x40)], [⟨0, 32, .ro, 0⟩]⟩,
  ⟨0x130, [(22, 0x8000), (32, 0x40)], [⟨0, 16, .ro, 0⟩]⟩]

/-- Registers of block QMG. -/
def regsQMG : List RegD := [
  ⟨0x0, [], [⟨0, 1, .rw, 0⟩]⟩,
  ⟨0x8, [], [⟨0, 32, .rw, 0⟩]⟩,
  ⟨0xC, [], [⟨0, 16, .rw, 0⟩]⟩,
  ⟨0x10, [], [⟨0, 32, .rw, 0⟩]⟩,
  ⟨0x14, [], [⟨0, 16, .rw, 0⟩]⟩,
  ⟨0x20, [], [⟨0, 32, .rc, 0⟩]⟩,
  ⟨0x24, [], [⟨0, 32, .rc, 0⟩]⟩,
  ⟨0x28, [], [⟨0, 20, .ro, 0⟩]⟩,
  ⟨0x30, [], [⟨0, 20, .rw, 0⟩]⟩,
  ⟨0x40, [(8, 0x4)], [⟨0, 32, .ro, 0⟩]⟩]

/-- Registers of block SPN. -/
def regsSPN : List RegD := [
  ⟨0x0, [], [⟨8, 1, .rw, 0⟩, ⟨0, 3, .ro, 0⟩]⟩,
  ⟨0x4, [], [⟨0, 16, .rw, 100⟩]⟩,
  ⟨0x40, [(8, 0x4)], [⟨5, 1, .rw, 0⟩, ⟨3, 2, .rw, 0⟩, ⟨2, 1, .rw, 0⟩, ⟨0, 2, .rw, 0⟩]⟩,
  ⟨0x1000, [(4, 0x1000)], [⟨8, 8, .rw, 8⟩, ⟨1, 1, .w1s, 0⟩, ⟨0, 1, .rw, 0⟩]⟩,
  ⟨0x1004, [(4, 0x1000)], [⟨30, 2, .ro, 3⟩, ⟨27, 3, .ro, 7⟩, ⟨24, 3, .ro, 7⟩, ⟨20, 3, .ro, 7⟩, ⟨16, 3, .ro, 0⟩, ⟨8, 2, .ro, 0⟩, ⟨0, 8, .ro, 0⟩]⟩,
  ⟨0x1008, [(4, 0x1000)], [⟨0, 32, .rc, 0⟩]⟩,
  ⟨0x100C, [(4, 0x1000)], [⟨0, 32, .rc, 0⟩]⟩,
  ⟨0x1010, [(4, 0x1000)], [⟨0, 32, .rc, 0⟩]⟩,
  ⟨0x1014, [(4, 0x1000)], [⟨0, 32, .rc, 0⟩]⟩,
  ⟨0x1020, [(4, 0x1000), (5, 0x4)], [⟨16, 9, .ro, 0⟩, ⟨3, 1, .ro, 0⟩, ⟨2, 1, .ro, 0⟩, ⟨1, 1, .ro, 0⟩, ⟨0, 1, .ro, 0⟩]⟩,
  ⟨0x1040, [(4, 0x1000)], [⟨4, 5, .rw, 24⟩, ⟨1, 3, .rw, 0⟩, ⟨0, 1, .w1s, 0⟩]⟩,
  ⟨0x1044, [(4, 0x1000)], [⟨4, 12, .ro, 0⟩, ⟨0, 2, .ro, 0⟩]⟩,
  ⟨0x1048, [(4, 0x1000)], [⟨0, 32, .rw, 0⟩]⟩,
  ⟨0x104C, [(4, 0x1000)], [⟨0, 16, .rw, 0⟩]⟩]

/-- Registers of block ETH. -/
def regsETH : List RegD := [
  ⟨0x0, [(33, 0x4000)], [⟨16, 16, .rw, 1500⟩, ⟨3, 1, .rw, 0⟩, ⟨1, 2, .rw, 0⟩, ⟨0, 1, .rw, 0⟩]⟩,
  ⟨0x4, [(33, 0x4000)], [⟨8, 4, .rw, 2⟩, ⟨4, 2, .rw, 1⟩, ⟨0, 3, .rw, 2⟩]⟩,
  ⟨0x8, [(33, 0x4000)], [⟨3, 4, .ro, 0⟩, ⟨2, 1, .ro, 0⟩, ⟨1, 1, .ro, 0⟩, ⟨0, 1, .ro, 0⟩]⟩,
  ⟨0x10, [(33, 0x4000)], [⟨0, 32, .rc, 0⟩]⟩,
  ⟨0x14, [(33, 0x4000)], [⟨0, 32, .rc, 0⟩]⟩,
  ⟨0x18, [(33, 0x4000)], [⟨0, 32, .rc, 0⟩]⟩,
  ⟨0x1C, [(33, 0x4000)], [⟨0, 32, .rc, 0⟩]⟩,
  ⟨0x20, [(33, 0x4000)], [⟨0, 32, .rc, 0⟩]⟩,
  ⟨0x24, [(33, 0x4000)], [⟨0, 32, .rc, 0⟩]⟩,
  ⟨0x28, [(33, 0x4000)], [⟨0, 32, .rc, 0⟩]⟩,
  ⟨0x2C, [(33, 0x4000)], [⟨0, 32, .rc, 0⟩]⟩,
  ⟨0x84000, [], [⟨23, 1, .ro, 0⟩, ⟨22, 1, .rw, 0⟩, ⟨21, 1, .rw, 0⟩, ⟨16, 5, .rw, 0⟩, ⟨7, 1, .ro, 0⟩, ⟨6, 1, .rw, 0⟩, ⟨5, 1, .rw, 0⟩, ⟨0, 5, .rw, 0⟩]⟩]

/-- Registers of block BLF. -/
def regsBLF : List RegD := [
  ⟨0x0, [], [⟨0, 32, .ro, 0⟩]⟩,
  ⟨0x4, [], [⟨0, 32, .ro, 0⟩]⟩,
  ⟨0x8, [], [⟨0, 32, .ro, 0⟩]⟩,
  ⟨0xC, [], [⟨0, 32, .ro, 30000⟩]⟩,
  ⟨0x10, [], [⟨0, 1, .ro, 0⟩]⟩,
  ⟨0x18, [], [⟨0, 32, .ro, 0⟩]⟩,
  ⟨0x1C, [], [⟨0, 32, .ro, 0⟩]⟩,
  ⟨0x20, [], [⟨8, 8, .rw, 100⟩, ⟨2, 2, .rw, 0⟩, ⟨1, 1, .rw, 0⟩, ⟨0, 1, .rw, 0⟩]⟩,
  ⟨0x24, [], [⟨16, 16, .rw, 100⟩, ⟨1, 4, .rw, 0⟩, ⟨0, 1, .rw, 0⟩]⟩,
  ⟨0x28, [], [⟨24, 8, .rw, 240⟩, ⟨16, 8, .rw, 60⟩, ⟨8, 8, .rw, 15⟩, ⟨0, 8, .rw, 1⟩]⟩,
  ⟨0x30, [], [⟨0, 32, .ro, 0⟩]⟩,
  ⟨0x34, [], [⟨0, 32, .ro, 0⟩]⟩,
  ⟨0x1000, [(3, 0x1000)], [⟨4, 1, .w1s, 0⟩, ⟨0, 2, .rw, 0⟩]⟩,
  ⟨0x1004, [(3, 0x1000)], [⟨16, 16, .ro, 0⟩, ⟨8, 1, .ro, 0⟩, ⟨4, 3, .ro, 0⟩, ⟨0, 3, .ro, 0⟩]⟩,
  ⟨0x1008, [(3, 0x1000)], [⟨16, 16, .rw, 1000⟩, ⟨0, 16, .rw, 50⟩]⟩,
  ⟨0x100C, [(3, 0x1000)], [⟨0, 32, .rw, 100⟩]⟩,
  ⟨0x1010, [(3, 0x1000)], [⟨0, 32, .ro, 0⟩]⟩,
  ⟨0x1014, [(3, 0x1000)], [⟨0, 32, .ro, 0⟩]⟩,
  ⟨0x1018, [(3, 0x1000)], [⟨0, 32, .ro, 0⟩]⟩,
  ⟨0x1020, [(3, 0x1000)], [⟨0, 32, .ro, 0⟩]⟩,
  ⟨0x1024, [(3, 0x1000)], [⟨0, 32, .ro, 0⟩]⟩,
  ⟨0x1028, [(3, 0x1000)], [⟨0, 32, .ro, 0⟩]⟩,
  ⟨0x102C, [(3, 0x1000)], [⟨0, 32, .ro, 0⟩]⟩,
  ⟨0x1030, [(3, 0x1000)], [⟨0, 32, .rc, 0⟩]⟩,
  ⟨0x1034, [(3, 0x1000)], [⟨0, 32, .rc, 0⟩]⟩,
  ⟨0x1038, [(3, 0x1000)], [⟨0, 32, .ro, 0⟩]⟩,
  ⟨0x103C, [(3, 0x1000)], [⟨0, 32, .ro, 0⟩]⟩,
  ⟨0x8000, [(33, 0x40)], [⟨7, 1, .w1c, 0⟩, ⟨0, 7, .ro, 0⟩]⟩,
  ⟨0x8004, [(33, 0x40)], [⟨31, 1, .ro, 0⟩, ⟨0, 16, .ro, 0⟩]⟩,
  ⟨0x8008, [(33, 0x40)], [⟨0, 32, .ro, 0⟩]⟩,
  ⟨0x800C, [(33, 0x40)], [⟨0, 32, .ro, 0⟩]⟩,
  ⟨0x8010, [(33, 0x40)], [⟨0, 32, .ro, 0⟩]⟩,
  ⟨0x8014, [(33, 0x40)], [⟨0, 1, .wo, 0⟩]⟩,
  ⟨0x8018, [(33, 0x40)], [⟨0, 32, .rc, 0⟩]⟩]

/-- Registers of block HDC. -/
def regsHDC : List RegD := [
  ⟨0x0, [], [⟨4, 1, .ro, 0⟩, ⟨3, 1, .w1c, 0⟩, ⟨2, 1, .w1c, 0⟩, ⟨1, 1, .w1c, 0⟩, ⟨0, 1, .ro, 0⟩]⟩,
  ⟨0x4, [], [⟨0, 32, .rc, 0⟩]⟩,
  ⟨0x100, [(4, 0x100)], [⟨2, 2, .rw, 0⟩, ⟨0, 2, .rw, 0⟩]⟩,
  ⟨0x104, [(4, 0x100)], [⟨0, 20, .rw, 0⟩]⟩,
  ⟨0x108, [(4, 0x100)], [⟨0, 20, .rw, 0⟩]⟩,
  ⟨0x10C, [(4, 0x100)], [⟨0, 20, .ro, 0⟩]⟩,
  ⟨0x110, [(4, 0x100)], [⟨0, 20, .rw, 16⟩]⟩,
  ⟨0x114, [(4, 0x100)], [⟨0, 16, .rw, 12799⟩]⟩,
  ⟨0x118, [(4, 0x100)], [⟨0, 20, .rw, 0⟩]⟩,
  ⟨0x11C, [(4, 0x100)], [⟨0, 32, .rw, 0⟩]⟩]

/-- Registers of block PWR. -/
def regsPWR : List RegD := [
  ⟨0x0, [], [⟨8, 3, .ro, 7⟩, ⟨4, 3, .ro, 7⟩, ⟨0, 3, .ro, 1⟩]⟩,
  ⟨0x4, [], [⟨0, 2, .wo, 0⟩]⟩,
  ⟨0x8, [], [⟨1, 1, .rw, 0⟩, ⟨0, 1, .rw, 1⟩]⟩,
  ⟨0xC, [], [⟨2, 1, .w1c, 0⟩, ⟨1, 1, .w1c, 0⟩, ⟨0, 1, .w1c, 0⟩]⟩,
  ⟨0x10, [], [⟨0, 32, .rw, 0⟩]⟩,
  ⟨0x14, [], [⟨0, 32, .rw, 0⟩]⟩,
  ⟨0x18, [], [⟨0, 1, .rw, 0⟩]⟩,
  ⟨0x20, [], [⟨9, 23, .rw, 0⟩]⟩,
  ⟨0x24, [], [⟨0, 32, .rw, 0⟩]⟩,
  ⟨0x30, [], [⟨0, 32, .rc, 0⟩]⟩,
  ⟨0x38, [], [⟨0, 32, .rc, 0⟩]⟩,
  ⟨0x3C, [], [⟨0, 32, .rc, 0⟩]⟩,
  ⟨0x34, [], [⟨16, 16, .ro, 65535⟩, ⟨8, 8, .ro, 0⟩, ⟨0, 8, .ro, 0⟩]⟩,
  ⟨0x100, [(96, 0x4)], [⟨12, 1, .ro, 0⟩, ⟨8, 3, .ro, 7⟩, ⟨4, 3, .ro, 7⟩, ⟨0, 3, .ro, 0⟩]⟩,
  ⟨0x300, [(96, 0x4)], [⟨0, 3, .wo, 0⟩]⟩,
  ⟨0x500, [(18, 0x4)], [⟨0, 16, .rw, 65535⟩]⟩]

/-- Registers of block LNT. -/
def regsLNT : List RegD := [
  ⟨0x0, [], [⟨8, 8, .rw, 3⟩, ⟨3, 1, .rw, 0⟩, ⟨2, 1, .rw, 1⟩, ⟨1, 1, .rw, 0⟩, ⟨0, 1, .rw, 0⟩]⟩,
  ⟨0x4, [], [⟨8, 6, .rw, 32⟩, ⟨2, 2, .rw, 1⟩, ⟨1, 1, .rw, 0⟩, ⟨0, 1, .rw, 0⟩]⟩,
  ⟨0x8, [], [⟨0, 32, .rw, 33554432⟩]⟩,
  ⟨0xC, [], [⟨0, 32, .rw, 1513920225⟩]⟩,
  ⟨0x10, [], [⟨10, 11, .rw, 48⟩, ⟨9, 1, .rw, 1⟩, ⟨0, 8, .rw, 32⟩]⟩,
  ⟨0x14, [], [⟨16, 4, .rw, 6⟩, ⟨0, 16, .rw, 16384⟩]⟩,
  ⟨0x18, [], [⟨24, 8, .rw, 0⟩, ⟨16, 8, .rw, 238⟩, ⟨12, 4, .rw, 2⟩, ⟨0, 12, .rw, 64⟩]⟩,
  ⟨0x1C, [], [⟨24, 8, .rw, 8⟩, ⟨8, 4, .rw, 1⟩, ⟨0, 7, .rw, 16⟩]⟩,
  ⟨0x20, [], [⟨16, 16, .ro, 0⟩, ⟨8, 6, .ro, 0⟩, ⟨4, 4, .ro, 0⟩, ⟨3, 1, .ro, 0⟩, ⟨0, 2, .ro, 0⟩]⟩,
  ⟨0x24, [], [⟨31, 1, .ro, 0⟩, ⟨24, 1, .w1s, 0⟩, ⟨0, 24, .rw, 0⟩]⟩,
  ⟨0x28, [], [⟨0, 16, .ro, 0⟩]⟩,
  ⟨0x30, [], [⟨0, 20, .rw, 0⟩]⟩,
  ⟨0x34, [], [⟨0, 20, .rw, 0⟩]⟩,
  ⟨0x38, [], [⟨0, 20, .rw, 0⟩]⟩,
  ⟨0x40, [(10, 0x4)], [⟨0, 32, .rc, 0⟩]⟩,
  ⟨0x200, [(64, 0x4)], [⟨16, 16, .rw, 0⟩, ⟨0, 16, .rw, 0⟩]⟩]

/-- Registers of block EVT. -/
def regsEVT : List RegD := [
  ⟨0x0, [(32, 0x10)], [⟨0, 32, .w1c, 0⟩]⟩,
  ⟨0x4, [(32, 0x10)], [⟨0, 32, .rw, 0⟩]⟩,
  ⟨0x8, [(32, 0x10)], [⟨0, 32, .rw, 0⟩]⟩,
  ⟨0xC, [(32, 0x10)], [⟨0, 32, .rw, 4294967295⟩]⟩,
  ⟨0x400, [], [⟨16, 1, .w1s, 0⟩, ⟨0, 16, .rw, 0⟩]⟩,
  ⟨0x404, [], [⟨0, 32, .ro, 0⟩]⟩,
  ⟨0x408, [], [⟨0, 32, .ro, 0⟩]⟩,
  ⟨0x40C, [], [⟨0, 32, .rc, 0⟩]⟩,
  ⟨0x410, [], [⟨0, 32, .rw, 0⟩]⟩,
  ⟨0x414, [], [⟨0, 16, .rw, 0⟩]⟩,
  ⟨0x418, [], [⟨0, 32, .rw, 0⟩]⟩,
  ⟨0x41C, [], [⟨0, 32, .rw, 0⟩]⟩,
  ⟨0x500, [(32, 0x8)], [⟨16, 16, .rw, 0⟩, ⟨15, 1, .rw, 0⟩, ⟨0, 7, .rw, 0⟩]⟩,
  ⟨0x504, [(32, 0x8)], [⟨0, 32, .rw, 0⟩]⟩]

/-- Registers of block WTR. -/
def regsWTR : List RegD := [
  ⟨0x0, [], [⟨1, 1, .rw, 0⟩, ⟨0, 1, .rw, 1⟩]⟩,
  ⟨0x4, [], [⟨8, 4, .ro, 0⟩, ⟨2, 1, .w1c, 0⟩, ⟨1, 1, .ro, 0⟩, ⟨0, 1, .ro, 0⟩]⟩,
  ⟨0x8, [], [⟨0, 32, .ro, 0⟩]⟩,
  ⟨0xC, [], [⟨0, 32, .ro, 0⟩]⟩,
  ⟨0x10, [], [⟨0, 32, .ro, 0⟩]⟩,
  ⟨0x14, [], [⟨0, 32, .ro, 0⟩]⟩,
  ⟨0x18, [], [⟨0, 32, .ro, 0⟩]⟩,
  ⟨0x1C, [], [⟨0, 32, .rc, 0⟩]⟩,
  ⟨0x20, [], [⟨0, 32, .rc, 0⟩]⟩,
  ⟨0x24, [], [⟨0, 32, .rw, 8704⟩]⟩,
  ⟨0x28, [], [⟨0, 32, .rw, 16385⟩]⟩,
  ⟨0x30, [], [⟨0, 14, .rw, 0⟩]⟩,
  ⟨0x40, [(16, 0x4)], [⟨0, 32, .ro, 0⟩]⟩]

/-- Registers of block BOOT. -/
def regsBOOT : List RegD := [
  ⟨0x0, [], [⟨16, 16, .ro, 0⟩, ⟨8, 4, .ro, 0⟩, ⟨0, 4, .ro, 1⟩]⟩,
  ⟨0x4, [], [⟨0, 4, .w1c, 1⟩]⟩,
  ⟨0x8, [], [⟨5, 1, .ro, 0⟩, ⟨4, 1, .ro, 0⟩, ⟨3, 1, .ro, 0⟩, ⟨0, 3, .ro, 0⟩]⟩,
  ⟨0x10, [], [⟨16, 1, .wo, 0⟩, ⟨0, 16, .wo, 0⟩]⟩,
  ⟨0x14, [], [⟨16, 16, .ro, 65535⟩, ⟨1, 1, .w1c, 0⟩, ⟨0, 1, .ro, 0⟩]⟩,
  ⟨0x18, [], [⟨0, 16, .rw, 200⟩]⟩,
  ⟨0x1C, [], [⟨0, 1, .wo, 0⟩]⟩]

end Sys2Proof.Machine
end

