-- ==== Sys2Proof/Machine/Ops.lean ====
section
/-! DEFINITION. The named operations over registers, outputs and free values that every meaning uses. -/
namespace Sys2Proof.Machine

/-- The register maps by index of the block's window (R23). -/
def blockRegs : Nat → List RegD
  | 0 => regsDRM | 1 => regsPPT | 2 => regsZCR | 3 => regsZCL | 4 => regsCPL | 5 => regsMEC | 6 => regsDMA | 7 => regsQMG
  | 8 => regsSPN | 9 => regsETH | 10 => regsPCE | 11 => regsBLF | 12 => regsHDC | 13 => regsPWR | 14 => regsLNT
  | 15 => regsEVT | 16 => regsWTR | 17 => regsBOOT
  | _ => []

/-- Whether a distance from a register's first instance lands on one of its instances. -/
def hitDims : List (Nat × Nat) → Nat → Bool
  | [], rel => rel == 0
  | (n, st) :: ds, rel => decide (rel / st < n) && hitDims ds (rel % st)

/-- Whether a register has an instance at an offset of its window. -/
def RegD.hits (d : RegD) (off : Nat) : Bool := decide (d.off ≤ off) && hitDims d.dims (off - d.off)

/-- First address of the register windows (R22). -/
def regBase : Nat := 0x20000000000

/-- Index of the window of an address (R23). -/
def winOf (a : Nat) : Nat := (a - regBase) / 0x100000

/-- Offset of an address in its window (R6). -/
def winOff (a : Nat) : Nat := (a - regBase) % 0x100000

/-- Whether an address lies in the register windows (R22). -/
def isReg (a : Nat) : Bool := decide (regBase ≤ a) && decide (a < regBase + 0x1300000)

/-- The register at an address; none for an unlisted offset (R11). Engines 0 to 17 of the DMA have channels 0 to 15 (R261). -/
def findReg (a : Nat) : Option RegD :=
  if isReg a && !(winOf a == 6 && decide (winOff a / 0x8000 < 18) && decide (0x500 ≤ winOff a % 0x8000)) then
    (blockRegs (winOf a)).find? (fun d => d.hits (winOff a))
  else none

/-- Reset value gathered from the fields of a register. -/
def RegD.reset (d : RegD) : Nat := d.fields.foldl (fun n f => n + f.rst * 2 ^ f.lo) 0

/-- Resets that differ by instance: the servo limits of the bases (R333), the first two regions (R248), the power domains
(R361, log entry 2). -/
def resetInst (w off : Nat) : Option Nat :=
  if w = 11 then
    if off = 0x2008 then some (1000 * 65536 + 10000) else if off = 0x3008 then some (1000 * 65536 + 50000)
    else if off = 0x200C then some 1000 else if off = 0x300C then some 1000 else none
  else if w = 5 then
    if off = 0x1000 then some 0x01000000 else if off = 0x1004 then some 0x01001FFF
    else if off = 0x1008 then some 1 else if off = 0x1014 then some 0x001FFFFF else if off = 0x1018 then some 1 else none
  else if w = 13 then
    if off = 0x100 ∨ off = 0x104 ∨ off = 0x164 ∨ off = 0x168 ∨ off = 0x1A4 then some 4 else none
  else none

/-- What a register holds right after reset (R6, R11). -/
def regReset (a : Nat) : Word :=
  match findReg a with
  | some d => BitVec.ofNat 32 ((resetInst (winOf a) (winOff a)).getD d.reset)
  | none => 0

/-- Read a register's contents, without the side effects of a bus read. -/
def State.rd (s : State) (a : Nat) : Word := Map.get (regReset a) s.regs a

/-- Set a register's contents, without the side effects of a bus write. -/
def State.wr (s : State) (a : Nat) (v : Word) : State := { s with regs := Map.set (regReset a) s.regs a v }

/-- Registers of a table that were changed: contents of one, as `State.rd`. -/
def rdR (m : SMap Word) (a : Nat) : Word := Map.get (regReset a) m a

/-- As `State.wr`, on the table alone. -/
def wrR (m : SMap Word) (a : Nat) (v : Word) : SMap Word := Map.set (regReset a) m a v

/-- Value of a field of a register. -/
def getR (m : SMap Word) (a : Nat) (f : Fld) : Nat := f.get (rdR m a)

/-- Set one field of a register. -/
def putR (m : SMap Word) (a : Nat) (f : Fld) (n : Nat) : SMap Word := wrR m a (f.set (rdR m a) n)

/-- Value of a field of a register. -/
def State.getF (s : State) (a : Nat) (f : Fld) : Nat := f.get (s.rd a)

/-- A one-bit field of a register. -/
def State.flag (s : State) (a : Nat) (f : Fld) : Bool := s.getF a f == 1

/-- Set one field of a register. -/
def State.setF (s : State) (a : Nat) (f : Fld) (n : Nat) : State := { s with regs := putR s.regs a f n }

/-- Set a register from a number. -/
def State.wrN (s : State) (a n : Nat) : State := s.wr a (BitVec.ofNat 32 n)

/-- A 64-bit quantity in two consecutive registers, low word first (R8). -/
def State.rd64 (s : State) (a : Nat) : Nat := (s.rd a).toNat + 2 ^ 32 * (s.rd (a + 4)).toNat

/-- As `State.rd64` on the table. -/
def rd64R (m : SMap Word) (a : Nat) : Nat := (rdR m a).toNat + 2 ^ 32 * (rdR m (a + 4)).toNat

/-- Set a 64-bit quantity in two consecutive registers of a table (R8). -/
def wr64R (m : SMap Word) (a n : Nat) : SMap Word :=
  wrR (wrR m a (BitVec.ofNat 32 n)) (a + 4) (BitVec.ofNat 32 (n / 2 ^ 32))

/-- Set a 64-bit quantity in two consecutive registers (R8). -/
def State.wr64 (s : State) (a n : Nat) : State := { s with regs := wr64R s.regs a n }

/-- Add to a counter of stick class: it stops at 0xFFFF_FFFF (R385). -/
def stickR (m : SMap Word) (a n : Nat) : SMap Word := wrR m a (BitVec.ofNat 32 (min 0xFFFFFFFF ((rdR m a).toNat + n)))

/-- Add to a field that stops at its greatest value. -/
def stickF (m : SMap Word) (a : Nat) (f : Fld) (n : Nat) : SMap Word := putR m a f (min f.max (getR m a f + n))

/-- Add to a 64-bit counter of wrap class (R385). -/
def wrap64R (m : SMap Word) (a n : Nat) : SMap Word := wr64R m a ((rd64R m a + n) % 2 ^ 64)

/-- Whether adding to a 64-bit wrap counter passes its end (R385). -/
def wraps64 (m : SMap Word) (a n : Nat) : Bool := decide (2 ^ 64 ≤ rd64R m a + n)

/-- Epoch bits by frame after the `i`-th 64-bit counter of frame `f` wraps, where it does (R385). -/
def toggleEpoch (m : SMap Nat) (f i : Nat) (wraps : Bool) : SMap Nat :=
  if wraps then Map.upd 0 m f (fun n => n ^^^ 2 ^ i) else m

/-- Put something outside the block; newest first. -/
def State.emit (s : State) (o : Out) : State := { s with out := o :: s.out }

/-- The free value drawn next (log entry 5). -/
def State.peek (s : State) (k : Nat) : Nat := Config.free (s.free + k)

/-- Mark `n` free values as drawn. -/
def State.drawn (s : State) (n : Nat) : State := { s with free := s.free + n }

/-- Return the registers of a range of addresses to their reset values. -/
def State.resetRegs (s : State) (lo hi : Nat) : State := { s with regs := Map.clear lo hi s.regs }

/-- First address of window `w`. -/
def winBase (w : Nat) : Nat := regBase + 0x100000 * w

/-- Unit identifier (R368) of the unit that owns a register. -/
def unitOf (a : Nat) : Nat :=
  match winOf a with
  | 0 => 1
  | 1 => 2
  | 2 => 0x1000 + winOff a / 0x1000
  | 3 => 0x2000 + winOff a / 0x8000
  | 4 => 0x4000 + winOff a / 0x1000
  | 5 => 11
  | 6 => 0x5000 + 32 * (winOff a / 0x8000)
  | 7 => 10
  | 8 => if winOff a < 0x1000 then 0xB007 else 0xB007 + 8 * (winOff a / 0x1000 - 1)
  | 9 => 0xA000 + min 32 (winOff a / 0x4000)
  | 10 => 0xC000
  | 11 => 3
  | 12 => 4
  | 13 => 0
  | 14 => 5
  | 15 => 9
  | 16 => 6
  | 17 => 7
  | _ => 8

/-- Event group of the block or unit that owns a register (R382); offsets behind the last cluster belong to its group. -/
def groupOf (a : Nat) : Nat :=
  match winOf a with
  | 0 => 0
  | 1 => 1
  | 2 => 13 + min 17 (winOff a / 0x8000)
  | 3 => 13 + min 17 (winOff a / 0x8000)
  | 4 => 13 + min 17 (winOff a / 0x1000)
  | 5 => 3
  | 6 => 6
  | 7 => 5
  | 8 => 7
  | 9 => if winOff a < 0x4000 * 30 then 8 else 9
  | 10 => 12
  | 11 => 10
  | 12 => 11
  | 13 => 11
  | 14 => 11
  | 15 => 12
  | 16 => 12
  | 17 => 4
  | _ => 2

/-- What a command that cannot strike in this state does: nothing (log entry 9). -/
def State.when (s : State) (c : Prop) [Decidable c] (t : State) : State := if c then t else s

/-- A request of an agent waits for its answer. -/
def Span.outstanding (p : Span) (agent : Nat) : Bool := p.reqs.any (fun r => r.agent == agent && r.held)

/-- What waited has taken its answers. -/
def Span.settle (p : Span) (agent : Nat) : Span := { p with answers := p.answers.filter (fun r => r.agent != agent) }

/-- Nothing waits any more for the requests of an agent. -/
def Span.forget (p : Span) (agent : Nat) : Span :=
  { p.settle agent with reqs := p.reqs.map (fun r => if r.agent = agent then { r with held := false } else r) }

/-- An agent is in the middle of an access to another device. -/
def Span.busy (p : Span) (agent : Nat) : Bool := p.outstanding agent || p.answers.any (fun r => r.agent == agent)

end Sys2Proof.Machine
end

