-- ==== Sys2Proof/Machine/Clock.lean ====
section
/-! DEFINITION. The radio clock and the three time bases (R26, R328 to R333), and the places of ticks in radio time
(R29 to R33). -/
namespace Sys2Proof.Machine

/-- Radio units in 10 ms (R26). -/
def frameUnits : Nat := 9830400

/-- Radio units in 0.5 ms (R29). -/
def halfUnits : Nat := 491520

/-- Radio units in a second (R26). -/
def secUnits : Nat := 983040000

/-- Cycles that a slew term takes to its target at `r` ppb per second (R333); terms are in 10^-12. -/
def rampCycles (slew target : Int) (r : Nat) : Nat := ceilDiv ((target - slew).natAbs * 983040) (max 1 r)

/-- The slew term after `e` cycles (R333). -/
def rampEnd (slew target : Int) (r e : Nat) : Int :=
  if rampCycles slew target r ≤ e then target
  else if slew ≤ target then slew + ((r * e / 983040 : Nat) : Int) else slew - ((r * e / 983040 : Nat) : Int)

/-- The slew term summed over `e` cycles. -/
def rampSum (slew target : Int) (r e : Nat) : Int :=
  let m := min e (rampCycles slew target r)
  let q : Int := ((r * m * m / 1966080 : Nat) : Int)
  slew * m + (if slew ≤ target then q else -q) + target * ((e - m : Nat) : Int)

/-- Phase of a base at an instant (R328, R329): the radio base in 2^-32 radio units, its frequency term steering the
oscillator and not the accumulator; the others in 2^-16 ns, with the compensation of
DAC channel 0. -/
def Base.phaseAt (b : Base) (radio : Bool) (r now : Nat) : Nat :=
  let e := now - b.at_
  let sum := rampSum b.slew b.target r e + (if radio then 0 else b.freq * e + b.comp * e / 65536)
  let cycles : Int := (e : Int) * 1000000000000 + sum
  let adv : Int := if radio then cycles * 4294967296 / 1000000000000 else cycles * 200000 / 3000000000000
  ((b.phase : Int) + adv).toNat

/-- A base reckoned anew from an instant. -/
def Base.anchor (b : Base) (radio : Bool) (r now : Nat) : Base :=
  { b with phase := b.phaseAt radio r now, at_ := now, slew := rampEnd b.slew b.target r (now - b.at_) }

/-- A base of Belfry by number: 0 radio, 1 studio, 2 system (R328). -/
def Belfry.base (f : Belfry) : Nat → Base
  | 0 => f.base0
  | 1 => f.base1
  | _ => f.base2

/-- Replace a base. -/
def Belfry.setBase (f : Belfry) (i : Nat) (b : Base) : Belfry :=
  match i with
  | 0 => { f with base0 := b }
  | 1 => { f with base1 := b }
  | _ => { f with base2 := b }

/-- The ramp rate of a base in ppb per second (R333). -/
def slewRate (regs : SMap Word) (i : Nat) : Nat := getR regs (Rg.BLF_TB_SLEW i) Fd.BLF_TB_SLEW_slew_ppb_s

/-- PTP seconds of the origin of the radio base (R328). -/
def gpsOrigin : Nat := 315964819

/-- The radio phase (2^-32 units) of a PTP time (R328). -/
def radioOfPtp (t : PtpTime) : Nat :=
  (t.sec - gpsOrigin) * secUnits * 4294967296 + t.ns * 98304 * 4294967296 / 100000

/-- The phase in 2^-16 ns of a PTP time (R328). -/
def nanoOfPtp (t : PtpTime) : Nat := (t.sec * 1000000000 + t.ns) * 65536

/-- The PTP phase (2^-16 ns) of a radio phase (R328). -/
def nanoOfRadio (p : Nat) : Nat := gpsOrigin * 1000000000 * 65536 + p * 100000 / (98304 * 65536)

/-- Phase of base `i` at an instant (R328, R329): the system base that follows the radio base moves as it does, beside its own terms
(R336). -/
def Belfry.phaseAt (f : Belfry) (regs : SMap Word) (i now : Nat) : Nat :=
  let z := f.base i
  let own := z.phaseAt (i == 0) (slewRate regs i) now
  match z.lead with
  | some p => (((own + nanoOfRadio (f.base0.phaseAt true (slewRate regs 0) now) : Nat) : Int) - nanoOfRadio p -
      (((now - z.at_) * 200000 / 3 : Nat) : Int)).toNat
  | none => own

/-- Base `i` reckoned from an instant. -/
def Belfry.anchored (f : Belfry) (regs : SMap Word) (i now : Nat) : Base :=
  let z := f.base i
  { z.anchor (i == 0) (slewRate regs i) now with
    phase := f.phaseAt regs i now
    lead := z.lead.map (fun _ => f.base0.phaseAt true (slewRate regs 0) now) }

/-- Phase of base `i` now. -/
def State.phase (s : State) (i : Nat) : Nat := s.blf.phaseAt s.regs i s.now

/-- Radio time in radio units (R26, R328). -/
def State.rt (s : State) : Nat := s.phase 0 / 4294967296

/-- The phase of base `i` that a PTP time names. -/
def phaseOfPtp (i : Nat) (t : PtpTime) : Nat := if i = 0 then radioOfPtp t else nanoOfPtp t

/-- The PTP time that a phase of base `i` names. -/
def ptpOfPhase (i p : Nat) : PtpTime :=
  let n := (if i = 0 then nanoOfRadio p else p) / 65536
  ⟨n / 1000000000, n % 1000000000⟩

/-- PTP time of base `i` now (R339). -/
def State.ptpNow (s : State) (i : Nat) : PtpTime := ptpOfPhase i (s.phase i)

/-- Nanoseconds of a PTP time. -/
def ptpTotal (t : PtpTime) : Int := (t.sec : Int) * 1000000000 + t.ns

/-- A number of nanoseconds as a change of a phase of base `i`. -/
def phaseOfNs (i : Nat) (n : Int) : Int := if i = 0 then n * 98304 * 4294967296 / 100000 else n * 65536

/-- Let `n` cycles of the radio clock pass: the keeper counts every 30,000 radio units and the recorder's operating seconds
every second (R342, R391; log entry 7). -/
def State.pass (s : State) (n : Nat) : State :=
  { s with
    now := s.now + n
    regs := wrR (wr64R s.regs Rg.BLF_KEEPER_LO ((rd64R s.regs Rg.BLF_KEEPER_LO + ((s.now + n) / 30000 - s.now / 30000)) % 2 ^ 64))
      Rg.WTR_OP_SECONDS (BitVec.ofNat 32 ((s.rd Rg.WTR_OP_SECONDS).toNat + ((s.now + n) / secUnits - s.now / secUnits)))
    evt := { s.evt with
      epochs := toggleEpoch s.evt.epochs 3 0 (wraps64 s.regs Rg.BLF_KEEPER_LO ((s.now + n) / 30000 - s.now / 30000)) } }

/-- Let the clock run on until base `i` comes to a phase, if it lies ahead (log entry 8). -/
def State.passBase (s : State) (i p : Nat) : State :=
  s.pass (if i = 0 then ceilDiv (p - s.phase 0) 4294967296 else ceilDiv ((p - s.phase i) * 3) 200000)

/-- Let the clock run on to radio time `t`, if it lies ahead (log entry 8). -/
def State.passTo (s : State) (t : Nat) : State := s.pass (t - s.rt)

/-- N and D of a rate code (R174, R185). -/
def rateN (code : Nat) : Nat := nth 0 [24, 25, 30, 50, 60] (code % 5) * (if code < 5 then 1 else 1000)
def rateD (code : Nat) : Nat := if code < 5 then 1 else 1001

/-- Length of a frame in 2^-16 ns times N (R174). -/
def rateM (code : Nat) : Nat := rateD code * 1000000000 * 65536

/-- Symbols of the master numerology in 0.5 ms (R29), by the code of DRM_CTRL.master_scs. -/
def symsPerHalf (scs : Nat) : Nat := 7 * 2 ^ scs

/-- Length of a normal symbol in radio units (R29). -/
def symUnits (scs : Nat) : Nat := 70144 / 2 ^ scs

/-- Symbols of a 0.5 ms that begin by `x` radio units into it, less one; `none` where no symbol begins at `x` (R29). -/
def symOfHalf (scs x : Nat) : Option Nat :=
  if x = 0 then some 0
  else if 512 < x ∧ (x - 512) % symUnits scs = 0 ∧ x < halfUnits then some ((x - 512) / symUnits scs) else none

/-- Radio units from the start of a 0.5 ms to its symbol `k` (R29). -/
def symStart (scs k : Nat) : Nat := if k % symsPerHalf scs = 0 then k / symsPerHalf scs * halfUnits
  else k / symsPerHalf scs * halfUnits + 512 + k % symsPerHalf scs * symUnits scs

/-- The symbol of a 0.5 ms that runs at `x` radio units into it. -/
def symAt (scs x : Nat) : Nat := if x < 512 + symUnits scs then 0 else min (symsPerHalf scs - 1) ((x - 512) / symUnits scs)

/-- The time offset in force: DRM_TIME_OFFSET as applied when Drum started (R31). -/
def State.offset (s : State) : Int := s.drum.offset

/-- Master spacing in use (DRM_STATUS.master_scs_active). -/
def State.scs (s : State) : Nat := s.getF Rg.DRM_STATUS Fd.DRM_STATUS_master_scs_active

/-- Radio time reckoned from the frame origin (R31): the offset taken away and whole frames added to stay above zero. -/
def framed (off : Int) (t : Nat) : Nat := ((t : Int) - off + 9830400).toNat

/-- Number of the symbol that runs at radio time `t`, counted from the frame origin. -/
def symNo (scs : Nat) (off : Int) (t : Nat) : Nat :=
  framed off t / halfUnits * symsPerHalf scs + symAt scs (framed off t % halfUnits)

/-- Radio time at which symbol number `n` begins. -/
def symTime (scs : Nat) (off : Int) (n : Nat) : Nat := (((symStart scs n : Nat) : Int) + off - 9830400).toNat

/-- Kinds of the tick at radio time `t` (R29 to R31): slot and frame; none where no symbol begins there. -/
def kindsAt (scs : Nat) (off : Int) (t : Nat) : Option (Bool × Bool) :=
  let x := framed off t
  match symOfHalf scs (x % halfUnits) with
  | none => none
  | some _ => some (symNo scs off t % 14 == 0, x % frameUnits == 0)

/-- Master symbols in a frame (R29). -/
def symsPerFrame (scs : Nat) : Nat := 20 * symsPerHalf scs

/-- Master slots in a frame (R29). -/
def slotsPerFrame (scs : Nat) : Nat := symsPerFrame scs / 14

/-- A tick reference (R33). -/
def tickRef (slot sym : Nat) : Word := BitVec.ofNat 32 (slot % 2 ^ 28 * 16 + sym)

/-- Slot field of a tick reference (R33). -/
def refSlot (r : Word) : Nat := r.toNat / 16

/-- Symbol field of a tick reference (R33). -/
def refSym (r : Word) : Nat := r.toNat % 16

/-- A reference is valid (R33). -/
def refOk (r : Word) : Bool := decide (refSym r ≤ 13)

/-- Reference `a` lies after `b` (R34). -/
def refAfter (a b : Word) : Bool :=
  serialAfter 28 (refSlot a) (refSlot b) || (refSlot a == refSlot b && decide (refSym b < refSym a))

/-- `a` is `b` or lies after it. -/
def refFrom (a b : Word) : Bool := a == b || refAfter a b

/-- `n` symbols after a reference (R33). -/
def refPlus (r : Word) (n : Nat) : Word := tickRef (refSlot r + (refSym r + n) / 14) ((refSym r + n) % 14)

/-- `n` symbols before a reference. -/
def refMinus (r : Word) (n : Nat) : Word :=
  let k := (refSlot r + 2 ^ 28) * 14 + refSym r - n
  tickRef (k / 14) (k % 14)

/-- Tick and item checks of R34: the deadline lies after the issue tick and its slot no more than 1,024 after. -/
def pairOk (issue deadline : Word) : Bool :=
  refOk issue && refOk deadline && refAfter deadline issue &&
    decide ((refSlot deadline + 2 ^ 28 - refSlot issue) % 2 ^ 28 ≤ 1024)

/-- The reference of the tick that runs: its slot count and symbol (R33). -/
def State.curRef (s : State) : Word :=
  tickRef (s.rd64 Rg.DRM_SLOT_COUNT_LO) (s.getF Rg.DRM_POSITION Fd.DRM_POSITION_symbol)

/-- Symbols of a frame that run before the present one (R31). -/
def State.frameSym (s : State) : Nat :=
  s.getF Rg.DRM_POSITION Fd.DRM_POSITION_slot * 14 + s.getF Rg.DRM_POSITION Fd.DRM_POSITION_symbol

end Sys2Proof.Machine
end

