-- ==== Sys2Proof/Machine/Events.lean ====
section
/-! DEFINITION. Reporting: notifications (R66 to R68), events and their routing (R382 to R385), the recorder's input
(R393, R394). They work on the part of the state that a report can touch, so all else stands by definition. -/
namespace Sys2Proof.Machine

/-- The part of the state that a report reads and writes. -/
structure Rep where
  regs : SMap Word
  out : List Out
  host : HostIf
  wtr : Watchtower
  /-- Clock and radio time of the report. -/
  now : Nat
  rt : Nat
  deriving DecidableEq, Repr

/-- A raise: event number, unit that raises, parameters (R383). -/
structure Raise where
  ev : Nat
  src : Nat
  p0 : Word
  p1 : Word
  p2 : Word
  p3 : Word
  deriving DecidableEq, Repr

/-- The reporting part of the state. -/
def State.rep (s : State) : Rep := ⟨s.regs, s.out, s.host, s.wtr, s.now, s.rt⟩

/-- A state with its reporting part replaced. -/
def State.withRep (s : State) (r : Rep) : State := { s with regs := r.regs, out := r.out, host := r.host, wtr := r.wtr }

/-- The vector of an MSI-X source (R69, R79): its default until MSIX_MAP assigns another. -/
def vectorOf (h : HostIf) (source : Nat) : Nat :=
  Map.get (if source < 32 then source else if source < 96 then 32 + (source - 32) % 16 else 48) h.vectors source

/-- Send the message of an MSI-X source (R69). -/
def Rep.msix (r : Rep) (source : Nat) : Rep := { r with out := .msix (vectorOf r.host source) :: r.out }

/-- Entries of the notification ring (R66). -/
def Ring.size (g : Ring) : Nat := 2 ^ g.sizeLog

/-- Bytes of a notification entry, with its sequence number and phase (R66). -/
def notifBytes (n : Notif) (seq : Word) (phase : Nat) : List Byte :=
  leBytes 4 seq.toNat ++ leBytes 2 n.kind ++ leBytes 1 n.dev ++ leBytes 1 phase ++ leBytes 2 n.tag ++ leBytes 2 n.status
    ++ leBytes 4 n.tick.toNat ++ leBytes 8 n.time ++ leBytes 4 n.p0.toNat ++ leBytes 4 n.p1.toNat

/-- Whether the ring has room (R66). -/
def Ring.room (g : Ring) : Bool := g.enabled && decide (g.fill < g.size)

/-- The kind of a command completion (R66). -/
def kCompletion : Nat := 2

/-- The ring's producer after an entry: its index and, at the ring's end, its phase (R66). -/
def ringRegs (regs : SMap Word) (p ph size : Nat) : SMap Word :=
  let m := putR regs Rg.PCE_NRING_PRODUCER Fd.PCE_NRING_PRODUCER_producer ((p + 1) % size)
  if (p + 1) % size = 0 then putR m Rg.PCE_NRING_PRODUCER Fd.PCE_NRING_PRODUCER_phase (1 - ph) else m

/-- Write one entry to the ring: all bytes but the phase, then the phase (R67); the ring's message where it was empty
(R69). A completion frees the tag of its command (R58, R63). -/
def Rep.ringWrite (r : Rep) (n : Notif) : Rep :=
  let p := getR r.regs Rg.PCE_NRING_PRODUCER Fd.PCE_NRING_PRODUCER_producer
  let ph := getR r.regs Rg.PCE_NRING_PRODUCER Fd.PCE_NRING_PRODUCER_phase
  let g := r.host.ring
  let bs := notifBytes n g.seq ph
  let a := g.addr + 32 * p
  let out := .hostWrite (a + 7) [BitVec.ofNat 8 ph] :: .hostWrite (a + 8) (bs.drop 8) :: .hostWrite a (bs.take 7) :: r.out
  let out := if g.fill = 0 then .msix (vectorOf r.host 96) :: out else out
  { r with
    regs := ringRegs r.regs p ph g.size
    out := out
    host := { r.host with
      ring := { g with fill := g.fill + 1, seq := g.seq + 1 }
      cmds := if n.kind = kCompletion then r.host.cmds.filter (fun c =>
          !(c.phase == .done && c.mbx == none && c.tag == n.tag && c.dev == n.dev)) else r.host.cmds } }

/-- Post a notification: into the ring, else into the backlog of 4,096, else lost (R68); `lost` is done then. A completion is
never lost: it stays with its command and the backlog holds it beyond its bound (log entry 10). -/
def Rep.post (lost : Rep → Rep) (r : Rep) (n : Notif) : Rep :=
  if r.host.ring.room ∧ r.host.backlog = [] then r.ringWrite n
  else if r.host.backlog.length < 4096 ∨ n.kind = kCompletion then
    { r with host := { r.host with backlog := r.host.backlog ++ [n] } }
  else lost { r with
    regs := stickR r.regs Rg.PCE_NRING_LOST 1
    host := { r.host with
      lostBy := Map.upd 0 r.host.lostBy n.kind (· + 1) } }

/-- Bits of a group that are always recorded (R382, R384). -/
def daggers : Nat → Word
  | 0 => 0x4 | 1 => 0x3 | 2 => 0x2 | 3 => 0x1 | 5 => 0x4 | 10 => 0x111
  | _ => 0

/-- The recorder's status after a change of its input (R393, R394). -/
def wtrStatus (regs : SMap Word) (w : Watchtower) : SMap Word :=
  putR (putR regs Rg.WTR_STATUS Fd.WTR_STATUS_fifo w.fifo.length) Rg.WTR_STATUS Fd.WTR_STATUS_flood (b2n (w.supp != []))

/-- Count a coalesced record in the suppression table (R394): by its code, or under 0xFFFF where the table is full. -/
def suppress (t : List Supp) (code src now : Nat) : List Supp :=
  let add (c : Nat) : List Supp :=
    if t.any (fun e => e.code == c) then t.map (fun e => if e.code = c then { e with count := e.count + 1, source := src } else e)
    else t ++ [⟨c, 1, src, now⟩]
  if t.any (fun e => e.code == code) || decide ((t.filter (fun e => e.code != 0xFFFF)).length < 64) then add code else add 0xFFFF

/-- A record as it is presented. -/
def mkRec (code src : Nat) (p0 p1 p2 p3 : Word) : Rec := ⟨code, src, p0, p1, p2, p3, 0, 0, false, 0⟩

/-- The recorder's input after a record: into the FIFO of 8, else coalesced (R393, R394). -/
def Watchtower.presented (w : Watchtower) (rec : Rec) (now : Nat) : Watchtower :=
  { w with
    fifo := if 8 ≤ w.fifo.length then w.fifo else w.fifo ++ [rec]
    supp := if 8 ≤ w.fifo.length then suppress w.supp rec.code rec.source now else w.supp }

/-- Present a record to Watchtower (R393, R394): discarded and counted while the ring is disabled, into the FIFO of 8, else
coalesced. -/
def Rep.present (r : Rep) (rec : Rec) : Rep :=
  if getR r.regs Rg.WTR_CTRL Fd.WTR_CTRL_enable = 0 then { r with regs := stickR r.regs Rg.WTR_SUPPRESSED 1 }
  else
    let w := r.wtr.presented rec r.now
    { r with
      regs := wtrStatus (if 8 ≤ r.wtr.fifo.length then stickR r.regs Rg.WTR_SUPPRESSED 1 else r.regs) w
      wtr := w }

/-- A 32-bit word with one bit. -/
def bitW (b : Nat) : Word := 1#32 <<< b

/-- Status bit and count of a raise (R383). -/
def Rep.mark (r : Rep) (e : Raise) : Rep :=
  let st := rdR r.regs (Rg.EVT_STATUS (e.ev / 32))
  { r with regs := stickR (wrR r.regs (Rg.EVT_STATUS (e.ev / 32)) (st ||| bitW (e.ev % 32))) Rg.EVT_RAISES 1 }

/-- The message of a raise: its group's enabled status turns non-zero (R384). `st` and `en` are status and enable before the raise. -/
def Rep.message (r : Rep) (st en : Word) (e : Raise) : Rep :=
  if st &&& en = 0 ∧ (st ||| bitW (e.ev % 32)) &&& en ≠ 0 then r.msix (e.ev / 32) else r

/-- The ring entry of a raise, where its status bit turns on (R384). -/
def Rep.ringEntry (lost : Rep → Rep) (r : Rep) (st : Word) (e : Raise) : Rep :=
  if st &&& bitW (e.ev % 32) = 0 ∧ rdR r.regs (Rg.EVT_RING (e.ev / 32)) &&& bitW (e.ev % 32) ≠ 0 then
    r.post lost ⟨6, 0, 0, 0, r.host.lastTick, r.rt, BitVec.ofNat 32 (e.ev / 32), BitVec.ofNat 32 (e.ev % 32)⟩
  else r

/-- The record of a raise (R382, R384). -/
def Rep.recordRaise (r : Rep) (e : Raise) : Rep :=
  if (rdR r.regs (Rg.EVT_RECORD (e.ev / 32)) ||| daggers (e.ev / 32)) &&& bitW (e.ev % 32) ≠ 0 then
    r.present (mkRec (0x1000 + e.ev) e.src e.p0 e.p1 e.p2 e.p3)
  else r

/-- A stick counter stands at its end now and did not before (R385). -/
def turnedFull (before after : SMap Word) (a : Nat) : Bool := rdR before a != 0xFFFFFFFF && rdR after a == 0xFFFFFFFF

/-- Raise an event (R383, R384): status bit, count, message when the enabled status turns non-zero, ring entry when the bit
turns on, record. The reports that a raise brings with it (a lost notification, a counter that saturates) are raises too;
`fuel` bounds their chain, which ends because their status bits are set by then. -/
def Rep.raise : Nat → Rep → Raise → Rep
  | 0, r, _ => r
  | fuel + 1, r, e =>
    let st := rdR r.regs (Rg.EVT_STATUS (e.ev / 32))
    let en := rdR r.regs (Rg.EVT_ENABLE (e.ev / 32))
    let x := (((r.mark e).message st en e).ringEntry (fun y => Rep.raise fuel y ⟨385, 0xC000, 0, 0, 0, 0⟩) st e).recordRaise e
    let x := if turnedFull r.regs x.regs Rg.EVT_RAISES then Rep.raise fuel x ⟨415, 9, 0, 0, 0, 0⟩ else x
    if turnedFull r.regs x.regs Rg.WTR_SUPPRESSED then Rep.raise fuel x ⟨415, 6, 0, 0, 0, 0⟩ else x

/-- Links of the longest chain of raises that one raise can bring. -/
def raiseFuel : Nat := 6

/-- Raise an event on the reporting part. -/
def Rep.fire (r : Rep) (ev src : Nat) (ps : List Nat) : Rep :=
  r.raise raiseFuel ⟨ev, src, BitVec.ofNat 32 (nth 0 ps 0), BitVec.ofNat 32 (nth 0 ps 1), BitVec.ofNat 32 (nth 0 ps 2),
    BitVec.ofNat 32 (nth 0 ps 3)⟩

/-- Raise event `ev` from unit `src` with its parameters (R383). -/
def State.raise (s : State) (ev src : Nat) (ps : List Nat) : State := s.withRep (s.rep.fire ev src ps)

/-- Add to a stick counter, and raise the counter-saturated event of its unit's group where it saturates now (R385). -/
def Rep.bump (r : Rep) (a n : Nat) : Rep :=
  let r' := { r with regs := stickR r.regs a n }
  if turnedFull r.regs r'.regs a then r'.fire (32 * groupOf a + 31) (unitOf a) [] else r'

/-- Add to a stick counter (R385). -/
def State.bump (s : State) (a n : Nat) : State := s.withRep (s.rep.bump a n)

/-- What a lost notification brings: the notification-lost event, and the saturation of its counter (R68, R382, R385). -/
def Rep.lostOne (r : Rep) : Rep :=
  let r := r.fire 385 0xC000 []
  if rdR r.regs Rg.PCE_NRING_LOST == 0xFFFFFFFF then r.fire 415 0xC000 [] else r

/-- Post a notification (R67, R68). -/
def Rep.notify (r : Rep) (n : Notif) : Rep := r.post Rep.lostOne n

/-- Post a notification whose tick and radio time are those of the moment (R66). -/
def State.notify (s : State) (kind dev tag status p0 p1 : Nat) : State :=
  s.withRep (s.rep.notify ⟨kind, dev, tag, status, s.host.lastTick, s.rt, BitVec.ofNat 32 p0, BitVec.ofNat 32 p1⟩)

/-- Send the message of an MSI-X source (R69). -/
def State.msix (s : State) (source : Nat) : State := s.emit (.msix (vectorOf s.host source))

/-- Present a Psiwyn record to Watchtower (R393); a saturating count of discarded records is raised (R385). -/
def Rep.record (r : Rep) (code src : Nat) (ps : List Nat) : Rep :=
  let r' := r.present (mkRec code src (BitVec.ofNat 32 (nth 0 ps 0)) (BitVec.ofNat 32 (nth 0 ps 1)) (BitVec.ofNat 32 (nth 0 ps 2))
    (BitVec.ofNat 32 (nth 0 ps 3)))
  if turnedFull r.regs r'.regs Rg.WTR_SUPPRESSED then r'.fire 415 6 [] else r'

/-- Present a record (R393). -/
def State.record (s : State) (code src : Nat) (ps : List Nat) : State := s.withRep (s.rep.record code src ps)

/-- The active control pair, as the source of Psiwyn's own records (R392): its first core. -/
def State.ctrlUnit (s : State) : Nat := 0x6000 + 2 * s.getF Rg.PCE_MBX_GLOBAL Fd.PCE_MBX_GLOBAL_active_pair

/-- The register-access event of the block that owns an address (R7, R382). -/
def State.accessError (s : State) (a : Nat) : State := s.raise (32 * groupOf a + 30) (unitOf a) []

/-- The decode-error event, raised by the network-on-chip with the address (R24, R382). -/
def State.decodeError (s : State) (a : Nat) : State := s.raise 128 12 [a % 2 ^ 32, a / 2 ^ 32]

/-- A write of EVT_STATUS_g through the host or the expert window: ones clear, and the message goes out again where the enabled
status stays non-zero (R9, R384). -/
def State.clearStatus (s : State) (g : Nat) (v : Word) : State :=
  let st := s.rd (Rg.EVT_STATUS g) &&& ~~~ v
  let s := s.wr (Rg.EVT_STATUS g) st
  { s with out := if st &&& s.rd (Rg.EVT_ENABLE g) ≠ 0 then .msix (vectorOf s.host g) :: s.out else s.out }

/-- A write of EVT_ENABLE_g: the message goes out where the enabled status turns non-zero (R384). -/
def State.setEnable (s : State) (g : Nat) (v : Word) : State :=
  let st := s.rd (Rg.EVT_STATUS g)
  let turns := decide (st &&& s.rd (Rg.EVT_ENABLE g) = 0) && decide (st &&& v ≠ 0)
  { s with
    regs := wrR s.regs (Rg.EVT_ENABLE g) v
    out := if turns then .msix (vectorOf s.host g) :: s.out else s.out }

end Sys2Proof.Machine
end

