-- ==== Sys2Proof/Machine/Mem.lean ====
section
/-! DEFINITION. The memories (R242 to R260): code words and their codes, merge buffers, poison markers, errors. The operations
work on the memories, MEC and the reporting part, so all else stands by definition. -/
namespace Sys2Proof.Machine

/-- The canonical form of the memory: addresses rising, no byte listed that reads as an unlisted one, which is 0
(log entry 4). -/
def Memory.wf (m : List Host.Cell) : Bool := Map.wf (0 : Byte) m

/-- Read one byte of the memory. -/
def Memory.byte (m : List Host.Cell) (a : Nat) : Byte := Map.get 0 m a

/-- Write one byte of the memory. -/
def Memory.put (m : List Host.Cell) (a : Nat) (b : Byte) : List Host.Cell := Map.set 0 m a b

/-- Write bytes from an address on. -/
def Memory.putAll (m : List Host.Cell) (a : Nat) : List Byte → List Host.Cell
  | [] => m
  | b :: bs => Memory.putAll (Memory.put m a b) (a + 1) bs

/-- Read `n` bytes from an address on. -/
def Memory.bytes (m : List Host.Cell) (a n : Nat) : List Byte := (List.range n).map (fun i => Memory.byte m (a + i))

/-- First address of the on-chip SRAM (R22). -/
def sramBase : Nat := 0x10000000000

/-- Populated DRAM in bytes (R243), by the density of the devices. -/
def dramSize (regs : SMap Word) : Nat := if getR regs Rg.MEC_DDR_CONFIG Fd.MEC_DDR_CONFIG_density = 1 then 0x4000000000 else 0x2000000000

/-- Whether an address lies in the DRAM of the map (R22). -/
def isDram (a : Nat) : Bool := decide (a < 0x4000000000)

/-- Whether an address lies in the on-chip SRAM (R22). -/
def isSram (a : Nat) : Bool := decide (sramBase ≤ a) && decide (a < sramBase + 0x20000000)

/-- Domain of SRAM segment `s` (R354). -/
def segDomain (s : Nat) : Nat := 32 + s

/-- State code of a power domain (R354). -/
def domState (regs : SMap Word) (d : Nat) : Nat := getR regs (Rg.PWR_DOM d) Fd.PWR_DOM_state

/-- State of cluster `c`: domain 2 + c (R354). -/
def clusterState (regs : SMap Word) (c : Nat) : Nat := domState regs (2 + c)

/-- Cluster of a tile-memory offset of the SRAM (R242). -/
def tileCluster (off : Nat) : Nat := off / 0x400000

/-- Whether an agent is the control complex or the queue manager, which alone reach control memory (R242). -/
def reachesControl (agent : Nat) : Bool := agent / 0x1000 == 6 || agent == 10

/-- Whether an agent's access to a byte meets no decode error (R24, R242, R355). A tile bank is on while its cluster is in Run or
Nap (R359). -/
def accessible (regs : SMap Word) (agent a : Nat) : Bool :=
  if isDram a then decide (a < dramSize regs)
  else if isSram a then
    let off := a - sramBase
    if off < 0x4800000 then decide (3 ≤ clusterState regs (tileCluster off))
    else if off < 0x5000000 then reachesControl agent
    else domState regs (segDomain (off / 0x800000)) == 4
  else false

/-- The region entry that applies to an address: the enabled one with the lowest number that holds it (R245). -/
def regionOf (regs : SMap Word) (a : Nat) : Option Nat :=
  (List.range 64).find? (fun n =>
    getR regs (Rg.MEC_REGION_CTRL n) Fd.MEC_REGION_CTRL_enable == 1 &&
      decide ((rdR regs (Rg.MEC_REGION_BASE n)).toNat ≤ a / 65536) &&
      decide (a / 65536 ≤ (rdR regs (Rg.MEC_REGION_LIMIT n)).toNat))

/-- Whether the light code applies (R245, R246): never in DRAM. -/
def isLight (regs : SMap Word) (a : Nat) : Bool :=
  !isDram a && match regionOf regs a with
    | some n => getR regs (Rg.MEC_REGION_CTRL n) Fd.MEC_REGION_CTRL_code == 1
    | none => false

/-- Bytes of data in the code word of an address (R246). -/
def wordSize (regs : SMap Word) (a : Nat) : Nat := if isDram a then 64 else if isLight regs a then 16 else 8

/-- First address of the code word that holds an address. -/
def wordOf (regs : SMap Word) (a : Nat) : Nat := a / wordSize regs a * wordSize regs a

/-- Whether an address lies in a region in initialisation (R248), be it that of the entry that applies to it or of another. -/
def inInit (regs : SMap Word) (a : Nat) : Bool :=
  (List.range 64).any (fun n =>
    getR regs (Rg.MEC_REGION_CTRL n) Fd.MEC_REGION_CTRL_busy == 1 &&
      decide ((rdR regs (Rg.MEC_REGION_BASE n)).toNat ≤ a / 65536) && decide (a / 65536 ≤ (rdR regs (Rg.MEC_REGION_LIMIT n)).toNat))

/-- The memory whose merge buffers serve an address (R249): a DRAM channel (R244) or an on-chip store (R242). -/
def storeOf (a : Nat) : Nat :=
  if isDram a then (a / 4096 % 8) ^^^ (a / 1048576 % 8)
  else
    let o := a - sramBase
    if o < 0x4800000 then 8 else if o < 0x5000000 then 9 else if o < 0xE000000 then 10 else if o < 0x10000000 then 11
    else if o < 0x12000000 then 12 else if o < 0x16000000 then 13 else if o < 0x1A000000 then 14
    else if o < 0x1D000000 then 15 else 16

/-- Cluster whose tile or shared memory holds an address (R254). -/
def memCluster (a : Nat) : Option Nat :=
  if isSram a then
    let o := a - sramBase
    if o < 0x4800000 then some (tileCluster o)
    else if 0x5000000 ≤ o ∧ o < 0xE000000 then some ((o - 0x5000000) / 0x800000) else none
  else none

/-- The part of the state that a memory access reads and writes. -/
structure Mm where
  mem : List Host.Cell
  mec : Mec
  rep : Rep
  deriving DecidableEq, Repr

/-- The memory part of the state. -/
def State.mm (s : State) : Mm := ⟨s.mem, s.mec, s.rep⟩

/-- A state with its memory part replaced. -/
def State.withMm (s : State) (m : Mm) : State :=
  { s with mem := m.mem, mec := m.mec, regs := m.rep.regs, out := m.rep.out, host := m.rep.host, wtr := m.rep.wtr }

/-- Set or clear the poison marker of a code word (R252). -/
def markWord (ps : List Nat) (w : Nat) (p : Bool) : List Nat :=
  if p then (if ps.contains w then ps else w :: ps) else ps.filter (· != w)

/-- Region entry of an address as a record parameter; 0xFF where no entry holds it (log entry 11). -/
def regionParam (regs : SMap Word) (a : Nat) : Nat := (regionOf regs a).getD 0xFF

/-- Radio cycles of 24 hours. -/
def dayUnits : Nat := 86400 * secUnits

/-- Whether the three last errors of a word lie within 24 h (R259). -/
def isCand (ts : List Nat) : Bool :=
  match ts with
  | a :: _ :: c :: _ => decide (a - c ≤ dayUnits)
  | _ => false

/-- The candidate table after a corrected error (R259): 64 entries; a new word replaces the entry whose last error is oldest. -/
def candAdd (t : List Cand) (w now : Nat) : List Cand :=
  if t.any (fun c => c.word == w) then t.map (fun c => if c.word = w then { c with times := (now :: c.times).take 3 } else c)
  else if t.length < 64 then t ++ [⟨w, [now]⟩]
  else
    let oldest := t.foldl (fun n c => min n (nth 0 c.times 0)) now
    let i := t.findIdx (fun c => nth 0 c.times 0 == oldest)
    t.eraseIdx i ++ [⟨w, [now]⟩]

/-- The log of a cluster's corrected errors with one more, those older than a second left out (R180). -/
def ceNote (log : SMap (List Nat)) (c now : Nat) : SMap (List Nat) :=
  Map.upd [] log c (fun l => now :: l.filter (fun t => decide (now < t + secUnits)))

/-- A corrected error at a code word (R254, R259). -/
def Mm.corrected (m : Mm) (w : Nat) : Mm :=
  let rep := m.rep.bump Rg.MEC_CE_COUNT 1
  let rep := { rep with regs := wr64R rep.regs Rg.MEC_LAST_CE_LO (w % 2 ^ 48) }
  let rep := match memCluster w with
    | some c => rep.bump (Rg.MEC_CLUSTER_CE c) 1
    | none => rep
  let times := fun (t : List Cand) => ((t.find? (fun c => c.word == w)).map (·.times)).getD []
  let cands := candAdd m.mec.cands w rep.now
  let new := isCand (times cands) && !isCand (times m.mec.cands)
  let rep := if new then
      { rep with regs := putR rep.regs Rg.MEC_STATUS Fd.MEC_STATUS_candidate 1 }.fire 97 11 [w % 2 ^ 32, w / 2 ^ 32]
    else rep
  { m with
    rep := rep
    mec := { m.mec with
      ceLog := match memCluster w with
        | some c => ceNote m.mec.ceLog c rep.now
        | none => m.mec.ceLog
      cands := cands
      upset := if getR rep.regs Rg.MEC_CTRL Fd.MEC_CTRL_writeback_en = 1 then Map.set none m.mec.upset w none else m.mec.upset } }

/-- An uncorrectable error at a code word (R253): the marker is set, and it is counted, kept, raised and recorded. -/
def Mm.uncorrectable (m : Mm) (w : Nat) : Mm :=
  let rep := m.rep.bump Rg.MEC_UE_COUNT 1
  let rep := { rep with regs := wr64R rep.regs Rg.MEC_LAST_UE_LO (w % 2 ^ 48) }
  { m with
    rep := rep.fire 96 11 [w % 2 ^ 32, w / 2 ^ 32, regionParam rep.regs w]
    mec := { m.mec with poison := markWord m.mec.poison w true, upset := Map.set none m.mec.upset w none } }

/-- The error that a read of a code word meets: one injected there, or the one that the world brings. -/
def Mm.errorAt (m : Mm) (w : Nat) (u : Upset) : Upset :=
  match u with
  | .none => match Map.get none m.mec.upset w with
    | some true => .uncorrectable
    | some false => .corrected
    | none => .none
  | u => u

/-- Meet the error of a code word. -/
def Mm.meet (m : Mm) (w : Nat) (u : Upset) : Mm :=
  match m.errorAt w u with
  | .none => m
  | .corrected => m.corrected w
  | .uncorrectable => m.uncorrectable w

/-- The injection that a store of this code word takes, if one is armed for it (R260): whether the error is uncorrectable, or the
marker. -/
def Mm.injection (m : Mm) (w n : Nat) : Option Nat :=
  let a := rd64R m.rep.regs Rg.MEC_INJECT_ADDR_LO % 2 ^ 48
  if getR m.rep.regs Rg.MEC_INJECT_CTRL Fd.MEC_INJECT_CTRL_arm = 1 ∧ w ≤ a ∧ a < w + n then
    some (getR m.rep.regs Rg.MEC_INJECT_CTRL Fd.MEC_INJECT_CTRL_kind)
  else none

/-- Bits that an injection of a kind at an address leaves wrong in the word at `w` of `n` bytes (R260): address and mask. Those of an
error that is corrected are right again wherever they are read. -/
def flips (kind : Nat) (light : Bool) (a w n : Nat) : List (Nat × Nat) :=
  match kind with
  | 1 => if light then [(a, 3)] else []
  | 2 => [(a, 1), (if a + 1 < w + n then a + 1 else a - 1, 1)]
  | _ => []

/-- The memory with bits turned over. -/
def Memory.flip (m : List Host.Cell) (fs : List (Nat × Nat)) : List Host.Cell :=
  fs.foldl (fun m e => Memory.put m e.1 (Memory.byte m e.1 ^^^ BitVec.ofNat 8 e.2)) m

/-- Store a code word of `n` bytes: the bytes given as (address, byte), the marker, the armed injection (R252, R260). -/
def Mm.storeWord (m : Mm) (w n : Nat) (bs : List (Nat × PByte)) (marker : Bool) : Mm :=
  let inj := m.injection w n
  let ups : Option Bool := match inj with
    | some 0 => some false
    | some 1 => some (isLight m.rep.regs w)
    | some 2 => some true
    | _ => none
  { mem := Memory.flip (bs.foldl (fun mem e => Memory.put mem e.1 e.2.v) m.mem)
      (match inj with
      | some k => flips k (isLight m.rep.regs w) (rd64R m.rep.regs Rg.MEC_INJECT_ADDR_LO % 2 ^ 48) w n
      | none => [])
    mec := { m.mec with
      poison := markWord m.mec.poison w (marker || inj == some 3)
      upset := Map.set none m.mec.upset w ups }
    rep := { m.rep with
      regs := if inj.isSome then putR m.rep.regs Rg.MEC_INJECT_CTRL Fd.MEC_INJECT_CTRL_arm 0 else m.rep.regs } }

/-- The memory reads a code word: the error there is met, a marked word counted (R253, R254). -/
def Mm.visit (m : Mm) (w : Nat) (u : Upset) : Mm :=
  let e := m.errorAt w u
  let m := m.meet w u
  if m.mec.poison.contains w && e != .uncorrectable then { m with rep := m.rep.bump Rg.MEC_POISON_READS 1 } else m

/-- Whether an agent is an engine (R368). -/
def isEngine (agent : Nat) : Bool := agent / 0x1000 == 3

/-- Note an uncorrectable error of a read-modify-write for the engine that wrote (R135). -/
def Mm.rmwNote (m : Mm) (agent w : Nat) : Mm :=
  if isEngine agent && m.errorAt w .none == .uncorrectable then
    { m with mec := { m.mec with rmwBad := m.mec.rmwBad ++ [(agent, w)] } }
  else m

/-- Flush one merge buffer (R249): a word that it fills is written whole, else it is read, corrected, merged and written, and
keeps its marker (R252). -/
def Mm.flushBuf (m : Mm) (b : Merge) : Mm :=
  let m := { m with mec := { m.mec with merges := m.mec.merges.filter (fun x => !(x.agent == b.agent && x.line == b.line)) } }
  let n := wordSize m.rep.regs b.line
  let dirty := b.bytes.any (fun e => e.2.p)
  if n ≤ b.bytes.length then m.storeWord b.line n b.bytes dirty
  else
    let m := (m.rmwNote b.agent b.line).visit b.line .none
    m.storeWord b.line n b.bytes (dirty || m.mec.poison.contains b.line)

/-- Flush the buffers that a test picks. -/
def Mm.flush (m : Mm) (p : Merge → Bool) : Mm := (m.mec.merges.filter p).foldl Mm.flushBuf m

/-- Bytes of a buffer with new ones laid over them. -/
def overlay (old new : List (Nat × PByte)) : List (Nat × PByte) :=
  new ++ old.filter (fun e => !(new.any (fun x => x.1 == e.1)))

/-- Write bytes of one code word (R248, R249, R250, R252). -/
def Mm.writeWord (m : Mm) (agent w : Nat) (bs : List (Nat × PByte)) : Mm :=
  if inInit m.rep.regs w then
    { m with rep := { m.rep with regs := stickF m.rep.regs Rg.MEC_STATUS Fd.MEC_STATUS_init_discards 1 } }
  else
    let m := m.flush (fun b => (b.line == w && b.agent != agent) ||
      (b.agent == agent && b.line != w && storeOf b.line == storeOf w))
    let old := ((m.mec.merges.find? (fun b => b.agent == agent && b.line == w)).map (·.bytes)).getD []
    let all := overlay old bs
    let rest := m.mec.merges.filter (fun b => !(b.agent == agent && b.line == w))
    let n := wordSize m.rep.regs w
    if n ≤ all.length then
      ({ m with mec := { m.mec with merges := rest } }).storeWord w n all (all.any (fun e => e.2.p))
    else { m with mec := { m.mec with merges := ⟨agent, w, all⟩ :: rest } }

/-- Code words that an access touches, each with the bytes of the access in it; `fuel` is the length. -/
def pieces (regs : SMap Word) : Nat → Nat → List PByte → List (Nat × List (Nat × PByte))
  | 0, _, _ => []
  | _, _, [] => []
  | fuel + 1, a, bs =>
    let w := wordOf regs a
    let k := w + wordSize regs a - a
    (w, ((List.range k).zip (bs.take k)).map (fun e => (a + e.1, e.2))) :: pieces regs fuel (a + k) (bs.drop k)

/-- First byte of an access that meets a decode error (R24): what an agent may reach changes at multiples of 4 MiB only. -/
def firstBad (regs : SMap Word) (agent a n : Nat) : Option Nat :=
  let inner := (List.range ((a + n - 1) / 0x400000 - a / 0x400000)).map (fun i => (a / 0x400000 + i + 1) * 0x400000)
  if n = 0 then none
  else if (a :: (a + n - 1) :: inner).all (accessible regs agent) then none
  else (List.range n).find? (fun i => !accessible regs agent (a + i)) |>.map (a + ·)

/-- A write arrives at the memories (R24, R249, R252): bytes that meet a decode error are discarded, and the event is raised once
for the access. -/
def Mm.write (m : Mm) (agent a : Nat) (bs : List PByte) : Mm :=
  let bad := firstBad m.rep.regs agent a bs.length
  let m := (pieces m.rep.regs bs.length a bs).foldl (fun m p =>
    let ok := p.2.filter (fun e => bad.isNone || accessible m.rep.regs agent e.1)
    if ok = [] then m else m.writeWord agent p.1 ok) m
  match bad with
  | some x => { m with rep := m.rep.fire 128 12 [x % 2 ^ 32, x / 2 ^ 32] }
  | none => m

/-- Read one code word's part of an access: the buffers of other agents that hold the word are flushed, the agent's own bytes are seen
in its buffer, the error is met, the marker counted (R248, R249, R253, R254). -/
def Mm.readWord (m : Mm) (agent w : Nat) (as : List Nat) (u : Upset) : Mm × List PByte :=
  if inInit m.rep.regs w then (m, as.map (fun a => ⟨Memory.byte m.mem a, true⟩))
  else
    let m := (m.flush (fun b => b.line == w && b.agent != agent)).visit w u
    let marked := m.mec.poison.contains w
    let own := ((m.mec.merges.find? (fun b => b.agent == agent && b.line == w)).map (·.bytes)).getD []
    (m, as.map (fun a => match own.find? (fun e => e.1 == a) with
      | some e => ⟨e.2.v, e.2.p || marked⟩
      | none => ⟨Memory.byte m.mem a, marked⟩))

/-- A read arrives at the memories (R24, R253): bytes that meet a decode error return 0 with poison (log entry 12), the event is
raised once. The error `u` strikes the first code word. -/
def Mm.read (m : Mm) (agent a n : Nat) (u : Upset) : Mm × List PByte :=
  let bad := firstBad m.rep.regs agent a n
  let r := (pieces m.rep.regs n a (List.replicate n ⟨0, false⟩)).foldl (fun (r : Mm × List PByte × Upset) p =>
    let as := p.2.map (·.1)
    if bad.isSome && as.any (fun x => !accessible m.rep.regs agent x) then (r.1, r.2.1 ++ as.map (fun _ => ⟨0, true⟩), .none)
    else
      let q := r.1.readWord agent p.1 as r.2.2
      (q.1, r.2.1 ++ q.2, .none)) (m, [], u)
  match bad with
  | some x => ({ r.1 with rep := r.1.rep.fire 128 12 [x % 2 ^ 32, x / 2 ^ 32] }, r.2.1)
  | none => (r.1, r.2.1)

/-- Write to the memories. -/
def State.memWrite (s : State) (agent a : Nat) (bs : List PByte) : State := s.withMm (s.mm.write agent a bs)

/-- Read from the memories: the state after. -/
def State.memRead (s : State) (agent a n : Nat) : State := s.withMm (s.mm.read agent a n .none).1

/-- Read from the memories: the bytes. -/
def State.memBytes (s : State) (agent a n : Nat) : List PByte := (s.mm.read agent a n .none).2

/-- Flush the merge buffers of a writer that waits for its responses (R249). -/
def State.memSync (s : State) (agent : Nat) : State := s.withMm (s.mm.flush (fun b => b.agent == agent))

/-- What an agent would read at an address, without any effect of a read: buffered bytes first. -/
def State.peekBytes (s : State) (a n : Nat) : List PByte :=
  (List.range n).map (fun i =>
    let x := a + i
    let w := wordOf s.regs x
    let buf := s.mec.merges.findSome? (fun b => (b.bytes.find? (fun e => e.1 == x)).map (·.2))
    match buf with
    | some p => ⟨p.v, p.p || s.mec.poison.contains w⟩
    | none => ⟨Memory.byte s.mem x, s.mec.poison.contains w⟩)

/-- Lose the contents of a range of addresses: it reads as zeros under its code (R248, R356). -/
def State.memClear (s : State) (lo hi : Nat) : State :=
  { s with
    mem := Map.clear lo hi s.mem
    mec := { s.mec with
      poison := s.mec.poison.filter (fun w => !(decide (lo ≤ w) && decide (w < hi)))
      upset := Map.clear lo hi s.mec.upset
      merges := s.mec.merges.filter (fun b => !(decide (lo ≤ b.line) && decide (b.line < hi))) } }

end Sys2Proof.Machine
end

