-- ==== Sys2Proof/Machine/Queue.lean ====
section
/-! DEFINITION. The queue manager (R273 to R280): queue states and their cache, enqueue and dequeue in their two parts, host
indices. The operations work on the memories, the queue manager and the reporting part. -/
namespace Sys2Proof.Machine

/-- The part of the state that a queue operation reads and writes. -/
structure Qx where
  mm : Mm
  qm : Qm
  deriving DecidableEq, Repr

/-- The queue part of the state. -/
def State.qx (s : State) : Qx := ⟨s.mm, s.qm⟩

/-- A state with its queue part replaced. -/
def State.withQx (s : State) (x : Qx) : State :=
  { s with mem := x.mm.mem, mec := x.mm.mec, regs := x.mm.rep.regs, out := x.mm.rep.out, host := x.mm.rep.host,
           wtr := x.mm.rep.wtr, qm := x.qm }

/-- The queue manager as an agent (R368). -/
def qmAgent : Nat := 10

/-- Status codes of a queue operation (R275). -/
def qOk : Nat := 0
def qFull : Nat := 1
def qEmpty : Nat := 2
def qInvalid : Nat := 3
def qBroken : Nat := 4
def qSize : Nat := 5
def qFault : Nat := 6

/-- The bytes of a queue state (R274). -/
def QState.bytes (t : QState) : List Byte :=
  leBytes 6 t.base ++ leBytes 1 t.sizeLog ++ leBytes 1 t.esize ++ leBytes 4 t.head.toNat ++ leBytes 4 t.tail.toNat
    ++ leBytes 4 t.stuck ++ leBytes 4 t.threshold ++ leBytes 2 t.owner ++ leBytes 2 t.hostSlot ++ [t.flags] ++ leBytes 3 0

/-- A queue state from its bytes (R274). -/
def qstateOf (bs : List Byte) : QState :=
  { base := le bs 0 6, sizeLog := le bs 6 1, esize := le bs 7 1, head := BitVec.ofNat 32 (le bs 8 4),
    tail := BitVec.ofNat 32 (le bs 12 4), stuck := le bs 16 4, threshold := le bs 20 4, owner := le bs 24 2,
    hostSlot := le bs 26 2, flags := BitVec.ofNat 8 (le bs 28 1) }

/-- Flags of a queue state (R274). -/
def QState.valid (t : QState) : Bool := t.flags.getLsbD 0
def QState.system (t : QState) : Bool := t.flags.getLsbD 1
def QState.hostProducer (t : QState) : Bool := t.flags.getLsbD 2
def QState.hostConsumer (t : QState) : Bool := t.flags.getLsbD 3
def QState.pinned (t : QState) : Bool := t.flags.getLsbD 4
def QState.thresholdEvent (t : QState) : Bool := t.flags.getLsbD 5
def QState.broken (t : QState) : Bool := t.flags.getLsbD 6

/-- Entry size in bytes (R274). -/
def QState.esz (t : QState) : Nat := 16 * 2 ^ t.esize

/-- Entries of the ring (R273). -/
def QState.size (t : QState) : Nat := 2 ^ t.sizeLog

/-- Fill of a queue (R274). -/
def QState.fill (t : QState) : Nat := (t.tail - t.head).toNat

/-- Address of entry `i` of the ring (R274). -/
def QState.slot (t : QState) (i : Word) : Nat := t.base + i.toNat % t.size * t.esz

/-- Address of the state of queue `q` (R274). -/
def stateAddr (regs : SMap Word) (q : Nat) : Nat := rd64R regs Rg.QMG_STATE_BASE_LO + 32 * q

/-- Address of an entry of the host index table (R280). -/
def hostIndex (regs : SMap Word) (slot : Nat) : Nat := rd64R regs Rg.QMG_HOST_TABLE_LO + 16 * slot

/-- Keep a queue's state as the most recently used of the cache. -/
def Qx.keep (x : Qx) (q : Nat) (t : QState) (dirty : Bool) : Qx :=
  { x with qm := { x.qm with cache := ⟨q, t, dirty⟩ :: x.qm.cache.filter (fun e => e.q != q) } }

/-- Make room in the set of a queue (R279): eight ways, the least recently used unpinned one goes, written back where it
changed. -/
def Qx.evict (x : Qx) (q : Nat) : Qx :=
  let set := x.qm.cache.filter (fun e => e.q % 1024 == q % 1024)
  if set.length < 8 then x
  else match (set.filter (fun e => !e.st.pinned)).getLast? with
    | none => x
    | some v =>
      { mm := if v.dirty then x.mm.write qmAgent (stateAddr x.mm.rep.regs v.q) (clean v.st.bytes) else x.mm
        qm := { x.qm with cache := x.qm.cache.filter (fun e => e.q != v.q) } }

/-- Mark a queue broken; the event is raised once (R278). -/
def Qx.breakQ (x : Qx) (q : Nat) (t : QState) : Qx :=
  let x := x.keep q { t with flags := t.flags ||| 0x41 } true
  if t.broken then x else { x with mm := { x.mm with rep := x.mm.rep.fire 162 10 [q] } }

/-- Bring a queue's state into the cache and answer it (R278, R279). -/
def Qx.load (x : Qx) (q : Nat) : Qx × QState :=
  match x.qm.cache.find? (fun e => e.q == q) with
  | some e => (x.keep q e.st e.dirty, e.st)
  | none =>
    let x := { x with mm := { x.mm with rep := x.mm.rep.bump Rg.QMG_CACHE_MISSES 1 } }
    let x := x.evict q
    let r := x.mm.read qmAgent (stateAddr x.mm.rep.regs q) 32 .none
    let t := qstateOf (vals r.2)
    let x := { x with mm := r.1 }
    if anyP r.2 ∨ (t.valid ∧ (3 < t.esize ∨ t.sizeLog < 4 ∨ 20 < t.sizeLog)) then
      let x := x.breakQ q t
      (x, { t with flags := t.flags ||| 0x41 })
    else (x.keep q t false, t)

/-- What forbids an operation of an agent on a queue before its fill is looked at (R275, R278). -/
def Qx.refusal (x : Qx) (agent : Nat) (t : QState) : Option Nat :=
  if getR x.mm.rep.regs Rg.QMG_CTRL Fd.QMG_CTRL_enable = 0 then some qInvalid
  else if t.broken then some qBroken
  else if !t.valid then some qInvalid
  else if t.system && !(agent / 0x1000 == 6 || agent / 0x1000 == 4) then some qInvalid
  else none

/-- The books of a rejected enqueue (R276). -/
def Qx.reject (x : Qx) (q : Nat) (t : QState) : Qx :=
  let x := x.keep q { t with stuck := min 0xFFFFFFFF (t.stuck + 1) } true
  let rep := x.mm.rep.bump Rg.QMG_REJECTS 1
  let rep := { rep with regs := putR rep.regs Rg.QMG_LAST_REJECT Fd.QMG_LAST_REJECT_queue q }
  let rep := if t.stuck = 0xFFFFFFFE then rep.fire 191 10 [] else rep
  let first := !x.qm.rejecting.contains q
  { mm := { x.mm with rep := if first then rep.fire 160 10 [q] else rep }
    qm := { x.qm with rejecting := if first then q :: x.qm.rejecting else x.qm.rejecting } }

/-- The threshold event of a rise of the fill (R277). -/
def Qx.risen (x : Qx) (q : Nat) (t : QState) (before after : Nat) : Qx :=
  if t.thresholdEvent ∧ before < t.threshold ∧ t.threshold ≤ after then
    { x with mm := { x.mm with rep := x.mm.rep.fire 161 10 [q] } }
  else x

/-- The first part of an enqueue (R276): a status where it is answered at once, else the entry is written at the tail. -/
def Qx.enqStart (x : Qx) (agent q : Nat) (entry : List PByte) : Qx × Option Nat :=
  let r := x.load q
  let x := r.1
  let t := r.2
  match x.refusal agent t with
  | some st => (x, some st)
  | none =>
    if entry.length ≠ t.esz then (x, some qSize)
    else if t.size ≤ t.fill then (x.reject q t, some qFull)
    else ({ x with mm := x.mm.write qmAgent (t.slot t.tail) entry }, none)

/-- The second part of an enqueue (R276): the write's response has returned. -/
def Qx.enqEnd (x : Qx) (q : Nat) : Qx × Nat :=
  let r := x.load q
  let x := r.1
  let t := r.2
  let x := { x with mm := x.mm.flush (fun b => b.agent == qmAgent) }
  match firstBad x.mm.rep.regs qmAgent (t.slot t.tail) t.esz with
  | some _ => (x.reject q t, qFault)
  | none =>
    let t' := { t with tail := t.tail + 1 }
    let x := x.keep q t' true
    let x := { x with qm := { x.qm with rejecting := x.qm.rejecting.filter (· != q) } }
    let x := if t.hostConsumer then
        { x with mm := x.mm.write qmAgent (hostIndex x.mm.rep.regs t.hostSlot + 8) (clean (leBytes 4 t'.tail.toNat)) }
      else x
    (x.risen q t t.fill t'.fill, qOk)

/-- The first part of a dequeue (R276). -/
def Qx.deqStart (x : Qx) (agent q : Nat) : Qx × Option Nat :=
  let r := x.load q
  let x := r.1
  let t := r.2
  match x.refusal agent t with
  | some st => (x, some st)
  | none => if t.fill = 0 then (x, some qEmpty) else (x, none)

/-- The second part of a dequeue (R276): the read at the head returns. -/
def Qx.deqEnd (x : Qx) (q : Nat) : Qx × Nat × List PByte :=
  let r := x.load q
  let x := r.1
  let t := r.2
  let rd := x.mm.read qmAgent (t.slot t.head) t.esz .none
  let bad := (firstBad x.mm.rep.regs qmAgent (t.slot t.head) t.esz).isSome
  let x := { x with mm := rd.1 }
  if bad then (x, qFault, [])
  else
    let t' := { t with head := t.head + 1 }
    let x := x.keep q t' true
    let x := if t.hostProducer then
        { x with mm := x.mm.write qmAgent (hostIndex x.mm.rep.regs t.hostSlot + 12) (clean (leBytes 4 t'.head.toNat)) }
      else x
    (x, qOk, rd.2)

/-- Give an agent the answer to its operation (R275). -/
def Qx.answer (x : Qx) (agent q st : Nat) (entry : List PByte) : Qx :=
  { x with mm := { x.mm with rep := { x.mm.rep with out := .queueAnswer agent q st entry :: x.mm.rep.out } } }

/-- Start an operation that is first in line on its queue: it is answered, or it becomes the one under way. -/
def Qx.start (x : Qx) (o : QOp) : Qx × Bool :=
  let r := if o.enq then x.enqStart o.agent o.q o.entry else x.deqStart o.agent o.q
  match r.2 with
  | some st => (r.1.answer o.agent o.q st [], true)
  | none => (r.1, false)

/-- Start the operations that wait on a queue, in order of arrival, until one is under way (R276). -/
def Qx.pump : Nat → Qx → Nat → Qx
  | 0, x, _ => x
  | n + 1, x, q =>
    match x.qm.ops.find? (fun o => o.q == q) with
    | none => x
    | some o =>
      if o.issued then x
      else
        let r := x.start o
        let i := x.qm.ops.findIdx (fun o => o.q == q)
        if r.2 then Qx.pump n { r.1 with qm := { r.1.qm with ops := r.1.qm.ops.eraseIdx i } } q
        else { r.1 with qm := { r.1.qm with ops := r.1.qm.ops.set i { o with issued := true } } }

/-- The operations with one more, in the order in which they are applied: by arrival, a dequeue before the enqueues of its queue that
arrived in the same cycle (R276). -/
def QOp.line (ops : List QOp) (o : QOp) : List QOp :=
  let i := if o.enq then ops.length else ops.findIdx (fun x => x.enq && x.q == o.q && x.at_ == o.at_)
  ops.take i ++ o :: ops.drop i

/-- An operation arrives (R276). -/
def Qx.arrive (x : Qx) (o : QOp) : Qx :=
  let x := { x with qm := { x.qm with ops := QOp.line x.qm.ops o } }
  x.pump x.qm.ops.length o.q

/-- The ring access of the operation under way on a queue has returned: it is finished and answered, the next one starts. -/
def Qx.finish (x : Qx) (enq : Bool) (q : Nat) : Qx :=
  let i := x.qm.ops.findIdx (fun o => o.q == q)
  match x.qm.ops[i]? with
  | none => x
  | some o =>
    if o.issued && o.enq == enq then
      let x := { x with qm := { x.qm with ops := x.qm.ops.eraseIdx i } }
      let x := if enq then
          let r := x.enqEnd q
          r.1.answer o.agent q r.2 []
        else
          let r := x.deqEnd q
          r.1.answer o.agent q r.2.1 r.2.2
      x.pump x.qm.ops.length q
    else x

/-- Finish all operations of a queue, in order: what comes later on the same queue waits for them. -/
def Qx.settle : Nat → Qx → Nat → Qx
  | 0, x, _ => x
  | n + 1, x, q =>
    match x.qm.ops.find? (fun o => o.q == q) with
    | none => x
    | some o => Qx.settle n (x.finish o.enq q) q

/-- A whole enqueue of an agent of the device, answered with its status. -/
def Qx.enqueue (x : Qx) (agent q : Nat) (entry : List PByte) : Qx × Nat :=
  let x := x.settle (2 * x.qm.ops.length) q
  let r := x.enqStart agent q entry
  match r.2 with
  | some st => (r.1, st)
  | none => r.1.enqEnd q

/-- A whole dequeue of an agent of the device: status and entry. -/
def Qx.dequeue (x : Qx) (agent q : Nat) : Qx × Nat × List PByte :=
  let x := x.settle (2 * x.qm.ops.length) q
  let r := x.deqStart agent q
  match r.2 with
  | some st => (r.1, st, [])
  | none => r.1.deqEnd q

/-- The state of a queue, cached or in DRAM, without any effect of reading it. -/
def State.queue (s : State) (q : Nat) : QState :=
  match s.qm.cache.find? (fun e => e.q == q) with
  | some e => e.st
  | none => qstateOf (vals (s.peekBytes (stateAddr s.regs q) 32))

/-- The state of a queue as an operation on it finds it (R278), without any effect of reading it. -/
def State.queueSeen (s : State) (q : Nat) : QState := (s.qx.load q).2

/-- Enqueue for an agent of the device: the state after. -/
def State.enqueue (s : State) (agent q : Nat) (entry : List PByte) : State := s.withQx (s.qx.enqueue agent q entry).1

/-- Enqueue for an agent of the device: the status. -/
def State.enqueueStatus (s : State) (agent q : Nat) (entry : List PByte) : Nat := (s.qx.enqueue agent q entry).2

/-- Read the host's index of one shared queue at a symbol tick (R280). -/
def Qx.hostRead (x : Qx) (q : Nat) : Qx :=
  let r := x.load q
  let x := r.1
  let t := r.2
  if t.broken || !t.valid then x
  else if t.hostProducer then
    let rd := x.mm.read qmAgent (hostIndex x.mm.rep.regs t.hostSlot) 4 .none
    let x := { x with mm := rd.1 }
    if anyP rd.2 then x.breakQ q t
    else
      let ht : Word := BitVec.ofNat 32 (leNat (vals rd.2))
      let exceeds := decide (t.size < (ht - t.head).toNat)
      let tail := if exceeds then t.head + BitVec.ofNat 32 t.size else ht
      let t' := { t with tail := tail }
      let x := x.keep q t' true
      let was := x.qm.clamped.contains q
      let x := { x with qm := { x.qm with
        clamped := if exceeds then (if was then x.qm.clamped else q :: x.qm.clamped) else x.qm.clamped.filter (· != q) } }
      let x := if exceeds && !was then { x with mm := { x.mm with rep := x.mm.rep.fire 163 10 [q] } } else x
      x.risen q t t.fill t'.fill
  else if t.hostConsumer then
    let rd := x.mm.read qmAgent (hostIndex x.mm.rep.regs t.hostSlot + 4) 4 .none
    let x := { x with mm := rd.1 }
    if anyP rd.2 then x.breakQ q t
    else x.keep q { t with head := BitVec.ofNat 32 (leNat (vals rd.2)) } true
  else x

/-- Read the host's indices of every shared queue (R280). -/
def Qx.hostReads (x : Qx) : Qx :=
  (x.qm.created.filter (fun e => e.2.isSome)).foldl (fun x e => x.hostRead e.1) x

/-- Forget a queue's state and its operations, answered INVALID (R282). -/
def Qx.delete (x : Qx) (q : Nat) : Qx :=
  let r := x.load q
  let waiting := r.1.qm.ops.filter (fun o => o.q == q)
  let x := waiting.foldl (fun x o => x.answer o.agent o.q qInvalid []) r.1
  let x := x.keep q { r.2 with flags := 0 } true
  { x with qm := { x.qm with
      ops := x.qm.ops.filter (fun o => o.q != q)
      clamped := x.qm.clamped.filter (· != q)
      rejecting := x.qm.rejecting.filter (· != q)
      created := x.qm.created.filter (fun e => e.1 != q) } }

/-- A new queue (R281): indices and count zeroed, the indices of its host slot too. -/
def Qx.create (x : Qx) (q : Nat) (t : QState) (slot : Option Nat) : Qx :=
  let x := if x.qm.cache.any (fun e => e.q == q) then x else x.evict q
  let x := x.keep q t true
  let x := match slot with
    | some h => { x with mm := x.mm.write qmAgent (hostIndex x.mm.rep.regs h) (clean (leBytes 16 0)) }
    | none => x
  { x with qm := { x.qm with created := x.qm.created.filter (fun e => e.1 != q) ++ [(q, slot)] } }

/-- Drop a queue's state from the cache unwritten, and say whether it was there and changed (R408). -/
def Qx.cacheLost (x : Qx) : Qx := { x with qm := { x.qm with cache := [] } }

end Sys2Proof.Machine
end

