-- ==== Sys2Proof/Machine/Lantern.lean ====
section
/-! DEFINITION. The Lantern modem (R371 to R381): receiver states, AGC, control port, packets and their descriptors. Powers are
Q7.8 dBFS. -/
namespace Sys2Proof.Machine

/-- The part of the state that Lantern touches. -/
structure Lx where
  qx : Qx
  lnt : Lantern
  deriving DecidableEq, Repr

/-- The Lantern part of the state. -/
def State.lx (s : State) : Lx := ⟨s.qx, s.lnt⟩

/-- A state with its Lantern part replaced. -/
def State.withLx (s : State) (x : Lx) : State :=
  { s with mem := x.qx.mm.mem, mec := x.qx.mm.mec, regs := x.qx.mm.rep.regs, out := x.qx.mm.rep.out,
           host := x.qx.mm.rep.host, wtr := x.qx.mm.rep.wtr, qm := x.qx.qm, lnt := x.lnt }

/-- Lantern as an agent (R368). -/
def lntUnit : Nat := 5

/-- The registers that Lantern sees. -/
def Lx.regs (x : Lx) : SMap Word := x.qx.mm.rep.regs

/-- Replace the reporting part. -/
def Lx.rep (x : Lx) (f : Rep → Rep) : Lx := { x with qx := { x.qx with mm := { x.qx.mm with rep := f x.qx.mm.rep } } }

/-- Replace the registers. -/
def Lx.setRegs (x : Lx) (r : SMap Word) : Lx := x.rep (fun p => { p with regs := r })

/-- Count one of LNT_CNT_0 to 9. -/
def Lx.count (x : Lx) (k n : Nat) : Lx := x.rep (fun r => r.bump (Rg.LNT_CNT k) n)

/-- Receiver states (R379). -/
def rxSearch : Nat := 0
def rxWindow : Nat := 1
def rxPacket : Nat := 2
def rxTransmit : Nat := 3

/-- State of the receiver. -/
def lntState (regs : SMap Word) : Nat := getR regs Rg.LNT_STATUS Fd.LNT_STATUS_state

/-- The modem runs: enabled and not in Deep (R353, chapter head). -/
def lntOn (regs : SMap Word) : Bool :=
  getR regs Rg.LNT_CTRL Fd.LNT_CTRL_enable == 1 && getR regs Rg.PWR_DEVICE Fd.PWR_DEVICE_state != 2

/-- Enter a state: the AGC runs in SEARCH and is frozen in the others (R379). -/
def Lx.enter (x : Lx) (st : Nat) : Lx :=
  x.setRegs (putR (putR x.regs Rg.LNT_STATUS Fd.LNT_STATUS_state st) Rg.LNT_STATUS Fd.LNT_STATUS_frozen (b2n (st != rxSearch)))

/-- Put a frame on the control port (R375): on the wire at once where nothing is, else after what waits. -/
def Lx.spiSend (x : Lx) (host : Bool) (f : BitVec 24) : Lx :=
  let free := x.lnt.spi == []
  let x := { x with lnt := { x.lnt with spi := x.lnt.spi ++ [(host, f)] } }
  if free then x.rep (fun r => { r with out := .spi f :: r.out }) else x

/-- Difference of two powers rounded to whole dB. -/
def roundDb (d : Int) : Int := (d + 128) / 256

/-- One gain step (R378): the index moves by the difference from the target where it exceeds the hysteresis, and the gain word
of the new index is written to the transceiver. -/
def Lx.gainStep (x : Lx) (power : Int) : Lx :=
  let target := sgn 8 (getR x.regs Rg.LNT_AGC Fd.LNT_AGC_target)
  let hyst := getR x.regs Rg.LNT_AGC Fd.LNT_AGC_hyst
  let d := power - target * 256
  if getR x.regs Rg.LNT_CTRL Fd.LNT_CTRL_agc_en = 1 ∧ hyst * 256 < d.natAbs then
    let idx := (max 0 (min 63 ((getR x.regs Rg.LNT_STATUS Fd.LNT_STATUS_gain_index : Int) + roundDb d))).toNat
    let x := x.setRegs (putR x.regs Rg.LNT_STATUS Fd.LNT_STATUS_gain_index idx)
    x.spiSend false (BitVec.ofNat 24 (getR x.regs Rg.LNT_AGC Fd.LNT_AGC_agc_addr * 65536 +
      getR x.regs (Rg.LNT_TABLE idx) Fd.LNT_TABLE_gain_word))
  else x

/-- PREAMBLE_DETECT (R379, R380). -/
def execPreambleDetect (power : Int) (s : State) : Res :=
  let x := s.lx
  let st := lntState s.regs
  .next (if !lntOn s.regs then s
    else if st = rxSearch then s.withLx { x.enter rxWindow with lnt := { x.lnt with pd := power, captured := false } }
    else if st = rxWindow ∧ x.lnt.pd + 768 ≤ power then
      s.withLx (({ x with lnt := { x.lnt with pd := power } }.count 3 1).gainStep power)
    else if st = rxPacket ∧ x.lnt.syncRssi + 256 * getR s.regs Rg.LNT_RX_CFG Fd.LNT_RX_CFG_capture_db ≤ power then
      s.withLx ((({ x with lnt := { x.lnt with pd := power, captured := true } }.enter rxWindow).count 4 1).gainStep power)
    else s)

/-- SYNC_WORD_FOUND (R379): the RSSI over the sync word and the radio time of the match are kept. -/
def execSyncWordFound (rssi : Int) (s : State) : Res :=
  let x := s.lx
  .next (if lntOn s.regs ∧ lntState s.regs = rxWindow then
      s.withLx { (x.setRegs (putR x.regs Rg.LNT_STATUS Fd.LNT_STATUS_rssi (twos 16 rssi))).enter rxPacket with
        lnt := { x.lnt with syncRssi := rssi, syncTime := s.rt } }
    else s)

/-- WINDOW_EXPIRY (R380). -/
def execWindowExpiry (s : State) : Res :=
  .next (if lntState s.regs = rxWindow then s.withLx ((s.lx.enter rxSearch).count 2 1) else s)

/-- AGC_MEASUREMENT (R374, R378): frames with code violations are counted; the AGC acts unless it is frozen or disabled. -/
def execAgcMeasurement (rssi : Int) (codeErrors : Nat) (s : State) : Res :=
  let x := s.lx.count 9 codeErrors
  let live := getR x.regs Rg.LNT_CTRL Fd.LNT_CTRL_agc_en == 1 && getR x.regs Rg.LNT_STATUS Fd.LNT_STATUS_frozen == 0
  .next (if !lntOn s.regs then s
    else if live then
      s.withLx ((x.setRegs (putR x.regs Rg.LNT_STATUS Fd.LNT_STATUS_rssi (twos 16 rssi))).gainStep rssi)
    else s.withLx x)

/-- A write of LNT_SPI_CMD (R375): go sends the frame. -/
def State.spiCmd (s : State) (v : Word) : State :=
  let x := s.lx
  let x := x.setRegs (putR x.regs Rg.LNT_SPI_CMD Fd.LNT_SPI_CMD_frame (Fd.LNT_SPI_CMD_frame.get v))
  s.withLx (if Fd.LNT_SPI_CMD_go.get v = 1 then
      (x.setRegs (putR x.regs Rg.LNT_SPI_CMD Fd.LNT_SPI_CMD_busy 1)).spiSend true (BitVec.ofNat 24 v.toNat)
    else x)

/-- LANTERN_SPI_COMMAND (R375). -/
def execLanternSpiCommand (v : Word) (s : State) : Res := .next (s.when (Fd.LNT_SPI_CMD_go.get v = 1) (s.spiCmd v))

/-- SPI_FRAME_END (R375): a host frame leaves its data in LNT_SPI_DATA; the next frame goes on the wire. -/
def execSpiFrameEnd (miso : BitVec 16) (s : State) : Res :=
  let x := s.lx
  .next (match s.lnt.spi with
    | [] => s
    | (host, _) :: rest =>
      let regs := if host then wrR x.regs Rg.LNT_SPI_DATA (miso.setWidth 32) else x.regs
      let regs := putR regs Rg.LNT_SPI_CMD Fd.LNT_SPI_CMD_busy (b2n (rest.any (·.1)))
      let x := { x.setRegs regs with lnt := { x.lnt with spi := rest } }
      s.withLx (match rest with
        | [] => x
        | (_, f) :: _ => x.rep (fun r => { r with out := .spi f :: r.out })))

/-- The PN9 sequence of x^9 + x^5 + 1 (R373), as `n` bytes, first bit least significant. -/
def pn9 : Nat → BitVec 9 → List Byte
  | 0, _ => []
  | n + 1, l =>
    let r := (List.range 8).foldl (fun (r : BitVec 9 × Nat) i =>
      let o := r.1.getLsbD 0
      let fb := r.1.getLsbD 0 != r.1.getLsbD 5
      ((r.1 >>> 1) ||| (if fb then 0x100 else 0), r.2 + (if o then 2 ^ i else 0))) (l, 0)
    BitVec.ofNat 8 r.2 :: pn9 n r.1

/-- Whiten or recover bytes (R373). -/
def whiten (on : Bool) (bs : List Byte) : List Byte := if on then (bs.zip (pn9 bs.length 0x1FF)).map (fun e => e.1 ^^^ e.2) else bs

/-- Length, payload and CRC of a packet (R373). -/
def lntFrame (payload : List Byte) : List Byte :=
  let b := BitVec.ofNat 8 payload.length :: payload
  b ++ leBytes 2 (crc16 b).toNat

/-- Bits of bytes in the order they are sent, least significant first (R373). -/
def sentBits (bs : List Byte) : List Bool := bs.flatMap (fun b => (List.range 8).map b.getLsbD)

/-- The deviations of a run of bits (R371): in 4-GFSK a symbol takes two, of which the first is bit 0 of the dibit. -/
def deviations (four : Bool) : List Bool → List Int
  | [] => []
  | [b] => if four then [] else [if b then 1 else -1]
  | b :: c :: l =>
    if four then (if c then (if b then -3 else -1) else (if b then 3 else 1)) :: deviations four l
    else (if b then 1 else -1) :: (if c then 1 else -1) :: deviations four l

/-- The symbols of a packet (R373): the alternating preamble, the sync word, then the bytes from length to CRC. -/
def packetSymbols (regs : SMap Word) (bs : List Byte) : List Int :=
  let four := getR regs Rg.LNT_MOD Fd.LNT_MOD_order == 1
  let outer : Int := if four then 3 else 1
  let sync := leBytes (if getR regs Rg.LNT_PKT Fd.LNT_PKT_sync_len = 1 then 4 else 2) (rdR regs Rg.LNT_SYNC).toNat
  (List.range (getR regs Rg.LNT_PKT Fd.LNT_PKT_pre_len)).map (fun i => if i % 2 = 0 then outer else -outer)
    ++ deviations four (sentBits sync ++ sentBits bs)

/-- The amplitudes of the ramp, in ascending order (R377). -/
def rampOf (regs : SMap Word) : List Nat :=
  (List.range (getR regs Rg.LNT_RAMP Fd.LNT_RAMP_ramp_len)).map (fun n => getR regs (Rg.LNT_TABLE n) Fd.LNT_TABLE_ramp)

/-- What goes on the air for the bytes from length to CRC (R377). -/
def lntAir (regs : SMap Word) (bs : List Byte) : Out :=
  .air (rampOf regs) (getR regs Rg.LNT_RAMP Fd.LNT_RAMP_ramp_step) (packetSymbols regs bs)

/-- An entry of R381. -/
def lntEntry (buf len status rssi time tag : Nat) : List Byte :=
  leBytes 8 buf ++ leBytes 2 len ++ leBytes 1 0 ++ leBytes 1 status ++ leBytes 2 rssi ++ leBytes 2 0 ++ leBytes 8 time
    ++ leBytes 4 tag ++ leBytes 4 0

/-- Deliver one held packet (R381): take a buffer and write it, then enqueue the entry; what remains to be tried again. -/
def Lx.deliver (x : Lx) (p : LntPkt) : Lx × Option LntPkt :=
  let bufQ := getR x.regs Rg.LNT_QUEUE_BUF Fd.LNT_QUEUE_BUF_queue
  let rxQ := getR x.regs Rg.LNT_QUEUE_RX Fd.LNT_QUEUE_RX_queue
  let r : Lx × Option Nat :=
    if p.tx then (x, some (le p.entry 0 8))
    else match p.buf with
      | some b => (x, some b)
      | none =>
        let d := x.qx.dequeue lntUnit bufQ
        let x := { x with qx := d.1 }
        if d.2.1 = qOk then
          let b := le (vals d.2.2) 0 8 % 2 ^ 48
          ({ x with qx := { x.qx with mm := x.qx.mm.write lntUnit b (clean p.payload) } }, some b)
        else (x, none)
  match r.2 with
  | none => (r.1, some p)
  | some b =>
    let e := r.1.qx.enqueue lntUnit rxQ (clean (leBytes 8 b ++ p.entry.drop 8))
    ({ r.1 with qx := e.1 }, if e.2 = qOk then none else some { p with buf := some b })

/-- Deliver held packets in order, until one must wait. -/
def Lx.drain : List LntPkt → Lx → Lx
  | [], x => { x with lnt := { x.lnt with heldPkts := [] } }
  | p :: ps, x =>
    let r := x.deliver p
    match r.2 with
    | none => Lx.drain ps r.1
    | some p' => { r.1 with lnt := { r.1.lnt with heldPkts := p' :: ps } }

/-- Retry what is held, and show how many received packets still are (R381). -/
def Lx.retry (x : Lx) : Lx :=
  let x := Lx.drain x.lnt.heldPkts x
  x.setRegs (putR x.regs Rg.LNT_STATUS Fd.LNT_STATUS_held ((x.lnt.heldPkts.filter (fun p => !p.tx)).length))

/-- Hold an entry behind those that wait, and try. -/
def Lx.hand (x : Lx) (p : LntPkt) : Lx := ({ x with lnt := { x.lnt with heldPkts := x.lnt.heldPkts ++ [p] } }).retry

/-- LANTERN_RX_RETRY (R381): every 500 µs while Drum is stopped. -/
def execLanternRxRetry (s : State) : Res := .next (s.withLx s.lx.retry)

/-- PACKET_END (R373, R379, R381): the bytes from length to CRC as received. -/
def execPacketEnd (raw : List Byte) (s : State) : Res :=
  let bs := whiten (s.flag Rg.LNT_CTRL Fd.LNT_CTRL_whiten) raw
  let n := le bs 0 1
  let payload := fit 0 n (bs.drop 1)
  let ok := n != 0 && (bs.drop (1 + n)).take 2 == leBytes 2 (crc16 (BitVec.ofNat 8 n :: payload)).toNat
  let x := (s.lx.enter rxSearch).count (if ok then 0 else 1) 1
  let p : LntPkt := ⟨false, none, payload,
    lntEntry 0 n (b2n ok + 2 * b2n s.lnt.captured) (twos 16 s.lnt.syncRssi) s.lnt.syncTime 0⟩
  .next (if lntState s.regs ≠ rxPacket then s
    else if 8 ≤ (s.lnt.heldPkts.filter (fun p => !p.tx)).length then s.withLx (x.count 5 1)
    else s.withLx (x.hand p))

/-- Samples from the start of a transmission to its first preamble sample (R377), in radio units. -/
def txLead (regs : SMap Word) : Nat :=
  let samples := getR regs Rg.LNT_RAMP Fd.LNT_RAMP_tr_lead +
    getR regs Rg.LNT_RAMP Fd.LNT_RAMP_ramp_len * getR regs Rg.LNT_RAMP Fd.LNT_RAMP_ramp_step
  samples * 96 * 2 ^ 32 / (10 * (rdR regs Rg.LNT_RATE).toNat)

/-- Take a descriptor (R377): a buffer with a poisoned byte is answered unsent (R255); else the transceiver is switched and the
packet goes out. -/
def Lx.transmit (x : Lx) (desc : List PByte) : Lx :=
  let d := vals desc
  let r := x.qx.mm.read lntUnit (le d 0 8 % 2 ^ 48) (le d 8 2) .none
  let x := { x with qx := { x.qx with mm := r.1 } }
  let tag := le d 24 4
  if anyP r.2 ∨ anyP desc then
    let x := (x.count 8 1).rep (fun p => p.fire 354 lntUnit [])
    x.hand ⟨true, none, [], lntEntry (le d 0 8) 0 4 0 0 tag⟩
  else
    let bs := whiten (getR x.regs Rg.LNT_CTRL Fd.LNT_CTRL_whiten == 1) (lntFrame (vals r.2))
    let x := x.enter rxTransmit
    let x := x.rep (fun p => { p with out := lntAir x.regs bs :: .pin .lntPaEn true :: .pin .lntTr true :: p.out })
    { x with lnt := { x.lnt with tx := some (lntEntry (le d 0 8) 0 0 0 (x.qx.mm.rep.rt + txLead x.regs) tag) } }

/-- LANTERN_TX_START (R377): from SEARCH, or abandoning a reception where LNT_CTRL.tx_preempt is 1. -/
def execLanternTxStart (s : State) : Res :=
  let st := lntState s.regs
  let busy := st == rxWindow || st == rxPacket
  let may := lntOn s.regs && (st == rxSearch || (busy && s.flag Rg.LNT_CTRL Fd.LNT_CTRL_tx_preempt))
  let x := s.lx
  let r := x.qx.dequeue lntUnit (getR s.regs Rg.LNT_QUEUE_TX Fd.LNT_QUEUE_TX_queue)
  let x := { x with qx := r.1 }
  .next (if !may then s
    else if r.2.1 ≠ qOk then s.withLx x
    else
      let x := if busy then (x.enter rxSearch).count 6 1 else x
      s.withLx (x.transmit r.2.2))

/-- LANTERN_TX_END (R377, R381): PA and TR drop, and the descriptor is completed on the receive queue. -/
def execLanternTxEnd (s : State) : Res :=
  .next (match s.lnt.tx with
    | none => s
    | some e =>
      let x := (s.lx.enter rxSearch).count 7 1
      let x := x.rep (fun p => { p with out := .pin .lntTr false :: .pin .lntPaEn false :: p.out })
      s.withLx ({ x with lnt := { x.lnt with tx := none } }.hand ⟨true, none, [], e⟩))

/-- A transmission that is under way ends at once: LNT_PA_EN and LNT_TR fall (R376), and its descriptor is not completed. -/
def State.lanternStop (s : State) : State :=
  { s with
    lnt := { s.lnt with tx := none }
    out := if s.lnt.tx.isSome then .pin .lntTr false :: .pin .lntPaEn false :: s.out else s.out }

/-- Registers after a write of LNT_CTRL: an enable that changes leaves the receiver in SEARCH (R379). -/
def lntCtrlRegs (regs : SMap Word) (v : Word) : SMap Word :=
  let turns := Fd.LNT_CTRL_enable.get v != getR regs Rg.LNT_CTRL Fd.LNT_CTRL_enable
  let regs := wrR regs Rg.LNT_CTRL (v &&& 0xFF0F)
  if turns then putR (putR regs Rg.LNT_STATUS Fd.LNT_STATUS_state 0) Rg.LNT_STATUS Fd.LNT_STATUS_frozen 0 else regs

/-- A write of LNT_CTRL: disabled, the modem abandons what it receives or sends (log entry 161). -/
def State.lntCtrl (s : State) (v : Word) : State :=
  let s := if Fd.LNT_CTRL_enable.get v = 0 then s.lanternStop else s
  { s with regs := lntCtrlRegs s.regs v }

end Sys2Proof.Machine
end

