-- ==== Sys2Proof/Machine/Memory.lean ====
section
/-! DEFINITION. The memory commands: accesses, merge buffers, region initialisation, scrubbing, repair, error injection (R242 to
R260). -/
namespace Sys2Proof.Machine

/-- WRITE_MERGE_FLUSH (R249): the buffer of a writer for the code word of an address. -/
def execWriteMergeFlush (agent addr : Nat) (s : State) : Res :=
  .next (s.withMm (s.mm.flush (fun b => b.agent == agent && b.line == wordOf s.regs addr)))

/-- The lowest region entry in initialisation (MEC_STATUS.region_busy); 0 where none is. -/
def lowestBusy (regs : SMap Word) : Nat :=
  ((List.range 64).find? (fun n => getR regs (Rg.MEC_REGION_CTRL n) Fd.MEC_REGION_CTRL_busy == 1)).getD 0

/-- First and last address of a region entry (R245). -/
def regionLo (regs : SMap Word) (n : Nat) : Nat := (rdR regs (Rg.MEC_REGION_BASE n)).toNat * 65536
def regionHi (regs : SMap Word) (n : Nat) : Nat := ((rdR regs (Rg.MEC_REGION_LIMIT n)).toNat + 1) * 65536

/-- What MEC_REGION_n_CTRL reads as: code 0 for an entry that covers DRAM, whatever was written (R246). -/
def regionCtrlView (regs : SMap Word) (n : Nat) : Word :=
  let w := rdR regs (Rg.MEC_REGION_CTRL n)
  if isDram (regionLo regs n) then Fd.MEC_REGION_CTRL_code.set w 0 else w

/-- Registers after a write of MEC_REGION_n_CTRL: enable and code; init sets busy, and is absorbed while busy reads 1 (R248). -/
def regionCtrlRegs (regs : SMap Word) (n : Nat) (v : Word) : SMap Word :=
  let a := Rg.MEC_REGION_CTRL n
  let regs := putR regs a Fd.MEC_REGION_CTRL_enable (Fd.MEC_REGION_CTRL_enable.get v)
  let regs := putR regs a Fd.MEC_REGION_CTRL_code (Fd.MEC_REGION_CTRL_code.get v)
  if Fd.MEC_REGION_CTRL_init.get v = 1 then
    let regs := putR regs a Fd.MEC_REGION_CTRL_busy 1
    putR regs Rg.MEC_STATUS Fd.MEC_STATUS_region_busy (lowestBusy regs)
  else regs

/-- A write of MEC_REGION_n_CTRL (R248): starting an initialisation writes zeros under the new code over the region. -/
def State.regionCtrl (s : State) (n : Nat) (v : Word) : State :=
  let start := Fd.MEC_REGION_CTRL_init.get v == 1 && s.getF (Rg.MEC_REGION_CTRL n) Fd.MEC_REGION_CTRL_busy == 0
  let c := s.memClear (regionLo s.regs n) (regionHi s.regs n)
  { s with
    regs := regionCtrlRegs s.regs n v
    mem := if start then c.mem else s.mem
    mec := if start then c.mec else s.mec }

/-- REGION_INIT (R248): a write of 1 to MEC_REGION_n_CTRL.init. -/
def execRegionInit (n : Fin 64) (v : Word) (s : State) : Res :=
  .next (s.when (Fd.MEC_REGION_CTRL_init.get v = 1) (s.regionCtrl n v))

/-- Registers after the end of an initialisation. -/
def regionDoneRegs (regs : SMap Word) (n : Nat) : SMap Word :=
  let regs := putR regs (Rg.MEC_REGION_CTRL n) Fd.MEC_REGION_CTRL_busy 0
  putR regs Rg.MEC_STATUS Fd.MEC_STATUS_region_busy (lowestBusy regs)

/-- REGION_INIT_DONE (R248). -/
def execRegionInitDone (n : Fin 64) (s : State) : Res := .next { s with regs := regionDoneRegs s.regs n }

/-- MEC as an agent (R368). -/
def mecAgent : Nat := 11

/-- Whether the scrubber reads an address: it runs, an enabled strong region holds the word, and the memory is clocked: a tile bank in
Run only, control memory and all else only while the control domain, in which MEC lies, is On (R256, R257, R354). -/
def scrubs (regs : SMap Word) (a : Nat) : Bool :=
  getR regs Rg.MEC_CTRL Fd.MEC_CTRL_scrub_en == 1 && domState regs 1 == 4 && (!isDram a || domState regs 25 == 4) && (regionOf regs a).isSome && !isLight regs a && accessible regs 10 a &&
    !(isSram a && decide (a - sramBase < 0x4800000) && clusterState regs (tileCluster (a - sramBase)) != 4)

/-- Addresses at which `scrubs` or what has been visited can change: bounds of the memories and of their banks, of the regions, and the
ends of what was visited. -/
def scrubMarks (regs : SMap Word) (seen : List (Nat × Nat)) : List Nat :=
  [0, dramSize regs] ++ (List.range 18).map (fun c => sramBase + c * 0x400000) ++ (List.range 55).map (fun i => sramBase + (i + 9) * 0x800000) ++
    (List.range 64).flatMap (fun n => [regionLo regs n, regionHi regs n]) ++ seen.map (·.2)

/-- A word lies in a range visited in this pass. -/
def scrubSeen (seen : List (Nat × Nat)) (w : Nat) : Bool := seen.any (fun r => decide (r.1 ≤ w) && decide (w < r.2))

/-- Some word is still to be visited in this pass (R256). -/
def scrubLeft (regs : SMap Word) (seen : List (Nat × Nat)) : Bool :=
  (scrubMarks regs seen).any (fun a => scrubs regs a && !scrubSeen seen a)

/-- The ranges visited with one word more, joined to what it touches. -/
def scrubAdd (seen : List (Nat × Nat)) (lo hi : Nat) : List (Nat × Nat) :=
  let touch := seen.filter (fun r => decide (r.1 ≤ hi) && decide (lo ≤ r.2))
  (touch.foldl (fun m r => min m r.1) lo, touch.foldl (fun m r => max m r.2) hi) ::
    seen.filter (fun r => !(decide (r.1 ≤ hi) && decide (lo ≤ r.2)))

/-- The scrub period in radio units (R256). -/
def scrubPeriod (regs : SMap Word) : Nat := max 1 (getR regs Rg.MEC_SCRUB_CTRL Fd.MEC_SCRUB_CTRL_period_h) * 3600 * secUnits

/-- The pass that a visit belongs to: once one is complete, the next begins when the period since its beginning is over (R256). -/
def Mec.scrubPass (m : Mec) (regs : SMap Word) (now : Nat) : Mec :=
  if m.scrubDone ∧ m.scrubStart + scrubPeriod regs ≤ now ∨ m.scrubbed = [] then
    { m with scrubStart := now, scrubbed := [], scrubDone := false }
  else m

/-- The word that a visit would read in this pass: one not yet visited. -/
def Mec.scrubDue (m : Mec) (regs : SMap Word) (w : Nat) : Bool := !m.scrubDone && scrubs regs w && !scrubSeen m.scrubbed w

/-- SCRUB_VISIT (R256): the word is read as R253 and R254 describe, once in a pass; the pass counts when none is left. -/
def execScrubVisit (addr : Nat) (u : Upset) (s : State) : Res :=
  let w := wordOf s.regs addr
  let m := s.mec.scrubPass s.regs s.now
  let r := (s.mm.readWord mecAgent w [w] u).1
  let seen := scrubAdd m.scrubbed w (w + wordSize s.regs addr)
  let last := !scrubLeft s.regs seen
  .next (if m.scrubDue s.regs w then
    { s.withMm r with
      mec := { r.mec with scrubStart := m.scrubStart, scrubbed := seen, scrubDone := last }
      regs := if last then wrR r.rep.regs Rg.MEC_SCRUB_PASSES (rdR r.rep.regs Rg.MEC_SCRUB_PASSES + 1) else r.rep.regs }
  else s)

/-- Unit identifier of the memory that holds an address (R368): tile bank, SRAM segment, DDR subchannel. -/
def memUnit (a : Nat) : Nat :=
  if isDram a then 0x9000 + 2 * storeOf a + a / 64 % 2
  else
    let o := a - sramBase
    if o < 0x4800000 then 0x8000 + 16 * (o / 0x80000) + o / 64 % 16 else 0x7000 + o / 0x800000

/-- Spare rows of a memory unit that manufacturing has left (R258): of 4 in a tile bank, of 16 in 8 MiB of SRAM. -/
def spareRows (unit : Nat) : Nat := (if unit / 0x1000 = 8 then 4 else 16) - Config.fuseRows unit

/-- Whether a field repair record finds a spare row (R258, R415): in SRAM those of the unit's earlier records are taken; in DRAM the
device decides (log entry 31), drawn at `i`. -/
def State.rowLeft (s : State) (i : Nat) (r : Nat × Nat × Nat × Nat) : Bool :=
  if r.1 = 2 then s.peek i % 2 == 0
  else decide (((s.mec.repairs.takeWhile (· != r)).filter (fun x => x.1 == 1 && x.2.1 == r.2.1)).length < spareRows r.2.1)

/-- REPAIR_RECORD_WRITE (R259): the record of a candidate, once; with 1,024 held, Watchtower record 0x0152. -/
def execRepairRecordWrite (addr : Nat) (s : State) : Res :=
  let w := wordOf s.regs addr
  let cand := s.mec.cands.any (fun c => c.word == w && isCand c.times)
  let fresh := !(s.mec.repairs.any (fun r => r.2.2.1 == w))
  let room := decide (s.mec.repairs.length < 1024)
  let s' := if cand && fresh && !room then
      s.record 0x0152 s.ctrlUnit [memUnit w, w % 2 ^ 32, w / 2 ^ 32] else s
  .next { s' with mec := { s.mec with
    repairs := if cand && fresh && room then
        s.mec.repairs ++ [(if isDram w then 2 else 1, memUnit w, w, (s.rd Rg.WTR_OP_SECONDS).toNat)]
      else s.mec.repairs
    pendingRows := if cand && fresh && room && !isDram w then s.mec.pendingRows ++ [w] else s.mec.pendingRows } }

/-- Registers after a write of MEC_INJECT_CTRL (R260): arming is refused unless the debug port is unlocked. -/
def injectRegs (regs : SMap Word) (unlocked : Bool) (v : Word) : SMap Word :=
  let regs := putR regs Rg.MEC_INJECT_CTRL Fd.MEC_INJECT_CTRL_kind (Fd.MEC_INJECT_CTRL_kind.get v)
  putR regs Rg.MEC_INJECT_CTRL Fd.MEC_INJECT_CTRL_arm (if unlocked then Fd.MEC_INJECT_CTRL_arm.get v else 0)

/-- A write of MEC_INJECT_CTRL (R260). -/
def State.injectCtrl (s : State) (v : Word) : State := { s with regs := injectRegs s.regs s.boot.unlocked v }

/-- ERROR_INJECT_ARM (R260). -/
def execErrorInjectArm (v : Word) (s : State) : Res :=
  .next (s.when (Fd.MEC_INJECT_CTRL_arm.get v = 1) (s.injectCtrl v))

/-- ERROR_INJECT_DISARM (R260): the armed injection is dropped. -/
def execErrorInjectDisarm (v : Word) (s : State) : Res :=
  .next (s.when (Fd.MEC_INJECT_CTRL_arm.get v = 0) (s.injectCtrl v))

end Sys2Proof.Machine
end

