-- ==== Sys2Proof/Machine/Psi.lean ====
section
/-! DEFINITION. What Psiwyn does for many commands: completing pending commands (R63, R65, R66), and the firmware counters
(R386). -/
namespace Sys2Proof.Machine

/-- The device is in Deep (R353, R361). -/
def inDeep (regs : SMap Word) : Bool := getR regs Rg.PWR_DEVICE Fd.PWR_DEVICE_state == 2

/-- Status codes (R59). -/
def stOk : Nat := 0x00
def stPending : Nat := 0x01
def stBadMagic : Nat := 0x02
def stBadVersion : Nat := 0x03
def stBadCrc : Nat := 0x04
def stBadLength : Nat := 0x05
def stBadDevice : Nat := 0x06
def stUnknown : Nat := 0x07
def stTagInUse : Nat := 0x08
def stBadParam : Nat := 0x09
def stLimit : Nat := 0x0A
def stProtected : Nat := 0x0B
def stWrongState : Nat := 0x0C
def stExpertDenied : Nat := 0x0D
def stExpertHeld : Nat := 0x0E
def stRelayTimeout : Nat := 0x0F
def stAborted : Nat := 0x10
def stAuth : Nat := 0x11
def stTimeout : Nat := 0x12

/-- The bytes of a response (R55, R56). -/
def responseBytes (c : Cmd) (status detail : Nat) (payload : List Byte) : List Byte :=
  let hd := fun (crc : Nat) => leBytes 4 0x50535733 ++ leBytes 1 3 ++ leBytes 1 c.dev ++ leBytes 2 c.code ++ leBytes 2 c.tag ++
    leBytes 2 0 ++ leBytes 4 payload.length ++ leBytes 2 status ++ leBytes 2 detail ++ leBytes 8 0 ++ leBytes 2 crc ++ leBytes 2 0
  hd (crc16 (hd 0 ++ payload)).toNat ++ payload

/-- The relay message that answers a relayed request, and the link that it takes (R70, R307). -/
def relayAnswer (q : Relayed) (c : Cmd) (status detail : Nat) (payload : List Byte) : Nat × Packet :=
  let body := responseBytes { c with dev := q.dev } status detail payload
  (q.link, ⟨5, false, 0, q.dev, 0, c.tag, body.length, 0, 0, clean body⟩)

/-- Complete one pending command: its notification carries the tick of its commit, or the last tick where it commits at none; its
tag stays outstanding until the entry is written (R63, R65, R66). The final status of a relayed one goes back over its link. DESIGN
CHOICE (log entry 137): as a second response. -/
def Rep.completeOne (r : Rep) (c : Cmd) (status detail : Nat) (tick : Word) : Rep :=
  let r := { r with host := { r.host with
    cmds := r.host.cmds.map (fun x => if x = c then { x with phase := .done, status := status, detail := detail } else x)
    journal := r.host.journal.filter (· != c.tag + 65536 * c.dev) } }
  match c.relayed with
  | some q => { r with host := { r.host with
      cmds := r.host.cmds.filter (fun x => !(x.relayed.isSome && x.phase == .done && x.tag == c.tag))
      relayOut := r.host.relayOut ++ [relayAnswer q c status detail []] } }
  | none => r.notify ⟨kCompletion, c.dev, c.tag, status, tick, r.rt, BitVec.ofNat 32 detail, 0⟩

/-- Complete the pending commands that a test picks, in the order in which they were accepted. -/
def Rep.complete (r : Rep) (pick : Cmd → Bool) (status detail : Nat) (tick : Word) : Rep :=
  (r.host.cmds.filter (fun c => c.phase == .pending && pick c)).foldl (fun r c => r.completeOne c status detail tick) r

/-- As `Rep.complete`, with the last tick issued. -/
def Rep.completeNow (r : Rep) (pick : Cmd → Bool) (status detail : Nat) : Rep :=
  r.complete pick status detail r.host.lastTick

/-- Complete pending commands on the state. -/
def State.completeNow (s : State) (pick : Cmd → Bool) (status detail : Nat) : State :=
  s.withRep (s.rep.completeNow pick status detail)

/-- A pending command of a code on the local device. -/
def isCmd (code : Nat) (c : Cmd) : Bool := c.code == code && c.dev == 0

/-- The first core of the active control pair (R386). -/
def ctrlUnitR (regs : SMap Word) : Nat := 0x6000 + 2 * getR regs Rg.PCE_MBX_GLOBAL Fd.PCE_MBX_GLOBAL_active_pair

/-- The part of the state that a firmware counter touches. -/
structure Fw where
  rep : Rep
  evt : Events
  deriving DecidableEq, Repr

/-- The firmware-counter part of the state. -/
def State.fw (s : State) : Fw := ⟨s.rep, s.evt⟩

/-- A state with its firmware-counter part replaced. -/
def State.withFw (s : State) (f : Fw) : State :=
  { s with regs := f.rep.regs, out := f.rep.out, host := f.rep.host, wtr := f.rep.wtr, evt := f.evt }

/-- Add to a firmware counter at once: stick class, its saturation raised with its offset (R386). -/
def Fw.add (f : Fw) (off n : Nat) : Fw :=
  let old := Map.get 0 f.evt.live off
  let new : Word := BitVec.ofNat 32 (min 0xFFFFFFFF (old.toNat + n))
  { rep := if old != 0xFFFFFFFF && new == 0xFFFFFFFF then f.rep.fire 415 (ctrlUnitR f.rep.regs) [off] else f.rep
    evt := { f.evt with live := Map.set 0 f.evt.live off new } }

/-- Add to a firmware counter: held back while a snapshot copies the table (R389). -/
def Fw.bump (f : Fw) (off n : Nat) : Fw :=
  if f.evt.snapBusy then { f with evt := { f.evt with heldLive := f.evt.heldLive ++ [(off, n)] } } else f.add off n

/-- Add to a firmware counter (R386). -/
def State.fwBump (s : State) (off n : Nat) : State := s.withFw (s.fw.bump off n)

/-- Offset of word `w` of the record of a carrier in the live table (R386). -/
def fwCarrier (carrier w : Nat) : Nat := 64 * carrier + 4 * w

/-- Offset of word `w` of the record of a flow slot (R386). -/
def fwFlow (slot w : Nat) : Nat := 0x8000 + 64 * slot + 4 * w

/-- The flow of an identifier. -/
def State.flow (s : State) (id : Nat) : Option Flow := s.ppt.flows.find? (fun f => f.id == id)

/-- Add to word `w` of a flow's record. -/
def State.flowBump (s : State) (id w n : Nat) : State :=
  s.withFw (match s.flow id with
    | some f => s.fw.bump (fwFlow f.slot w) n
    | none => s.fw)

/-- Discard a write for a stale generation (R44). -/
def State.stale (s : State) : State :=
  let r := s.rep.bump Rg.DRM_STALE_WRITES 1
  let r := { r with regs := putR r.regs Rg.DRM_FAULT Fd.DRM_FAULT_stale_write 1 }
  s.withRep (r.fire 1 1 [])

end Sys2Proof.Machine
end

