-- ==== Sys2Proof/Machine/PowerCtl.lean ====
section
/-! DEFINITION. Requests to the power controller and their races (R354, R363 to R367): what a request starts, how an entry is
refused or aborted, how wakes are latched. -/
namespace Sys2Proof.Machine

/-- The part of the state that a power request touches. -/
structure Px where
  rep : Rep
  pwr : Power
  deriving DecidableEq, Repr

/-- The power part of the state. -/
def State.px (s : State) : Px := ⟨s.rep, s.pwr⟩

/-- A state with its power part replaced. -/
def State.withPx (s : State) (p : Px) : State :=
  { s with regs := p.rep.regs, out := p.rep.out, host := p.rep.host, wtr := p.rep.wtr, pwr := p.pwr }

/-- State codes of a domain (R354). -/
def dOff : Nat := 0
def dKeep : Nat := 1
def dDoze : Nat := 2
def dNap : Nat := 3
def dOn : Nat := 4

/-- No request (PWR_DOM, PWR_DEVICE). -/
def noReq : Nat := 7

/-- Whether a domain is a cluster (R354). -/
def isCluster (d : Nat) : Bool := decide (2 ≤ d) && decide (d < 20)

/-- Whether a domain supports a state code; domains 27 to 31 are reserved, 32 to 41 follow another domain (R354, R355). -/
def supports (d t : Nat) : Bool :=
  if d = 0 then t == 4
  else if isCluster d then t == 0 || t == 2 || t == 3 || t == 4
  else if d = 25 then t == 0 || t == 1 || t == 4
  else if d ≤ 26 then t == 0 || t == 4
  else if 42 ≤ d ∧ d < 96 then t == 0 || t == 1 || t == 4
  else false

/-- A unit that refuses an entry, with its reason (R365). -/
abbrev Refuser := Nat × Nat

/-- Channel states of an engine (DMA_CH_STATUS). -/
def chState (regs : SMap Word) (e ch : Nat) : Nat := getR regs (Rg.DMA_CH_STATUS e ch) Fd.DMA_CH_STATUS_state

/-- Who refuses that cluster `c` enters `t` (R364, R365): a channel at work, a Cupola tag that is not free, a core that runs. -/
def clusterRefuser (regs : SMap Word) (cpl : SMap Cupola) (c t : Nat) (cores : Bool) : Option Refuser :=
  let ch := (List.range 16).find? (fun ch => chState regs c ch == 1 || (chState regs c ch == 2 && decide (t ≤ 2)))
  let tags := ((cpl.find? (fun e => e.1 == c)).map (fun e => e.2.tags.any (fun t => t.2.state != .free))).getD false
  let k := (List.range 8).find? (fun k => getR regs (Rg.ZCR_CTRL (8 * c + k)) Fd.ZCR_CTRL_run == 1)
  match ch with
  | some ch => some (0x5000 + 32 * c + ch, 1)
  | none =>
    if tags then some (0x4000 + c, 2)
    else match k with
      | some k => if cores && decide (t ≤ 2) then some (0x1000 + 8 * c + k, 3) else none
      | none => none

/-- The first enabled port of a SerDes group (R311). -/
def groupPort (regs : SMap Word) (g : Nat) : Option Nat :=
  ((List.range 8).map (fun i => 8 * g + i)).find? (fun p => getR regs (Rg.ETH_PORT_CTRL p) Fd.ETH_PORT_CTRL_enable == 1)

/-- Who refuses that domain `d` enters `t` (R365). -/
def refuserOf (regs : SMap Word) (cpl : SMap Cupola) (d t : Nat) : Option Refuser :=
  if isCluster d then clusterRefuser regs cpl (d - 2) t true
  else if 20 ≤ d ∧ d < 24 ∧ t = 0 then (groupPort regs (d - 20)).map (fun p => (0xA000 + p, 4))
  else if d = 24 ∧ t = 0 then
    ((List.range 4).find? (fun l => getR regs (Rg.SPN_LINK_CTRL l) Fd.SPN_LINK_CTRL_enable == 1)).map (fun l => (0xB007 + 8 * l, 4))
  else none

/-- Target in flight and pending of a domain. -/
def domFlight (regs : SMap Word) (d : Nat) : Nat := getR regs (Rg.PWR_DOM d) Fd.PWR_DOM_in_flight
def domPending (regs : SMap Word) (d : Nat) : Nat := getR regs (Rg.PWR_DOM d) Fd.PWR_DOM_pending

/-- A POWER_STATE_SET that waits for domain `d` to reach `t` (R370). -/
def powerCmd (d t : Nat) (c : Cmd) : Bool :=
  isCmd 0x0801 c && le c.payload 0 1 == 1 && le c.payload 2 2 == d && le c.payload 1 1 == t

/-- A POWER_STATE_SET that waits for the device to reach `t`. -/
def deviceCmd (t : Nat) (c : Cmd) : Bool := isCmd 0x0801 c && le c.payload 0 1 == 0 && le c.payload 1 1 == t

/-- Set a field of a domain's register. -/
def Px.setDom (p : Px) (d : Nat) (f : Fld) (n : Nat) : Px :=
  { p with rep := { p.rep with regs := putR p.rep.regs (Rg.PWR_DOM d) f n } }

/-- The books of a refused or aborted entry (R364). -/
def Rep.refused (r : Rep) (dom : Nat) (u : Refuser) : Rep :=
  let r := r.bump Rg.PWR_REFUSALS 1
  let r := { r with regs := wrR r.regs Rg.PWR_LAST_REFUSER (BitVec.ofNat 32 (u.1 % 65536 * 65536 + dom % 256 * 256 + u.2 % 256)) }
  r.fire 353 0 []

/-- Start a request of domain `d` for `t`, none being in flight (R359, R364, R366): satisfied at once where the state is reached; an
exit runs; an entry quiesces unless a unit refuses. A cluster goes from one low state to another through Run. -/
def Px.start (ref : Nat → Nat → Option Refuser) (p : Px) (d t : Nat) : Px :=
  let st := domState p.rep.regs d
  if st = t then { p with rep := p.rep.completeNow (powerCmd d t) stOk 0 }
  else
    let q := p.setDom d Fd.PWR_DOM_in_flight t
    if t = dOn ∨ (isCluster d ∧ st ≠ dOn) then { q with pwr := { q.pwr with exiting := d :: q.pwr.exiting } }
    else match ref d t with
      | none => { q with pwr := { q.pwr with quiesce := d :: q.pwr.quiesce } }
      | some u => { p with rep := (p.rep.refused d u).completeNow (powerCmd d t) stWrongState u.1 }

/-- Start the pending request of a domain (R366). -/
def Px.next (ref : Nat → Nat → Option Refuser) (p : Px) (d : Nat) : Px :=
  let t := domPending p.rep.regs d
  if t = noReq then p else Px.start ref (p.setDom d Fd.PWR_DOM_pending noReq) d t

/-- A request for domain `d` (R366): started, absorbed, or made pending in place of another, which is superseded; `mine` is the command
that asks. -/
def Px.request (ref : Nat → Nat → Option Refuser) (p : Px) (d t : Nat) (mine : Cmd → Bool) : Px :=
  if !supports d t then p
  else
    let f := domFlight p.rep.regs d
    let w := domPending p.rep.regs d
    if f = t then p
    else if f = noReq ∧ !p.pwr.exiting.contains d then Px.start ref p d t
    else
      let rep := if w = noReq then p.rep
        else (p.rep.bump Rg.PWR_SUPERSEDED 1).completeNow (fun c => powerCmd d w c && !mine c) stWrongState 0
      ({ p with rep := rep }).setDom d Fd.PWR_DOM_pending t

/-- End the entry of a domain that is in quiesce by a refuser (R364, R367): the latch is cleared, the pending request follows. -/
def Px.abort (ref : Nat → Nat → Option Refuser) (p : Px) (d : Nat) (u : Refuser) : Px :=
  if p.pwr.quiesce.contains d then
    let t := domFlight p.rep.regs d
    let rep := (p.rep.refused d u).completeNow (powerCmd d t) stWrongState u.1
    let p : Px := { rep := rep, pwr := { p.pwr with quiesce := p.pwr.quiesce.filter (· != d) } }
    let p := (p.setDom d Fd.PWR_DOM_in_flight noReq).setDom d Fd.PWR_DOM_latched 0
    Px.next ref p d
  else p

/-- Units of the state that refuse entries now. -/
def State.refuser (s : State) : Nat → Nat → Option Refuser := refuserOf s.regs s.cpl

/-- A request to the power controller for a domain by a command (R363, R366). -/
def State.powerRequestBy (s : State) (d t : Nat) (mine : Cmd → Bool) : State := s.withPx (s.px.request s.refuser d t mine)

/-- A request to the power controller for a domain (R363, R366) that no command makes. -/
def State.powerRequest (s : State) (d t : Nat) : State := s.powerRequestBy d t (fun _ => false)

/-- A unit of cluster `c` that has agreed starts activity of its own: an entry in quiesce aborts with reason 6 (R364, R365). -/
def State.newActivity (s : State) (c unit : Nat) : State := s.withPx (s.px.abort s.refuser (2 + c) (unit, 6))

/-- A wake event for a domain (R360, R367): latched while an entry is under way; from Nap an ordinary exit starts. -/
def Px.wake (p : Px) (d : Nat) : Px :=
  if p.pwr.quiesce.contains d then p.setDom d Fd.PWR_DOM_latched 1
  else if domState p.rep.regs d = dNap ∧ !p.pwr.exiting.contains d then
    { p with pwr := { p.pwr with exiting := d :: p.pwr.exiting } }
  else p

/-- A wake event of a cluster (R360). -/
def State.wakeCluster (s : State) (c : Nat) : State := s.withPx (s.px.wake (2 + c))

/-- Target of the device in flight, pending and reached (PWR_DEVICE). -/
def devState (regs : SMap Word) : Nat := getR regs Rg.PWR_DEVICE Fd.PWR_DEVICE_state
def devFlight (regs : SMap Word) : Nat := getR regs Rg.PWR_DEVICE Fd.PWR_DEVICE_in_flight
def devPending (regs : SMap Word) : Nat := getR regs Rg.PWR_DEVICE Fd.PWR_DEVICE_pending

/-- Device states (R361). -/
def vActive : Nat := 0
def vStandby : Nat := 1
def vDeep : Nat := 2

/-- Whether a device transition may start (R361): to Standby with Drum stopped, to Deep from Standby. -/
def deviceAllowed (regs : SMap Word) (t : Nat) : Bool :=
  let st := devState regs
  let drum := getR regs Rg.DRM_STATUS Fd.DRM_STATUS_running == 1
  (t == vActive && st == vStandby) || (t == vStandby && st == vActive && !drum) || (t == vDeep && st == vStandby)

/-- A mailbox that refuses Deep: POSTED or BUSY (R365). -/
def busyMailbox (regs : SMap Word) : Option Nat :=
  (List.range 64).find? (fun n =>
    let st := getR regs (Rg.PCE_MBX_STATE n) Fd.PCE_MBX_STATE_state
    st == 1 || st == 2)

/-- A channel of a system engine, in the control domain, that is at work (R354, R365). -/
def systemChannel (regs : SMap Word) : Option Refuser :=
  ((List.range 128).find? (fun i => [1, 2].contains (chState regs (18 + i / 32) (i % 32)))).map (fun i => (0x5000 + 32 * 18 + i, 1))

/-- Who refuses a device entry (R365). Psiwyn has stopped the cores before it asks for Standby (log entry 14). -/
def deviceRefuser (regs : SMap Word) (cpl : SMap Cupola) (t : Nat) : Option Refuser :=
  if t = vStandby then
    match (List.range 18).findSome? (fun c => if domState regs (2 + c) = dOn then clusterRefuser regs cpl c dDoze false else none) with
    | some u => some u
    | none => ((List.range 4).findSome? (groupPort regs)).map (fun p => (0xA000 + p, 4))
  else if t = vDeep then
    match busyMailbox regs with
    | some n => some (0xC001 + n, 7)
    | none =>
      match (List.range 18).findSome? (fun c => if domState regs (2 + c) ≤ dDoze then none else clusterRefuser regs cpl c dOff true) with
      | some u => some u
      | none => match systemChannel regs with
        | some u => some u
        | none => ((List.range 4).find? (fun l => getR regs (Rg.SPN_LINK_CTRL l) Fd.SPN_LINK_CTRL_enable == 1)).map
            (fun l => (0xB007 + 8 * l, 4))
  else none

/-- Set a field of PWR_DEVICE. -/
def Px.setDev (p : Px) (f : Fld) (n : Nat) : Px :=
  { p with rep := { p.rep with regs := putR p.rep.regs Rg.PWR_DEVICE f n } }

/-- Start a device transition, none being in flight (R361, R364). -/
def Px.startDev (ref : Nat → Option Refuser) (p : Px) (t : Nat) : Px :=
  if devState p.rep.regs = t then { p with rep := p.rep.completeNow (deviceCmd t) stOk 0 }
  else if !deviceAllowed p.rep.regs t then { p with rep := p.rep.completeNow (deviceCmd t) stWrongState 0 }
  else
    let q := p.setDev Fd.PWR_DEVICE_in_flight t
    if t = vActive then { q with pwr := { q.pwr with deviceExiting := true } }
    else match ref t with
      | none => { q with pwr := { q.pwr with deviceQuiesce := true, latched := false } }
      | some u => { p with rep := (p.rep.refused 0 u).completeNow (deviceCmd t) stWrongState u.1 }

/-- Start the pending device transition (R366). -/
def Px.nextDev (ref : Nat → Option Refuser) (p : Px) : Px :=
  let t := devPending p.rep.regs
  if t = noReq then p else Px.startDev ref (p.setDev Fd.PWR_DEVICE_pending noReq) t

/-- A request for a device state (R366); `mine` is the command that asks. -/
def Px.requestDev (ref : Nat → Option Refuser) (p : Px) (t : Nat) (mine : Cmd → Bool) : Px :=
  if 2 < t then p
  else
    let f := devFlight p.rep.regs
    let w := devPending p.rep.regs
    if f = t then p
    else if f = noReq then Px.startDev ref p t
    else
      let rep := if w = noReq then p.rep
        else (p.rep.bump Rg.PWR_SUPERSEDED 1).completeNow (fun c => deviceCmd w c && !mine c) stWrongState 0
      ({ p with rep := rep }).setDev Fd.PWR_DEVICE_pending t

/-- A request to the power controller for a device state by a command. -/
def State.deviceRequestBy (s : State) (t : Nat) (mine : Cmd → Bool) : State :=
  s.withPx (s.px.requestDev (deviceRefuser s.regs s.cpl) t mine)

/-- A request to the power controller for a device state that no command makes. -/
def State.deviceRequest (s : State) (t : Nat) : State := s.deviceRequestBy t (fun _ => false)

/-- Psiwyn keeps a domain On where something in it is enabled (R361, R363): SerDes groups in Active, span outside Deep. -/
def State.domFollow (s : State) (d : Nat) (on : Bool) : State :=
  let may := devState s.regs == vActive || (d == 24 && devState s.regs == vStandby)
  s.when may (s.powerRequest d (if on then dOn else dOff))

/-- The domain that a function reset of a unit strikes (R354, R407); none for a unit of the control domain. -/
def domOfUnit (u : Nat) : Option Nat :=
  if u / 4096 = 2 then some (2 + u % 4096) else if u / 4096 = 10 ∧ u % 4096 < 32 then some (20 + u % 4096 / 8)
  else if u / 4096 = 11 then some 24 else none

/-- A function reset ends the request in flight on its domain and the pending one, both with WRONG_STATE (R407). -/
def Px.ended (p : Px) (d : Nat) : Px :=
  let f := domFlight p.rep.regs d
  let w := domPending p.rep.regs d
  if f = noReq then p
  else
    let rep := p.rep.completeNow (fun c => powerCmd d f c || powerCmd d w c) stWrongState 0
    let p : Px := { rep := rep, pwr := { p.pwr with
      quiesce := p.pwr.quiesce.filter (· != d), exiting := p.pwr.exiting.filter (· != d) } }
    ((p.setDom d Fd.PWR_DOM_in_flight noReq).setDom d Fd.PWR_DOM_pending noReq).setDom d Fd.PWR_DOM_latched 0

end Sys2Proof.Machine
end

