-- ==== Sys2Proof/Machine/DmaCtl.lean ====
section
/-! DEFINITION. DMA channels seen from their registers: start, abort, halt, strict mode, pacing marks (R261 to R272); the queue
commands of agents (R276) and the inspection of a queue. -/
namespace Sys2Proof.Machine

/-- Channel states (DMA_CH_STATUS). -/
def chIdle : Nat := 0
def chRunning : Nat := 1
def chPaused : Nat := 2
def chDone : Nat := 3
def chAborted : Nat := 4
def chHalted : Nat := 5

/-- A channel at rest. -/
abbrev Chan.reset : Chan :=
  { desc := [], addr := 0, ran := false, result := 0, bytes := 0, offset := 0, interrupt := false, aborting := false, flushing := false }

/-- Key of a channel: 32 × engine + channel, the instance of its unit identifier (R368). -/
def chKey (e ch : Nat) : Nat := 32 * e + ch

/-- A channel. -/
def State.chan (s : State) (e ch : Nat) : Chan := Map.get Chan.reset s.dma (chKey e ch)

/-- The DMA table with one channel replaced. -/
def setChan (m : SMap Chan) (e ch : Nat) (c : Chan) : SMap Chan := Map.set Chan.reset m (chKey e ch) c

/-- Unit identifier of a channel (R368). -/
def chUnit (e ch : Nat) : Nat := 0x5000 + chKey e ch

/-- Whether engine `e` has channel `ch` (R261). -/
def hasChan (e ch : Nat) : Bool := decide (ch < 16) || decide (18 ≤ e)

/-- Set the state of a channel. -/
def putCh (regs : SMap Word) (e ch st : Nat) : SMap Word := putR regs (Rg.DMA_CH_STATUS e ch) Fd.DMA_CH_STATUS_state st

/-- The status word of a descriptor (R264). -/
def statusWord (state result error bytes offset : Nat) : List Byte :=
  leBytes 1 state ++ leBytes 1 result ++ leBytes 2 error ++ leBytes 4 bytes ++ leBytes 8 offset

/-- Halt a channel (R268, R269): state, error registers, count, event; the status word of a flagged descriptor, in `m`. -/
def Qx.halt (x : Qx) (e ch code addr : Nat) (desc : List Byte) : Qx :=
  let regs := putCh x.mm.rep.regs e ch chHalted
  let idx := getR regs (Rg.DMA_CH_STATUS e ch) Fd.DMA_CH_STATUS_desc_index
  let regs := wrR regs (Rg.DMA_CH_ERR e ch) (BitVec.ofNat 32 (idx * 65536 + code))
  let regs := wr64R regs (Rg.DMA_CH_ERR_ADDR_LO e ch) (addr % 2 ^ 48)
  let rep := { x.mm.rep with regs := regs }.bump (Rg.DMA_ENG_HALTS e) 1
  let rep := rep.fire (196 + e) (chUnit e ch) []
  let mm := { x.mm with rep := rep }
  { x with mm := if bit (le desc 1 1) 0 then
      mm.write (chUnit e ch) (le desc 24 8) (clean (statusWord 3 0 code 0 addr)) else mm }

/-- Pacing of a channel: 0 none, 1 consumer, 2 producer (DMA_CH_CTRL). -/
def chPace (regs : SMap Word) (e ch : Nat) : Nat := getR regs (Rg.DMA_CH_CTRL e ch) Fd.DMA_CH_CTRL_pace
def chQueue (regs : SMap Word) (e ch : Nat) : Nat := getR regs (Rg.DMA_CH_PACE e ch) Fd.DMA_CH_PACE_queue
def chHigh (regs : SMap Word) (e ch : Nat) : Nat := getR regs (Rg.DMA_CH_HIGH e ch) Fd.DMA_CH_HIGH_mark
def chLow (regs : SMap Word) (e ch : Nat) : Nat := getR regs (Rg.DMA_CH_LOW e ch) Fd.DMA_CH_LOW_mark

/-- Whether a channel is paced. -/
def isPaced (regs : SMap Word) (e ch : Nat) : Bool := chPace regs e ch == 1 || chPace regs e ch == 2

/-- A start with start = 1 on a channel that is neither running nor paused (R270, R271). A consumer waits paused until the fill
reaches its high mark; a producer at or above it pauses. -/
def Qx.startCh (x : Qx) (e ch : Nat) : Qx :=
  let regs := wrR (putR x.mm.rep.regs (Rg.DMA_CH_STATUS e ch) Fd.DMA_CH_STATUS_desc_index 0) (Rg.DMA_CH_BYTES e ch) 0
  let x := { x with mm := { x.mm with rep := { x.mm.rep with regs := regs } } }
  let run := fun (x : Qx) (st : Nat) => { x with mm := { x.mm with rep := { x.mm.rep with regs := putCh x.mm.rep.regs e ch st } } }
  if isPaced regs e ch then
    let r := x.load (chQueue regs e ch)
    let t := r.2
    let x := r.1
    if !t.valid ∨ t.broken then x.halt e ch 0x06 0 []
    else if chHigh regs e ch ≤ chLow regs e ch ∨ t.size < chHigh regs e ch then x.halt e ch 0x07 0 []
    else if chPace regs e ch = 1 ∧ t.esz ≠ 64 then x.halt e ch 0x04 0 []
    else if chPace regs e ch = 1 then run x (if chHigh regs e ch ≤ t.fill then chRunning else chPaused)
    else run x (if chHigh regs e ch ≤ t.fill then chPaused else chRunning)
  else run x chRunning

/-- An engine is powered and clocked: a cluster engine with its cluster (R261, R359). -/
def engPowered (regs : SMap Word) (e : Nat) : Bool := decide (18 ≤ e) || clusterState regs e == 4

/-- A write of DMA_CH_CTRL: core and pace take their values; start is ignored while the channel runs or is paused, and where its engine is
not powered (R261). -/
def State.chCtrl (s : State) (e ch : Nat) (v : Word) : State :=
  let a := Rg.DMA_CH_CTRL e ch
  let regs := putR (putR s.regs a Fd.DMA_CH_CTRL_core (Fd.DMA_CH_CTRL_core.get v)) a Fd.DMA_CH_CTRL_pace
    (Fd.DMA_CH_CTRL_pace.get v)
  let s := { s with regs := regs }
  let st := chState regs e ch
  if Fd.DMA_CH_CTRL_start.get v = 1 ∧ st ≠ chRunning ∧ st ≠ chPaused ∧ engPowered regs e then
    let s := if e < 18 then s.newActivity e (chUnit e ch) else s
    let s := s.withQx (s.qx.startCh e ch)
    { s with
      dma := setChan s.dma e ch { Chan.reset with addr := s.rd64 (Rg.DMA_CH_DESC_LO e ch) % 2 ^ 48 }
      span := s.span.forget (chUnit e ch) }
  else s

/-- DMA_CHANNEL_START (R270, R271). -/
def execDmaChannelStart (e : Fin 22) (ch : Fin 32) (v : Word) (s : State) : Res :=
  .next (s.when (hasChan e ch ∧ Fd.DMA_CH_CTRL_start.get v = 1) (s.chCtrl e ch v))

/-- A write of DMA_ENG_CTRL (R267): strict mode ends while the boot state reports Psiwyn ready, from the SERVICES stage on, and no
built-in test runs, and the write is ignored otherwise; an engine that is not powered keeps the mode of its power-up. -/
def engCtrlRegs (regs : SMap Word) (e : Nat) (v : Word) : SMap Word :=
  let stage := getR regs Rg.BOOT_STATE Fd.BOOT_STATE_stage
  let testing := (List.range 18).any (fun c => getR regs (Rg.PPT_CLUSTER c) Fd.PPT_CLUSTER_role == 4)
  if Fd.DMA_ENG_CTRL_leave_strict.get v = 1 ∧ (stage = 7 ∨ stage = 8) ∧ !testing ∧ engPowered regs e then
    putR regs (Rg.DMA_ENG_STATUS e) Fd.DMA_ENG_STATUS_strict 0
  else regs

/-- DMA_LEAVE_STRICT (R267). -/
def execDmaLeaveStrict (e : Fin 22) (v : Word) (s : State) : Res := .next { s with regs := engCtrlRegs s.regs e v }

/-- A write of DMA_CH_ABORT (R272): the outcome by the state of the channel; a running or paused one waits for its responses. -/
def State.chAbort (s : State) (e ch : Nat) (v : Word) : State :=
  let st := chState s.regs e ch
  let a := Rg.DMA_CH_ABORT_RESULT e ch
  let live := st == chRunning || st == chPaused
  let code := if live then 1 else if st = chDone then 2 else if st = chAborted then 3 else 0
  let go := Fd.DMA_CH_ABORT_abort.get v == 1
  { s with
    regs := if go then putR s.regs a Fd.DMA_CH_ABORT_RESULT_result code else s.regs
    dma := if go && live then setChan s.dma e ch { s.chan e ch with aborting := true } else s.dma }

/-- DMA_ABORT (R272). -/
def execDmaAbort (e : Fin 22) (ch : Fin 32) (v : Word) (s : State) : Res :=
  .next (s.when (hasChan e ch = true) (s.chAbort e ch v))

/-- PACING_MARK_CROSS (R270): the queue manager has told a paused or running channel that its queue crossed a mark. One that is being
aborted takes no further step (R272). -/
def execPacingMarkCross (e : Fin 22) (ch : Fin 32) (s : State) : Res :=
  let t := s.queue (chQueue s.regs e ch)
  let st := chState s.regs e ch
  let hi := decide (chHigh s.regs e ch ≤ t.fill)
  let lo := decide (t.fill ≤ chLow s.regs e ch)
  let between := !(s.chan e ch).ran && (s.chan e ch).desc == []
  let new :=
    if (s.chan e ch).aborting || !engPowered s.regs e then st
    else if chPace s.regs e ch = 1 then if st = chPaused ∧ hi then chRunning else st
    else if chPace s.regs e ch = 2 then
      if st = chPaused ∧ lo then chRunning else if st = chRunning ∧ hi ∧ between then chPaused else st
    else st
  .next { s with regs := putCh s.regs e ch new }

/-- A paused consumer channel with flush set and a queue that is not empty starts at a slot tick (R270). -/
def flushOne (s : State) (e ch : Nat) : State :=
  let go := !(s.chan e ch).aborting && engPowered s.regs e && chState s.regs e ch == chPaused && chPace s.regs e ch == 1 &&
    s.flag (Rg.DMA_CH_PACE e ch) Fd.DMA_CH_PACE_flush && (s.queue (chQueue s.regs e ch)).fill != 0
  { s with
    regs := if go then putCh s.regs e ch chRunning else s.regs
    dma := if go then setChan s.dma e ch { s.chan e ch with flushing := true } else s.dma }

/-- The slot-tick flush of every channel (R270). -/
def State.pacingFlush (s : State) : State :=
  (List.range 22).foldl (fun s e => (List.range 32).foldl (fun s ch => if hasChan e ch then flushOne s e ch else s) s) s

/-- QUEUE_ENQUEUE (R276): an agent's enqueue arrives. -/
def execQueueEnqueue (agent q : Nat) (entry : List PByte) (s : State) : Res :=
  .next (s.withQx (s.qx.arrive ⟨agent, q % 1048576, true, false, entry, s.now⟩))

/-- ENQUEUE_WRITE_RESPONSE (R276): the tail advances, or the enqueue is answered FAULT. -/
def execEnqueueWriteResponse (q : Nat) (s : State) : Res := .next (s.withQx (s.qx.finish true (q % 1048576)))

/-- QUEUE_DEQUEUE (R276): an agent's dequeue arrives. -/
def execQueueDequeue (agent q : Nat) (s : State) : Res :=
  .next (s.withQx (s.qx.arrive ⟨agent, q % 1048576, false, false, [], s.now⟩))

/-- DEQUEUE_READ_RETURN (R276): the head advances and the entry is delivered, or the dequeue is answered FAULT. -/
def execDequeueReadReturn (q : Nat) (s : State) : Res := .next (s.withQx (s.qx.finish false (q % 1048576)))

/-- A write of QMG_INSPECT_ID: the state of the queue is latched (R274). -/
def State.inspect (s : State) (v : Word) : State :=
  let q := Fd.QMG_INSPECT_ID_queue.get v
  let r := s.qx.load q
  let bs := r.2.bytes
  let s := s.withQx r.1
  { s with
    regs := (List.range 8).foldl (fun m i => wrR m (Rg.QMG_INSPECT_DATA i) (BitVec.ofNat 32 (le bs (4 * i) 4)))
      (wrR s.regs Rg.QMG_INSPECT_ID (BitVec.ofNat 32 q)) }

/-- QUEUE_INSPECT (QMG_INSPECT_ID). -/
def execQueueInspect (v : Word) (s : State) : Res := .next (s.inspect v)

end Sys2Proof.Machine
end

