-- ==== Sys2Proof/Machine/ClusterCtl.lean ====
section
/-! DEFINITION. Clusters as a whole: interrupts of their cores (R205), Cupola tags and kills (R231 to R241), what a cluster loses
and how it starts again (R356 to R359, R408), how it fails (R180). -/
namespace Sys2Proof.Machine

/-- Set an interrupt input of core `k` pending (R205). -/
def intrR (regs : SMap Word) (k input : Nat) : SMap Word :=
  wrR regs (Rg.ZCR_INT_PENDING k) (rdR regs (Rg.ZCR_INT_PENDING k) ||| bitW input)

/-- Set an interrupt input of core `k` pending. -/
def State.intr (s : State) (k input : Nat) : State := { s with regs := intrR s.regs k input }

/-- A core. -/
def State.core (s : State) (k : Nat) : Core := Map.get Core.reset s.cores k

/-- Replace a core. -/
def State.setCore (s : State) (k : Nat) (c : Core) : State := { s with cores := Map.set Core.reset s.cores k c }

/-- Cupola of a cluster. -/
def State.cup (s : State) (c : Nat) : Cupola := Map.get Cupola.reset s.cpl c

/-- A tag of a Cupola. -/
def Cupola.tag (p : Cupola) (t : Nat) : Tag := Map.get Tag.reset p.tags t

/-- Replace a tag. -/
def Cupola.setTag (p : Cupola) (t : Nat) (v : Tag) : Cupola := { p with tags := Map.set Tag.reset p.tags t v }

/-- Queued tags of an engine (R129): 0 matrix, 1 decoder, 2 encoder. -/
def Cupola.queue (p : Cupola) (e : Nat) : List Nat := match e with | 0 => p.q0 | 1 => p.q1 | _ => p.q2

/-- Replace the queue of an engine. -/
def Cupola.setQueue (p : Cupola) (e : Nat) (q : List Nat) : Cupola :=
  match e with | 0 => { p with q0 := q } | 1 => { p with q1 := q } | _ => { p with q2 := q }

/-- Free a tag: it is allocated again after those freed before it (R231, R232); its sequence stays. -/
def Cupola.free (p : Cupola) (t : Nat) : Cupola :=
  let p := p.setTag t { Tag.reset with seq := (p.tag t).seq }
  { p with
    freeTags := p.freeTags.filter (· != t) ++ [t]
    q0 := p.q0.filter (· != t), q1 := p.q1.filter (· != t), q2 := p.q2.filter (· != t), overlap := p.overlap.filter (· != t) }

/-- Tags ISSUED (CPL_TAGS). -/
def Cupola.issued (p : Cupola) : Nat := (p.tags.filter (fun e => e.2.state == .issued)).length

/-- CPL_TAGS of a Cupola. -/
def tagRegs (regs : SMap Word) (c : Nat) (p : Cupola) : SMap Word :=
  wrR regs (Rg.CPL_TAGS c) (BitVec.ofNat 32 (p.issued * 65536 + p.freeTags.length))

/-- The part of the state that Cupola touches. -/
structure Cx where
  rep : Rep
  cpl : SMap Cupola
  deriving DecidableEq, Repr

/-- The Cupola part of the state. -/
def State.cx (s : State) : Cx := ⟨s.rep, s.cpl⟩

/-- A state with its Cupola part replaced. -/
def State.withCx (s : State) (x : Cx) : State :=
  { s with regs := x.rep.regs, out := x.rep.out, host := x.rep.host, wtr := x.rep.wtr, cpl := x.cpl }

/-- Cupola of a cluster. -/
def Cx.cup (x : Cx) (c : Nat) : Cupola := Map.get Cupola.reset x.cpl c

/-- Replace a Cupola, with its tag counts. -/
def Cx.setCup (x : Cx) (c : Nat) (p : Cupola) : Cx :=
  { rep := { x.rep with regs := tagRegs x.rep.regs c p }, cpl := Map.set Cupola.reset x.cpl c p }

/-- Add to a counter. -/
def Cx.bump (x : Cx) (a n : Nat) : Cx := { x with rep := x.rep.bump a n }

/-- Whether a descriptor is that of a paired decode: LDPC_DECODE or TURBO_DECODE with ctl bit 3 (R147). -/
def pairedDesc (eng : Nat) (desc : List Byte) : Bool := eng == 1 && bit (le desc 56 1) 3

/-- A kill reaches a tag (R237). -/
def Cx.kill (x : Cx) (c t : Nat) : Cx :=
  let p := x.cup c
  let g := p.tag t
  let acts := g.state == .issued || (g.state == .committed && pairedDesc g.eng g.desc)
  if acts then (x.setCup c (p.free t)).bump (Rg.CPL_KILLS c) 1 else x.bump (Rg.CPL_KILLS_IGNORED c) 1

/-- Kill the tags that a test picks, in ascending order (R237). -/
def Cx.killAll (x : Cx) (c : Nat) (p : Tag → Bool) : Cx :=
  ((List.range 256).filter (fun t => p ((x.cup c).tag t))).foldl (fun x t => x.kill c t) x

/-- Kill every ISSUED tag that a core of a cluster owns (R238). -/
def Cx.killOwned (x : Cx) (c owner : Nat) : Cx := x.killAll c (fun g => g.state == .issued && g.owner == owner)

/-- Registers of the late-error queue of core `k` (CPL_LATE_INFO and its fellows) and its interrupt input 1 (R239). -/
def lateRegs (regs : SMap Word) (c k : Nat) (q : List Late) : SMap Word :=
  let info := match q with
    | [] => 0
    | e :: _ => 2 ^ 31 + min 15 q.length * 2 ^ 24 + e.eng * 2 ^ 20 + e.code * 256 + e.tag
  let regs := wrR regs (Rg.CPL_LATE_INFO c k) (BitVec.ofNat 32 info)
  let regs := wrR regs (Rg.CPL_LATE_ITEM c k) (BitVec.ofNat 32 (match q with | [] => 0 | e :: _ => e.item))
  let regs := wr64R regs (Rg.CPL_LATE_PARAM_LO c k) (match q with | [] => 0 | e :: _ => e.param)
  if q = [] then wrR regs (Rg.ZCR_INT_PENDING (8 * c + k)) (rdR regs (Rg.ZCR_INT_PENDING (8 * c + k)) &&& ~~~ bitW 1)
  else intrR regs (8 * c + k) 1

/-- Late-error queue of core `k` (R239). -/
def Cupola.late (p : Cupola) (k : Nat) : List Late := Map.get [] p.lates k

/-- Replace the late-error queue of core `k`. -/
def Cx.setLate (x : Cx) (c k : Nat) (q : List Late) : Cx :=
  let p := x.cup c
  let x := x.setCup c { p with lates := Map.set [] p.lates k q }
  { x with rep := { x.rep with regs := lateRegs x.rep.regs c k q } }

/-- Deliver a late error to the queue of 16 of its owner; a full queue loses it, counted and raised (R239). -/
def Cx.lateIn (x : Cx) (c k : Nat) (e : Late) : Cx :=
  let x := x.bump (Rg.ZCL_ENG_LATE_ERRORS c) 1
  let q := (x.cup c).late k
  if q.length < 16 then x.setLate c k (q ++ [e])
  else
    let x := x.bump (Rg.CPL_LATE_LOST c k) 1
    { x with rep := x.rep.fire (32 * (13 + c) + 8 + k) (0x4000 + c) [] }

/-- A write of CPL_LATE_POP_k: 1 removes the oldest entry (R239). -/
def State.latePop (s : State) (c k : Nat) (v : Word) : State :=
  s.withCx (if Fd.CPL_LATE_POP_pop.get v = 1 then s.cx.setLate c k ((s.cup c).late k).tail else s.cx)

/-- LATE_ERROR_POP (R239). -/
def execLateErrorPop (c : Fin 18) (k : Fin 8) (v : Word) (s : State) : Res := .next (s.latePop c k v)

/-- Registers of the ZCR frames, the ZCL frame, the CPL frame and the DMA frame of a cluster at their resets. -/
def clusterRegsLost (regs : SMap Word) (c : Nat) : SMap Word :=
  let regs := Map.clear (Rg.ZCR_CTRL (8 * c)) (Rg.ZCR_CTRL (8 * c + 8)) regs
  let regs := Map.clear (winBase 3 + 0x8000 * c) (winBase 3 + 0x8000 * (c + 1)) regs
  let regs := Map.clear (Rg.CPL_CTRL c) (Rg.CPL_CTRL (c + 1)) regs
  Map.clear (Rg.DMA_ENG_CTRL c) (Rg.DMA_ENG_CTRL (c + 1)) regs

/-- The cores, engines and DMA channels of a cluster wait for no other device any more. -/
def Span.forgetCluster (p : Span) (c : Nat) : Span :=
  ((List.range 8).map (fun k => 0x1000 + 8 * c + k) ++ (List.range 3).map (fun e => 0x3000 + 3 * c + e) ++
    (List.range 32).map (fun h => 0x5000 + 32 * c + h)).foldl Span.forget p

/-- The logic state of a cluster is lost (R359): cores, engines, Cupola, cluster DMA. -/
def State.clusterLogicLost (s : State) (c : Nat) : State :=
  { s with
    span := s.span.forgetCluster c
    regs := clusterRegsLost s.regs c
    cores := Map.clear (8 * c) (8 * c + 8) s.cores
    cpl := Map.erase c s.cpl
    dma := Map.clear (32 * c) (32 * c + 32) s.dma }

/-- First device address of the tile memories of a cluster, and of its shared memory (R242). -/
def tileBase (c : Nat) : Nat := sramBase + c * 0x400000
def sharedBase (c : Nat) : Nat := sramBase + 0x5000000 + c * 0x800000

/-- Bank of a tile-memory address: its bits 9:6 (R189, R357). -/
def bankOf (a : Nat) : Nat := a / 64 % 16

/-- Tile memory of a cluster after Doze or Off: the banks of the mask stay (R357). -/
def State.tileLost (s : State) (c mask : Nat) : State :=
  let gone := fun a => decide (tileBase c ≤ a) && decide (a < tileBase (c + 1)) && !mask.testBit (bankOf a)
  { s with
    mem := s.mem.filter (fun e => !gone e.1)
    mec := { s.mec with
      poison := s.mec.poison.filter (fun w => !gone w)
      upset := s.mec.upset.filter (fun e => !gone e.1)
      merges := s.mec.merges.filter (fun b => !gone b.line) } }

/-- Keep bit of an SRAM segment (R356). -/
def keepBit (regs : SMap Word) (sg : Nat) : Bool := (rd64R regs Rg.PWR_KEEP_LO).testBit sg

/-- Set the state of a domain. -/
def putDom (regs : SMap Word) (d st : Nat) : SMap Word := putR regs (Rg.PWR_DOM d) Fd.PWR_DOM_state st

/-- A segment powers down: to Keep with its contents, or to Off without (R356). -/
def State.segDown (s : State) (sg : Nat) : State :=
  let keep := keepBit s.regs sg
  let c := s.memClear (sramBase + sg * 0x800000) (sramBase + (sg + 1) * 0x800000)
  { s with
    regs := putDom s.regs (segDomain sg) (if keep then dKeep else dOff)
    mem := if keep then s.mem else c.mem
    mec := if keep then s.mec else c.mec }

/-- A segment powers up; what it lost reads as zeros since (R356). -/
def State.segUp (s : State) (sg : Nat) : State := { s with regs := putDom s.regs (segDomain sg) dOn }

/-- The DMA of a cluster as an agent (R368). -/
def clusterDma (c : Nat) : Nat := 0x5000 + 32 * c

/-- An agent reads a line of 64 bytes and writes it elsewhere, as any agent does (R249 to R254). -/
def Mm.copyLine (agent src dst : Nat) (m : Mm) : Mm :=
  let r := m.read agent src 64 .none
  r.1.write agent dst r.2

/-- An agent copies `n` lines of 64 bytes. -/
def State.copyLines (s : State) (agent src dst n : Nat) : State :=
  s.withMm ((List.range n).foldl (fun m i => m.copyLine agent (src + 64 * i) (dst + 64 * i)) s.mm)

/-- The cluster DMA copies the tile image of each core, 128 KiB, from the shared segment (R358). -/
def State.imageCopy (s : State) (c : Nat) : State :=
  (List.range 8).foldl (fun s k => s.copyLines (clusterDma c) (sharedBase c + k * 0x20000) (tileBase c + k * 0x80000) 2048) s

/-- Run bits of the eight cores of a cluster set: each starts at ZCR_ENTRY, which a lost frame holds at 0 (R211, log
entry 15). -/
def State.coresRun (s : State) (c : Nat) : State :=
  { s with
    regs := (List.range 8).foldl (fun m k => putR m (Rg.ZCR_CTRL (8 * c + k)) Fd.ZCR_CTRL_run 1) s.regs
    cores := Map.clear (8 * c) (8 * c + 8) s.cores }

/-- A cluster enters a low state (R356, R359): Nap keeps all; Doze and Off lose the logic and tile banks. -/
def State.clusterDown (s : State) (c t : Nat) : State :=
  if t = dNap then { s with regs := putDom s.regs (2 + c) dNap }
  else
    let mask := if t = dDoze then s.getF (Rg.PWR_TILE_KEEP c) Fd.PWR_TILE_KEEP_banks else 0
    let s := (s.clusterLogicLost c).tileLost c mask
    let s := s.segDown (10 + c)
    { s with regs := putDom s.regs (2 + c) t }

/-- A cluster returns to Run (R358, R359): from Doze or Off its shared segment is on again, images are copied where a bank was
lost, and the cores start. -/
def State.clusterUp (s : State) (c : Nat) : State :=
  let st := clusterState s.regs c
  let all := s.getF (Rg.PWR_TILE_KEEP c) Fd.PWR_TILE_KEEP_banks == 0xFFFF
  let low := decide (st ≤ dDoze)
  let s := { s with regs := putDom s.regs (2 + c) dOn }
  if low then
    let s := s.segUp (10 + c)
    let s := if st = dOff || !all then s.imageCopy c else s
    s.coresRun c
  else s

/-- The part of the state that a cluster failure touches. -/
structure Fx where
  rep : Rep
  ppt : Parapet
  deriving DecidableEq, Repr

/-- The failure part of the state. -/
def State.fx (s : State) : Fx := ⟨s.rep, s.ppt⟩

/-- A state with its failure part replaced. -/
def State.withFx (s : State) (x : Fx) : State :=
  { s with regs := x.rep.regs, out := x.rep.out, host := x.rep.host, wtr := x.rep.wtr, ppt := x.ppt }

/-- Roles (PPT_CLUSTER_c). -/
def rActive : Nat := 0
def rSpare : Nat := 1
def rActivating : Nat := 2
def rRetired : Nat := 3
def rRepair : Nat := 4

/-- Role of a cluster. -/
def role (regs : SMap Word) (c : Nat) : Nat := getR regs (Rg.PPT_CLUSTER c) Fd.PPT_CLUSTER_role

/-- Clusters of a role. -/
def roleCount (regs : SMap Word) (r : Nat) : Nat := ((List.range 18).filter (fun c => role regs c == r)).length

/-- Clusters retired and not yet repaired (R18, R182): one in repair counts until its repair has succeeded (R414). -/
def retiredCount (regs : SMap Word) : Nat := roleCount regs rRetired + roleCount regs rRepair

/-- Set the role of a cluster, and with it the counts of PPT_STATUS: `failures` saturates at 7. DESIGN CHOICE (log entry 165): the spec
knows 2 spares; where repairs leave more, spares_ready, of two bits, stops at 3. -/
def putRole (regs : SMap Word) (c r : Nat) : SMap Word :=
  let regs := putR regs (Rg.PPT_CLUSTER c) Fd.PPT_CLUSTER_role r
  let st := Rg.PPT_STATUS
  putR (putR (putR regs st Fd.PPT_STATUS_spares_ready (min 3 (roleCount regs rSpare))) st Fd.PPT_STATUS_active_clusters
    (roleCount regs rActive)) st Fd.PPT_STATUS_failures (min 7 (retiredCount regs))

/-- The spare with the lowest number (R180). -/
def lowestSpare (regs : SMap Word) : Option Nat := (List.range 18).find? (fun c => role regs c == rSpare)

/-- Charge energy to the guard budget of the present slot; passing it is counted once a slot (R181). -/
def Fx.charge (x : Fx) (uj : Nat) : Fx :=
  let budget := (rdR x.rep.regs Rg.PPT_GUARD_BUDGET).toNat
  let used := x.ppt.guardUsed + uj
  let exceeds := decide (x.ppt.guardUsed ≤ budget) && decide (budget < used)
  let rep := if exceeds then
      let r := x.rep.bump Rg.PPT_GUARD_OVER 1
      { r with regs := putR r.regs Rg.PPT_STATUS Fd.PPT_STATUS_guard_over 1 }.fire 35 2 []
    else x.rep
  { rep := rep, ppt := { x.ppt with guardUsed := used } }

/-- Clusters that hold work: the active ones, and spares that have taken over, or that bring the active clusters to 16 again, and are
still activating (R18, R181). -/
def holdsWork (regs : SMap Word) (failing : List Failing) (c : Nat) : Bool :=
  role regs c == rActive || (role regs c == rActivating && !failing.any (fun f => f.spare == some c || (f.waiting && f.cluster == c)))

/-- A cluster meets a failure cause (R180): its bit is set; a cluster that holds work and has not failed yet fails: the event, and the
activation of the lowest spare, charged to the guard budget. `cmd` names the CLUSTER_RETIRE behind cause 4. -/
def Fx.fail (x : Fx) (c cause : Nat) (cmd : Option Nat) : Fx :=
  let a := Rg.PPT_CLUSTER c
  let regs := wrR x.rep.regs a (rdR x.rep.regs a ||| bitW cause)
  let first := holdsWork regs x.ppt.failing c && !x.ppt.failing.any (fun f => f.cluster == c)
  let sp := lowestSpare regs
  if first then
    let regs := match sp with
      | some k => putRole regs k rActivating
      | none => regs
    let x : Fx := { rep := { x.rep with regs := regs }.fire 32 2 []
                    ppt := { x.ppt with failing := x.ppt.failing ++ [⟨c, sp, cmd, false⟩] } }
    match sp with
    | some k => x.charge (Config.activation k)
    | none => x
  else { x with rep := { x.rep with regs := regs } }

/-- A cluster meets a failure cause. -/
def State.failCluster (s : State) (c cause : Nat) : State := s.withFx (s.fx.fail c cause none)

/-- The failure causes by bit (R180). -/
def causeWatchdog : Nat := 0
def causeEcc : Nat := 1
def causePoison : Nat := 2
def causeLockstep : Nat := 3
def causeRetire : Nat := 4
def causeActivation : Nat := 5

/-- CORE0_LOCKSTEP_DISAGREE (R238, R180): cause 3; core 0 stops and its ISSUED tags are killed. -/
def execCore0LockstepDisagree (c : Fin 18) (s : State) : Res :=
  let s := s.withCx (s.cx.killOwned c 0)
  let s := s.setF (Rg.ZCR_CTRL (8 * c)) Fd.ZCR_CTRL_run 0
  let s := { s with span := s.span.forget (0x1000 + 8 * c) }
  .next (s.failCluster c causeLockstep)

end Sys2Proof.Machine
end

