-- ==== Sys2Proof/Machine/Dac.lean ====
section
/-! DEFINITION. The holdover DAC (R347 to R353): sources, slew limiter, generators, clears, and the compensation of the studio
and system bases (R329, R349). -/
namespace Sys2Proof.Machine

/-- The part of the state that the DAC touches. -/
structure Dx where
  rep : Rep
  dac : Dac
  blf : Belfry
  deriving DecidableEq, Repr

/-- The DAC part of the state. -/
def State.dx (s : State) : Dx := ⟨s.rep, s.dac, s.blf⟩

/-- A state with its DAC part replaced. -/
def State.withDx (s : State) (x : Dx) : State :=
  { s with regs := x.rep.regs, out := x.rep.out, host := x.rep.host, wtr := x.rep.wtr, dac := x.dac, blf := x.blf }

/-- A generator at rest (R350). -/
abbrev DacGen.reset : DacGen := { up := true, lfsr := 0x7FFFFF, value := 0, started := false }

/-- Codes of a channel. -/
def dacCode (regs : SMap Word) (ch : Nat) : Nat := getR regs (Rg.HDC_CH_CODE ch) Fd.HDC_CH_CODE_code
def dacClear (regs : SMap Word) (ch : Nat) : Nat := getR regs (Rg.HDC_CH_CLEAR ch) Fd.HDC_CH_CLEAR_code
def dacOut (regs : SMap Word) (ch : Nat) : Nat := (rdR regs (Rg.HDC_CH_OUT ch)).toNat
def dacSource (regs : SMap Word) (ch : Nat) : Nat := getR regs (Rg.HDC_CH_CTRL ch) Fd.HDC_CH_CTRL_source
def dacKind (regs : SMap Word) (ch : Nat) : Nat := getR regs (Rg.HDC_CH_CTRL ch) Fd.HDC_CH_CTRL_gen
def dacStep (regs : SMap Word) (ch : Nat) : Nat := getR regs (Rg.HDC_CH_STEP ch) Fd.HDC_CH_STEP_max_step
def dacAmp (regs : SMap Word) (ch : Nat) : Nat := getR regs (Rg.HDC_CH_AMP ch) Fd.HDC_CH_AMP_amp

/-- A clear is in force (R352). -/
def clearInForce (regs : SMap Word) : Bool := (rdR regs Rg.HDC_STATUS).toNat % 16 != 0

/-- Studio and system bases after a change of channel 0's code by `delta` (R329, R349): the change of the reference is taken out
of their rate. A system base that follows the radio base takes its rate (R336). -/
def compensate (regs : SMap Word) (now : Nat) (f : Belfry) (delta : Int) : Belfry :=
  let g := sgn 32 (rdR regs (Rg.HDC_CH_GAIN 0)).toNat
  let fix := fun (i : Nat) =>
    let b := f.anchored regs i now
    { b with comp := b.comp - delta * g * 1000 }
  { f with base1 := fix 1, base2 := if f.base2.lead.isSome then f.base2 else fix 2 }

/-- Drive a channel to a code. -/
def Dx.setOut (x : Dx) (ch code : Nat) : Dx :=
  let old := dacOut x.rep.regs ch
  if old = code then x
  else
    { x with
      rep := { x.rep with
        regs := wrR x.rep.regs (Rg.HDC_CH_OUT ch) (BitVec.ofNat 32 code)
        out := .pin (.dacOut ch code) true :: x.rep.out }
      blf := if ch = 0 then compensate x.rep.regs x.rep.now x.blf ((code : Int) - old) else x.blf }

/-- A clear starts (R352): counted, raised, every channel at its clear code at once. -/
def Dx.startClear (x : Dx) : Dx :=
  let rep := (x.rep.bump Rg.HDC_CLEARS 1).fire 352 4 []
  (List.range 4).foldl (fun x ch => x.setOut ch (dacClear x.rep.regs ch)) { x with rep := rep }

/-- A cause of a clear arises (R352, R353): it starts a clear where none is in force; in Deep it is latched for the wake. -/
def Dx.cause (x : Dx) (f : Fld) : Dx :=
  let was := clearInForce x.rep.regs
  let x := { x with rep := { x.rep with regs := putR x.rep.regs Rg.HDC_STATUS f 1 } }
  if was then x
  else if inDeep x.rep.regs then { x with dac := { x.dac with latched := true } }
  else x.startClear

/-- In a clear every channel stands at its clear code, a new one too (R348, R352); in Deep the outputs hold (R353). -/
def Dx.driveClear (x : Dx) : Dx :=
  if clearInForce x.rep.regs && !inDeep x.rep.regs then (List.range 4).foldl (fun x ch => x.setOut ch (dacClear x.rep.regs ch)) x else x

/-- At wake the latched clear takes effect (R353). -/
def Dx.wake (x : Dx) : Dx := if x.dac.latched then ({ x with dac := { x.dac with latched := false } }).startClear else x

/-- One bit of the noise generator: x^23 + x^18 + 1. -/
def lfsrBit (l : BitVec 23) : BitVec 23 := (l <<< 1) ||| (if l.getLsbD 22 != l.getLsbD 17 then 1 else 0)

/-- The noise generator advanced by 23 bits (R350). -/
def lfsrNext (l : BitVec 23) : BitVec 23 := (List.range 23).foldl (fun l _ => lfsrBit l) l

/-- A generator after a step tick, and whether the step bypasses the limiter (R350); `open_` is the value of the reserved
kind. -/
def genStep (g : DacGen) (kind : Nat) (c a m open_ : Int) : DacGen × Bool :=
  match kind with
  | 0 =>
    if m = 0 then ({ g with value := c }, false)
    else if g.up then
      let v := min (c + a) (g.value + m)
      ({ g with value := v, up := v != c + a }, false)
    else
      let v := max (c - a) (g.value - m)
      ({ g with value := v, up := v == c - a }, false)
  | 1 =>
    if m = 0 then ({ g with value := c }, false)
    else if c + a ≤ g.value then ({ g with value := c - a }, true)
    else ({ g with value := min (c + a) (g.value + m) }, false)
  | 2 =>
    let l := lfsrNext g.lfsr
    ({ g with lfsr := l, value := c - a + (l.toNat : Int) % (2 * a + 1) }, false)
  | _ => ({ g with value := open_ }, false)

/-- A code within the range of a channel (R350). -/
def satCode (v : Int) : Nat := (min 0xFFFFF v).toNat

/-- One move of the limiter (R349). -/
def limit (out target m : Nat) : Nat :=
  if m = 0 then target else if out ≤ target then min target (out + m) else max target (out - m)

/-- A quotient rounded to the nearest whole number, halves up. -/
def roundDiv (n d : Int) : Int := (2 * n * d.sign + d.natAbs) / (2 * d.natAbs)

/-- The code of a frequency term of the radio base, in 10^-12, at a gain in 2^-16 ppb a code (R329, R348). DESIGN CHOICE (log entry 220): a
term of 0 stands at mid-scale. -/
def freqCode (gain freq : Int) : Nat := satCode (0x80000 + roundDiv (freq * 65536) (gain * 1000))

/-- What Belfry asks of a channel (R348): of channel 0 the code of the radio base's frequency term, left unchanged in HOLDOVER (R335); of
channel 1 the code that locks SERDES_REF, as `request` gives it. DESIGN CHOICE (log entry 220): `request` serves channel 0 too while its
gain is 0. -/
def Dx.request (x : Dx) (ch request : Nat) : Nat :=
  let g := sgn 32 (rdR x.rep.regs (Rg.HDC_CH_GAIN 0)).toNat
  let hold := getR x.rep.regs (Rg.BLF_TB_STATUS 0) Fd.BLF_TB_STATUS_state == 4
  if ch ≠ 0 then request
  else if g = 0 then (if hold then x.dac.held.getD request else request)
  else freqCode g (if hold then x.blf.base0.ask else x.blf.base0.freq)

/-- DAC_STEP_TICK (R348 to R350): one channel at its step tick; `request` is what Belfry asks of channel 1. In a clear a channel stands at
its clear code. -/
def Dx.tick (x : Dx) (ch request open_ : Nat) : Dx :=
  let regs := x.rep.regs
  if inDeep regs then x
  else if clearInForce regs then x.setOut ch (dacClear regs ch)
  else
    let m := dacStep regs ch
    let out := dacOut regs ch
    match dacSource regs ch with
    | 1 =>
      let r := x.request ch request
      let x := { x with dac := { x.dac with held := if ch = 0 then some r else x.dac.held } }
      x.setOut ch (limit out r m)
    | 2 =>
      let r := genStep (Map.get DacGen.reset x.dac.gens ch) (dacKind regs ch) (dacCode regs ch) (dacAmp regs ch) m open_
      let x := { x with dac := { x.dac with gens := Map.set DacGen.reset x.dac.gens ch r.1 } }
      x.setOut ch (if r.2 then satCode r.1.value else limit out (satCode r.1.value) m)
    | _ => x.setOut ch (limit out (dacCode regs ch) m)

/-- DAC_STEP_TICK (R349). -/
def execDacStepTick (ch : Fin 4) (request : BitVec 20) (s : State) : Res :=
  .next ((s.withDx (s.dx.tick ch request.toNat (s.peek 0 % 0x100000))).drawn 1)

/-- DAC_CLEAR_PIN_ASSERT (R352). -/
def execDacClearPinAssert (s : State) : Res := .next (s.withDx (s.dx.cause Fd.HDC_STATUS_pin))

/-- DAC_CLEAR_PIN_RELEASE (R352): the pin cause ends; without another, each channel leaves its clear code through the limiter. -/
def execDacClearPinRelease (s : State) : Res :=
  .next { s with regs := putR s.regs Rg.HDC_STATUS Fd.HDC_STATUS_pin 0 }

/-- DAC_CAUSE_CLEAR (R352): a one in bits 3 to 1 of HDC_STATUS clears the latched cause. -/
def execDacCauseClear (v : Word) (s : State) : Res :=
  .next { s with regs := wrR s.regs Rg.HDC_STATUS (rdR s.regs Rg.HDC_STATUS &&& ~~~ (v &&& 0xE)) }

/-- Whether a channel may take a source (R347). -/
def dacPermits (regs : SMap Word) (ch source : Nat) : Bool :=
  match source with
  | 0 => true
  | 1 => decide (ch < 2)
  | 2 => !(ch == 0 && getR regs Rg.DRM_STATUS Fd.DRM_STATUS_running == 1)
  | _ => false

/-- A write of HDC_CHn_CTRL (R347, R350): ignored where the source is not permitted; a generator that is selected anew starts at
C - A with its seed. -/
def State.dacCtrl (s : State) (ch : Nat) (v : Word) : State :=
  let a := Rg.HDC_CH_CTRL ch
  let src := Fd.HDC_CH_CTRL_source.get v
  let ok := dacPermits s.regs ch src
  let starts := src == 2 && (dacSource s.regs ch != 2 || dacKind s.regs ch != Fd.HDC_CH_CTRL_gen.get v)
  let g : DacGen := { up := true, lfsr := 0x7FFFFF, value := (dacCode s.regs ch : Int) - dacAmp s.regs ch, started := true }
  { s with
    regs := if ok then putR (putR s.regs a Fd.HDC_CH_CTRL_gen (Fd.HDC_CH_CTRL_gen.get v)) a Fd.HDC_CH_CTRL_source src else s.regs
    dac := if ok && starts then { s.dac with gens := Map.set DacGen.reset s.dac.gens ch g } else s.dac }

end Sys2Proof.Machine
end

