-- ==== Sys2Proof/Machine/HostCtl.lean ====
section
/-! DEFINITION. The host side of the mailboxes and of the notification ring: doorbells, releases, responses, the backlog, writes
to BAR0 (R52 to R69), and the reset of the PCIe domain (R327). -/
namespace Sys2Proof.Machine

/-- Mailbox states (R61). -/
def mIdle : Nat := 0
def mPosted : Nat := 1
def mBusy : Nat := 2
def mDone : Nat := 3

/-- State of a mailbox. -/
def mbxState (regs : SMap Word) (n : Nat) : Nat := getR regs (Rg.PCE_MBX_STATE n) Fd.PCE_MBX_STATE_state

/-- Set the state of a mailbox. -/
def putMbx (regs : SMap Word) (n st : Nat) : SMap Word := putR regs (Rg.PCE_MBX_STATE n) Fd.PCE_MBX_STATE_state st

/-- Psiwyn accepts doorbells. -/
def ready (regs : SMap Word) : Bool := getR regs Rg.PCE_MBX_GLOBAL Fd.PCE_MBX_GLOBAL_ready == 1

/-- Bytes of BAR0. -/
def HostIf.bytes (h : HostIf) (off n : Nat) : List Byte := Memory.bytes h.bar0 off n

/-- First byte of the request area and of the response area of a mailbox (R53). -/
def reqArea (n : Nat) : Nat := n * 0x2000
def rspArea (n : Nat) : Nat := n * 0x2000 + 0x1000

/-- The request in a mailbox as a command: header fields and payload as far as its length goes. -/
def requestOf (h : HostIf) (n : Nat) : Cmd :=
  let hd := h.bytes (reqArea n) 32
  { mbx := some n, lost := false, head := hd, tag := le hd 8 2, dev := le hd 5 1, code := le hd 6 2,
    payload := h.bytes (reqArea n + 32) (min 4064 (le hd 12 4)), phase := .posted, commit := .other, status := 0, detail := 0 }

/-- A write of PCE_MBX_DOORBELL (R58, R62, R64). -/
def Rep.doorbell (r : Rep) (n : Nat) (v : Word) : Rep :=
  let c := requestOf r.host n
  let ok := ready r.regs && mbxState r.regs n == mIdle && Fd.PCE_MBX_DOORBELL_tag.get v == c.tag
  if ok then
    { r with
      regs := putR (putMbx r.regs n mPosted) (Rg.PCE_MBX_STATE n) Fd.PCE_MBX_STATE_tag c.tag
      host := { r.host with order := r.host.order ++ [n], cmds := r.host.cmds ++ [c] } }
  else r.bump (Rg.PCE_MBX_IGNORED n) 1

/-- MAILBOX_DOORBELL (R62). -/
def execMailboxDoorbell (n : Fin 64) (v : Word) (s : State) : Res := .next (s.withRep (s.rep.doorbell n v))

/-- A write of PCE_MBX_RELEASE (R58, R61): DONE becomes IDLE, and a command with a final status is outstanding no longer. -/
def Rep.release (r : Rep) (n : Nat) (v : Word) : Rep :=
  if Fd.PCE_MBX_RELEASE_release.get v = 1 ∧ mbxState r.regs n = mDone then
    { r with
      regs := putMbx r.regs n mIdle
      host := { r.host with cmds := r.host.cmds.filter (fun c => !(c.mbx == some n && c.phase == .done)) } }
  else r

/-- MAILBOX_RELEASE (R61). -/
def execMailboxRelease (n : Fin 64) (v : Word) (s : State) : Res := .next (s.withRep (s.rep.release n v))

/-- Notifications that the next overflow summary covers, and their kinds as a mask (R67, R68). -/
def HostIf.lostCount (h : HostIf) : Nat := (h.lostBy.map (·.2)).sum
def HostIf.lostKinds (h : HostIf) : Word := h.lostBy.foldl (fun m e => m ||| (1 <<< (e.1 - 1))) 0

/-- Drain the backlog into the ring while there is room (R68): the overflow summary first. -/
def Rep.drain : Nat → Rep → Rep
  | 0, r => r
  | n + 1, r =>
    if !r.host.ring.room then r
    else if r.host.lostCount ≠ 0 then
      let e : Notif := ⟨1, 0, 0, 0, r.host.lastTick, r.rt, BitVec.ofNat 32 r.host.lostCount, r.host.lostKinds⟩
      Rep.drain n ({ r with host := { r.host with lostBy := [] } }.ringWrite e)
    else match r.host.backlog with
      | [] => r
      | e :: es => Rep.drain n ({ r with host := { r.host with backlog := es } }.ringWrite e)

/-- Drain all that fits. -/
def Rep.drainAll (r : Rep) : Rep := r.drain (r.host.backlog.length + 1)

/-- A write of PCE_NRING_CONSUMER (R66): frees the entries between the indices, and what waits is written. -/
def Rep.consumer (r : Rep) (v : Word) : Rep :=
  let size := r.host.ring.size
  let old := getR r.regs Rg.PCE_NRING_CONSUMER Fd.PCE_NRING_CONSUMER_consumer
  let new := Fd.PCE_NRING_CONSUMER_consumer.get v % size
  let freed := (new + size - old % size) % size
  { r with
    regs := putR r.regs Rg.PCE_NRING_CONSUMER Fd.PCE_NRING_CONSUMER_consumer new
    host := { r.host with ring := { r.host.ring with fill := r.host.ring.fill - freed } } }.drainAll

/-- NRING_CONSUMER_WRITE (R66). -/
def execNringConsumerWrite (v : Word) (s : State) : Res := .next (s.withRep (s.rep.consumer v))

/-- NOTIFICATION_BACKLOG_DRAIN (R68). -/
def execNotificationBacklogDrain (s : State) : Res := .next (s.withRep s.rep.drainAll)

/-- Registers after a write of PCE_MBX_GLOBAL (R54). -/
def mbxGlobalRegs (regs : SMap Word) (v : Word) : SMap Word :=
  if Fd.PCE_MBX_GLOBAL_clear_discards.get v = 1 then putR regs Rg.PCE_MBX_GLOBAL Fd.PCE_MBX_GLOBAL_host_discards 0 else regs

/-- HOST_DISCARDS_CLEAR (R54). -/
def execHostDiscardsClear (v : Word) (s : State) : Res := .next { s with regs := mbxGlobalRegs s.regs v }

/-- Count a discarded host write (R54). -/
def discardRegs (regs : SMap Word) : SMap Word := stickF regs Rg.PCE_MBX_GLOBAL Fd.PCE_MBX_GLOBAL_host_discards 1

/-- Whether a host write at an offset of BAR0 is discarded (R52, R54): response areas, reserved space, event registers that are not
W1C, or EP set (R325). -/
def bar0Discards (off : Nat) (ep : Bool) : Bool :=
  ep || (decide (off < 0x80000) && decide (0x1000 ≤ off % 0x2000)) ||
  (decide (0xA0000 ≤ off) && decide (off < 0x200000)) || (decide (0x300000 ≤ off) && decide (off < 0x800000)) ||
  (decide (0x200000 ≤ off) && decide (off < 0x300000) && !(decide (off < 0x200200) && off % 16 == 0))

/-- An offset of the MSI-X table (R52): 64 entries of 16 bytes. -/
def msixTable (off : Nat) : Bool := decide (0x90000 ≤ off) && decide (off < 0x90400)

/-- The register block address behind an offset of BAR0 (R52): the doorbell page, the event block. -/
def bar0Reg (off : Nat) : Option Nat :=
  if 0x80000 ≤ off ∧ off < 0x90000 then some (winBase 10 + off)
  else if 0x200000 ≤ off ∧ off < 0x300000 then some (winBase 15 + (off - 0x200000))
  else none

/-- A host write that R7 forbids raises the register-access event of the block behind the offset. -/
def State.bar0Access (s : State) (off n : Nat) (ep : Bool) : State :=
  match bar0Reg off with
  | some a => if ep || off % 4 != 0 || n != 4 then s.accessError a else s
  | none => s

/-- BAR0_WRITE_DISCARD (R7, R52, R54). A write to the MSI-X table is no discard: the table takes it. -/
def execBar0WriteDiscard (off : Nat) (data : List Byte) (ep : Bool) (s : State) : Res :=
  .next (if bar0Discards off ep then ({ s with regs := discardRegs s.regs }).bar0Access off data.length ep
    else if (bar0Reg off).isSome then s.bar0Access off data.length ep
    else if msixTable off && msixTable (off + data.length - 1) then
      { s with host := { s.host with bar0 := Memory.putAll s.host.bar0 off data } }
    else s)

/-- MAILBOX_REQUEST_WRITE (R61, R62): stored in IDLE and DONE, else discarded and counted. -/
def execMailboxRequestWrite (n : Fin 64) (off : Nat) (data : List Byte) (s : State) : Res :=
  let st := mbxState s.regs n
  let ok := (st == mIdle || st == mDone) && decide (off + data.length ≤ 4096)
  .next { s with
    regs := if ok then s.regs else discardRegs s.regs
    host := { s.host with bar0 := if ok then Memory.putAll s.host.bar0 (reqArea n + off) data else s.host.bar0 } }

/-- The outstanding commands with one replaced: the first entry equal to it. -/
def replaceCmd (cs : List Cmd) (c d : Cmd) : List Cmd := cs.set (cs.findIdx (· == c)) d

/-- Answer a request (R57 to R63): the response area is written, the mailbox is DONE and its message goes out; PENDING leaves the
command waiting. Where a PCIe reset has taken the mailbox, a final status goes out as a notification (R327); the response to a relayed
request goes back over its link (R70). -/
def Rep.respond (r : Rep) (n : Nat) (c : Cmd) (status detail : Nat) (payload : List Byte) : Rep :=
  let pending := status == stPending
  let c' := { c with phase := if pending then .pending else .done, mbx := if pending then none else some n,
                     status := status, detail := detail }
  match c.relayed with
  | some q =>
    { r with host := { r.host with
      cmds := if pending then replaceCmd r.host.cmds c c' else r.host.cmds.erase c
      relayOut := r.host.relayOut ++ [relayAnswer q c status detail payload] } }
  | none =>
    let r := { r with host := { r.host with cmds := replaceCmd r.host.cmds c c', order := r.host.order.erase n } }
    if c.lost then
      if pending then r
      else
        let d := { c' with mbx := none }
        { r with host := { r.host with cmds := replaceCmd r.host.cmds c' d } }.notify
          ⟨kCompletion, c.dev, c.tag, status, r.host.lastTick, r.rt, BitVec.ofNat 32 detail, 0⟩
    else
      { r with
        regs := putMbx r.regs n mDone
        host := { r.host with bar0 := Memory.putAll r.host.bar0 (rspArea n) (responseBytes c status detail payload) }
        out := .msix (vectorOf r.host (32 + n)) :: r.out }

/-- The oldest request of a mailbox that is not yet taken. -/
def HostIf.request (h : HostIf) (n : Nat) : Option Cmd := h.cmds.find? (fun c => c.mbx == some n && c.phase == .posted)

/-- The oldest request of a mailbox that was forwarded and has no answer yet (R70). -/
def HostIf.forwarded (h : HostIf) (n : Nat) : Option Cmd := h.cmds.find? (fun c => c.mbx == some n && c.phase == .busy)

/-- RELAY_HOP_TIMEOUT (R70): the forwarded request of a mailbox is answered with the silent hop. -/
def execRelayHopTimeout (n : Fin 64) (hop : Nat) (s : State) : Res :=
  .next (s.withRep (match s.host.forwarded n with
    | some c => s.rep.respond n c stRelayTimeout hop []
    | none => s.rep))

/-- End the expert lease with a revocation (R72): cause 1 expiry, 2 reset of the target domain, 3 takeover. -/
def Rep.revoke (r : Rep) (cause : Nat) : Rep :=
  match r.host.lease with
  | none => r
  | some l =>
    { r with host := { r.host with lease := none } }.notify
      ⟨3, 0, 0, 0, r.host.lastTick, r.rt, BitVec.ofNat 32 l.mbx, BitVec.ofNat 32 cause⟩

/-- A reset of areas of the device's address space ends a lease whose window reaches into one of them (R72). -/
def State.endLease (s : State) (areas : List (Nat × Nat)) : State :=
  match s.host.lease with
  | none => s
  | some l =>
    if areas.any (fun e => decide (e.1 < l.base + 0x800000) && decide (l.base < e.2)) then s.withRep (s.rep.revoke 2) else s

/-- EXPERT_LEASE_EXPIRY (R72). -/
def execExpertLeaseExpiry (s : State) : Res := .next (s.withRep (s.rep.revoke 1))

/-- Reset of the PCIe domain (R327): ring, mapping, MSI-X table, PCE registers; requests go on without their mailboxes, and a final
status that lay in a mailbox is repeated as a notification. -/
def Rep.pcieReset (r : Rep) : Rep :=
  let stays := Fd.PCE_MBX_GLOBAL_active_pair.get (rdR r.regs Rg.PCE_MBX_GLOBAL)
  let tko := Fd.PCE_MBX_GLOBAL_takeover.get (rdR r.regs Rg.PCE_MBX_GLOBAL)
  let regs := Map.clear (winBase 10) (winBase 11) r.regs
  let regs := putR (putR regs Rg.PCE_MBX_GLOBAL Fd.PCE_MBX_GLOBAL_active_pair stays) Rg.PCE_MBX_GLOBAL Fd.PCE_MBX_GLOBAL_takeover tko
  let dones := r.host.cmds.filter (fun c => c.phase == .done && c.mbx.isSome)
  let cmds := r.host.cmds.map (fun c =>
    if c.relayed.isSome then c
    else if c.phase = .done then { c with mbx := none }
    else if c.phase = .pending then c
    else { c with lost := true })
  let r := { r with
    regs := regs
    host := { r.host with
      bar0 := []
      order := r.host.order
      cmds := cmds
      levels := 0
      ring := { addr := 0, sizeLog := 8, enabled := false, fill := 0, seq := 0 }
      aer := [false, false]
      vectors := [] } }
  let r := r.revoke 2
  dones.foldl (fun r c => r.notify ⟨kCompletion, c.dev, c.tag, c.status, r.host.lastTick, r.rt, BitVec.ofNat 32 c.detail, 0⟩) r

/-- PCIE_DOMAIN_RESET (R327). -/
def execPcieDomainReset (s : State) : Res := .next (s.withRep s.rep.pcieReset)

/-- The endpoint accepts doorbells (R327); its link has trained to some width and generation that it supports (R323; log entry 194). -/
def State.endpointUp (s : State) : State :=
  let k := s.peek 0
  let regs := putR (putR s.regs Rg.PCE_MBX_GLOBAL Fd.PCE_MBX_GLOBAL_ready 1) Rg.PCE_LINK_STATUS Fd.PCE_LINK_STATUS_width (2 ^ (k % 4))
  ({ s with regs := putR regs Rg.PCE_LINK_STATUS Fd.PCE_LINK_STATUS_speed (k / 4 % 5 + 1) }).drawn 1

/-- PCIE_ENDPOINT_READY (R327): Psiwyn has rebuilt the endpoint, unless a takeover or a start-up holds ready at 0. A device in the
FAILED stage takes doorbells too (R404). -/
def execPcieEndpointReady (s : State) : Res :=
  let ok := [8, 15].contains (s.getF Rg.BOOT_STATE Fd.BOOT_STATE_stage) && s.getF Rg.PCE_MBX_GLOBAL Fd.PCE_MBX_GLOBAL_takeover == 0
  .next (s.when ok s.endpointUp)

end Sys2Proof.Machine
end

