-- ==== Sys2Proof/Machine/SpanCtl.lean ====
section
/-! DEFINITION. Span links seen from the rest of the device: link control, routes, packets handed to a link (R283 to R310). -/
namespace Sys2Proof.Machine

/-- The part of the state that span control touches. -/
structure Sx where
  rep : Rep
  span : Span
  deriving DecidableEq, Repr

/-- The span part of the state. -/
def State.sx (s : State) : Sx := ⟨s.rep, s.span⟩

/-- Widths of the links. -/
def linkWidths (regs : SMap Word) : List Nat := (List.range 4).map (fun l => getR regs (Rg.SPN_LINK_STATUS l) Fd.SPN_LINK_STATUS_width)

/-- A state with its span part replaced. -/
def State.withSx (s : State) (x : Sx) : State :=
  { s with regs := x.rep.regs, out := x.rep.out, host := x.rep.host, wtr := x.rep.wtr, span := x.span }

/-- A state with its span part replaced; a change of a link's width calls for a new plan at the next slot tick (R301). -/
def State.withLink (s : State) (l : Nat) (x : Sx) : State :=
  let t := s.withSx x
  { t with drum := { s.drum with replan := s.drum.replan || nth 0 (linkWidths t.regs) l != nth 0 (linkWidths s.regs) l } }

/-- A link. -/
def Span.link (p : Span) (l : Nat) : Link := Map.get Link.reset p.links l

/-- Replace a link. -/
def Span.setLink (p : Span) (l : Nat) (k : Link) : Span := { p with links := Map.set Link.reset p.links l k }

/-- Link states (R290). -/
def lTrain : Nat := 0
def lUp : Nat := 1
def lDegraded : Nat := 2
def lDown : Nat := 3

/-- State of a link (SPN_LINK_STATUS). -/
def linkState (regs : SMap Word) (l : Nat) : Nat := getR regs (Rg.SPN_LINK_STATUS l) Fd.SPN_LINK_STATUS_state

/-- Whether a link carries packets (R290). -/
def linkOn (regs : SMap Word) (l : Nat) : Bool := linkState regs l == lUp || linkState regs l == lDegraded

/-- The device's native index (R305). -/
def ownIndex (regs : SMap Word) : Nat := getR regs Rg.SPN_CTRL Fd.SPN_CTRL_index

/-- Whether the device is in relay mode (R307). -/
def relayMode (regs : SMap Word) : Bool := getR regs Rg.SPN_CTRL Fd.SPN_CTRL_mode == 1

/-- The link on which a packet for device `d` goes (R306). -/
def routeTo (regs : SMap Word) (d : Nat) : Option Nat :=
  let a := Rg.SPN_ROUTE d
  let l := getR regs a Fd.SPN_ROUTE_link
  let m := getR regs a Fd.SPN_ROUTE_alt_link
  if 7 < d ∨ getR regs a Fd.SPN_ROUTE_valid = 0 then none
  else if linkState regs l ≠ lDown then some l
  else if getR regs a Fd.SPN_ROUTE_alt_valid = 1 then some m
  else none

/-- Device of a remote window (R22). -/
def windowOf (a : Nat) : Option Nat :=
  if 0x100000000000 ≤ a ∧ a < 0x180000000000 then some ((a - 0x100000000000) / 0x10000000000) else none

/-- Address in a device's local map of an offset of its window (R25). -/
def localOf (off : Nat) : Option Nat :=
  if off < 0x4000000000 then some off
  else if 0x8000000000 ≤ off ∧ off < 0x8020000000 then some (off - 0x8000000000 + 0x10000000000)
  else if 0xC000000000 ≤ off ∧ off < 0xC001300000 then some (off - 0xC000000000 + regBase)
  else none

/-- Where an address leads (R24, R25): this device's map, another device, or nowhere. -/
inductive Place where
  | here (a : Nat)
  | there (d link a : Nat)
  | nowhere
  deriving DecidableEq, Repr

/-- Resolve an address (R25, R306, R307). -/
def placeOf (regs : SMap Word) (a : Nat) : Place :=
  match windowOf a with
  | none => .here a
  | some n =>
    if relayMode regs then .nowhere
    else match localOf (a % 0x10000000000) with
      | none => .nowhere
      | some x =>
        if n = ownIndex regs then .here x
        else match routeTo regs n with
          | some l => .there n l x
          | none => .nowhere

/-- Units of 64 bytes of receive buffer that a packet takes, header, padded payload and masks (R296 to R298). -/
def packetUnits (p : Packet) : Nat :=
  let ws := (p.payload.length + 7) / 8
  let masks := if anyP p.payload then (ws + 7) / 8 else 0
  (16 + 8 * ws + 8 * masks + 63) / 64

/-- The address field of a relay message towards a device. DESIGN CHOICE (log entry 45): bit 0 the level of the mailbox (R76), then two
bits for the link that each device on the way takes, from bit 13 the number of those devices. -/
def relayAddress (level : Bool) (path : List Nat) : Nat :=
  b2n level + ((List.range path.tail.length).map (fun i => nth 0 path.tail i % 4 * 2 ^ (1 + 2 * i))).sum + path.tail.length * 0x2000

/-- Hand a packet to a link. -/
def Span.send (p : Span) (l : Nat) (k : Packet) : Span :=
  let lk := p.link l
  p.setLink l { lk with txPkts := lk.txPkts ++ [k] }

/-- Cut an access into pieces of at most 256 bytes (R296). -/
def chunks (a n : Nat) : List (Nat × Nat) := (List.range ((n + 255) / 256)).map (fun i => (a + 256 * i, min 256 (n - 256 * i)))

/-- The bytes of a piece of an access. -/
def pieceBody (a : Nat) (c : Nat × Nat) (wr : Option (List PByte)) : List PByte := ((wr.getD []).drop (c.1 - a)).take c.2

/-- Send the request of one piece, with a tag of its own. -/
def Span.requestOne (p : Span) (src agent d l a : Nat) (held : Bool) (wr : Option (List PByte)) (c : Nat × Nat) : Span :=
  let k : Packet := ⟨if wr.isSome then 2 else 1, false, 0, src, d, p.nextTag, c.2, c.1, 0, pieceBody a c wr⟩
  let p := p.send l k
  { p with
    reqs := p.reqs ++ [⟨p.nextTag, agent, c.1, c.2, wr.isSome, l, d, held, pieceBody a c wr, none⟩]
    nextTag := (p.nextTag + 1) % 65536 }

/-- Send the requests of an access to another device (R306, R298): one packet for each piece. -/
def Span.request (p : Span) (src agent d l a n : Nat) (wr : Option (List PByte)) : Span :=
  (chunks a n).foldl (fun p c => p.requestOne src agent d l a false wr c) p

/-- Agents that wait for the answers of their accesses: cores (R187), DMA channels (R265) and engines (R129). -/
def waitsFor (agent : Nat) : Bool := agent / 0x1000 == 1 || agent / 0x1000 == 3 || agent / 0x1000 == 5

/-- The writes of an engine that were just sent belong to a command (R135). -/
def Span.note (p : Span) (agent tag : Nat) : Span :=
  { p with reqs := p.reqs.map (fun r => if r.agent = agent ∧ r.isWrite ∧ r.cmd = none then { r with cmd := some tag } else r) }

/-- A write of an engine command has no response yet (R232). -/
def Span.owes (p : Span) (agent tag : Nat) : Bool := p.reqs.any (fun r => r.agent == agent && r.cmd == some tag)

/-- The answer to a piece of an access. -/
def Span.answerTo (p : Span) (agent d a : Nat) (c : Nat × Nat) (wr : Option (List PByte)) : Option SpanAns :=
  p.answers.find? (fun r => r.agent == agent && r.dst == d && r.addr == c.1 && r.len == c.2 && r.isWrite == wr.isSome &&
    r.body == pieceBody a c wr)

/-- A piece has been sent and has no answer yet. -/
def Span.asked (p : Span) (agent d a : Nat) (c : Nat × Nat) (wr : Option (List PByte)) : Bool :=
  p.reqs.any (fun r => r.held && r.agent == agent && r.dst == d && r.addr == c.1 && r.len == c.2 && r.isWrite == wr.isSome &&
    r.body == pieceBody a c wr)

/-- The access of an agent that waits (log entry 171): a piece is sent once; a write is not sent while a read is outstanding. -/
def Span.ask (p : Span) (src agent d l a n : Nat) (wr : Option (List PByte)) : Span :=
  (chunks a n).foldl (fun p c =>
    if (p.answerTo agent d a c wr).isSome || p.asked agent d a c wr ||
        (wr.isSome && p.reqs.any (fun r => r.agent == agent && r.held && !r.isWrite)) then p
    else p.requestOne src agent d l a true wr c) p

/-- The bytes that the answers to a read hold. -/
def Span.answerBytes (p : Span) (agent d a n : Nat) : List PByte :=
  (chunks a n).flatMap (fun c => ((p.answerTo agent d a c none).bind (·.data)).getD (poisoned (leBytes c.2 0)))

/-- First address of an access of which a piece was answered with an error. -/
def Span.answerBad (p : Span) (agent d a n : Nat) : Option Nat :=
  (chunks a n).findSome? (fun c => if p.answers.any (fun r => r.agent == agent && r.dst == d && r.addr == c.1 && r.len == c.2 && r.data.isNone)
    then some c.1 else none)

/-- Registers of a link that is DOWN (R290, R299): no width, no lane reported. -/
def downRegs (regs : SMap Word) (l : Nat) : SMap Word :=
  let a := Rg.SPN_LINK_STATUS l
  putR (putR (putR regs a Fd.SPN_LINK_STATUS_state lDown) a Fd.SPN_LINK_STATUS_width 0) a Fd.SPN_LINK_STATUS_rx_lost 7

/-- Put a link down (R292, R300): the event, the width, the pending configuration command. -/
def Sx.down (x : Sx) (l : Nat) : Sx :=
  let rep := { x.rep with regs := downRegs x.rep.regs l }.fire (224 + 4 * l) (0xB007 + 8 * l) []
  let rep := rep.completeNow (fun c => isCmd 0x0601 c && le c.payload 0 1 == l) stOk 0
  { rep := rep, span := x.span.setLink l { x.span.link l with training := false } }

/-- Start training (R292): state TRAIN, all lanes as at link-up; packets that wait keep waiting. -/
def Sx.train (x : Sx) (l : Nat) : Sx :=
  let a := Rg.SPN_LINK_STATUS l
  let regs := putR x.rep.regs a Fd.SPN_LINK_STATUS_state lTrain
  let regs := putR regs a Fd.SPN_LINK_STATUS_width 0
  let regs := putR regs a Fd.SPN_LINK_STATUS_out_a 7
  let regs := putR regs a Fd.SPN_LINK_STATUS_out_b 7
  let regs := putR regs a Fd.SPN_LINK_STATUS_rx_lost 7
  { rep := { x.rep with regs := regs }
    span := x.span.setLink l { Link.reset with training := true, txPkts := (x.span.link l).txPkts } }

/-- Hold a link DOWN (SPN_LINK_CTRL.enable written to 0). -/
def Sx.disable (x : Sx) (l : Nat) : Sx :=
  let rep := { x.rep with regs := downRegs x.rep.regs l }.completeNow (fun c => isCmd 0x0601 c && le c.payload 0 1 == l) stOk 0
  { rep := rep, span := x.span.setLink l Link.reset }

/-- A write of SPN_LINK_CTRL (R292, R299). Enable written to 1 trains a link that neither runs nor trains; retrain trains any. DEDUCED (log
entry 131). -/
def Sx.linkCtrl (x : Sx) (l : Nat) (v : Word) : Sx :=
  let a := Rg.SPN_LINK_CTRL l
  let was := getR x.rep.regs a Fd.SPN_LINK_CTRL_enable
  let en := Fd.SPN_LINK_CTRL_enable.get v
  let again := Fd.SPN_LINK_CTRL_retrain.get v
  let regs := putR (putR x.rep.regs a Fd.SPN_LINK_CTRL_err_limit (Fd.SPN_LINK_CTRL_err_limit.get v)) a Fd.SPN_LINK_CTRL_enable en
  let x := { x with rep := { x.rep with regs := regs } }
  if en = 0 then x.disable l
  else if was = 0 ∨ again = 1 ∨ (linkState regs l = lDown ∧ !(x.span.link l).training) then x.train l
  else x

/-- A write of SPN_LINK_CTRL; the span domain is On where a link is enabled (R361). -/
def State.linkCtrl (s : State) (l : Nat) (v : Word) : State :=
  let t := s.withLink l (s.sx.linkCtrl l v)
  t.domFollow 24 ((List.range 4).any (fun l => getR t.regs (Rg.SPN_LINK_CTRL l) Fd.SPN_LINK_CTRL_enable == 1))

/-- LINK_ENABLE (R292). -/
def execLinkEnable (l : Fin 4) (v : Word) (s : State) : Res :=
  .next (s.when (Fd.SPN_LINK_CTRL_enable.get v = 1) (s.linkCtrl l v))

/-- LINK_DISABLE (SPN_LINK_CTRL): enable 0 holds the link DOWN. -/
def execLinkDisable (l : Fin 4) (v : Word) (s : State) : Res :=
  .next (s.when (Fd.SPN_LINK_CTRL_enable.get v = 0) (s.linkCtrl l v))

/-- LINK_RETRAIN (R292). -/
def execLinkRetrain (l : Fin 4) (v : Word) (s : State) : Res :=
  .next (s.when (Fd.SPN_LINK_CTRL_retrain.get v = 1) (s.linkCtrl l v))

/-- Registers after a write of SPN_SCAN_CTRL (R303, R304): a start is ignored while a scan runs, and on a lane that holds no lock. -/
def scanCtrlRegs (regs : SMap Word) (l : Nat) (v : Word) : SMap Word :=
  let a := Rg.SPN_SCAN_CTRL l
  let running := getR regs (Rg.SPN_SCAN_STATUS l) Fd.SPN_SCAN_STATUS_state == 1
  let regs := putR (putR regs a Fd.SPN_SCAN_CTRL_dwell_log2 (Fd.SPN_SCAN_CTRL_dwell_log2.get v)) a Fd.SPN_SCAN_CTRL_lane
    (Fd.SPN_SCAN_CTRL_lane.get v)
  let locked := getR regs (Rg.SPN_LANE_STATUS l (Fd.SPN_SCAN_CTRL_lane.get v)) Fd.SPN_LANE_STATUS_locked == 1
  if Fd.SPN_SCAN_CTRL_start.get v = 1 ∧ locked ∧ !running then
    wrR regs (Rg.SPN_SCAN_STATUS l) 1
  else regs

/-- A write of SPN_SCAN_CTRL. -/
def State.scanCtrl (s : State) (l : Nat) (v : Word) : State := { s with regs := scanCtrlRegs s.regs l v }

/-- EYE_SCAN_START (R303). -/
def execEyeScanStart (l : Fin 4) (v : Word) (s : State) : Res :=
  .next (s.when (Fd.SPN_SCAN_CTRL_start.get v = 1) (s.scanCtrl l v))

end Sys2Proof.Machine
end

