-- ==== Sys2Proof/Machine/Timing.lean ====
section
/-! DEFINITION. Belfry's bases and network time (R328 to R346): steps, lock epochs, convergence, holdover, PTP messages, transmit
timestamps, pins. -/
namespace Sys2Proof.Machine

/-- The part of the state that Belfry touches: a step of the radio base ends Drum's tick sequence (R49). -/
structure Tx where
  rep : Rep
  blf : Belfry
  drum : Drum
  deriving DecidableEq, Repr

/-- The timing part of the state. -/
def State.tx (s : State) : Tx := ⟨s.rep, s.blf, s.drum⟩

/-- A state with its timing part replaced. -/
def State.withTx (s : State) (x : Tx) : State :=
  { s with regs := x.rep.regs, out := x.rep.out, host := x.rep.host, wtr := x.rep.wtr, blf := x.blf, drum := x.drum }

/-- States of a base (R330). -/
def tbUnset : Nat := 0
def tbEstimated : Nat := 1
def tbLocked : Nat := 2
def tbConverging : Nat := 3
def tbHoldover : Nat := 4

/-- State of a base, whether it has stepped, its source. -/
def tbState (regs : SMap Word) (b : Nat) : Nat := getR regs (Rg.BLF_TB_STATUS b) Fd.BLF_TB_STATUS_state
def tbStepped (regs : SMap Word) (b : Nat) : Bool := getR regs (Rg.BLF_TB_STATUS b) Fd.BLF_TB_STATUS_stepped == 1
def tbSource (regs : SMap Word) (b : Nat) : Nat := getR regs (Rg.BLF_TB_CTRL b) Fd.BLF_TB_CTRL_source

/-- A base is unsynchronised (R330). -/
def tbUnsync (regs : SMap Word) (b : Nat) : Bool := decide (tbState regs b ≤ tbEstimated)

/-- Set the state of a base. -/
def putTb (regs : SMap Word) (b st : Nat) : SMap Word := putR regs (Rg.BLF_TB_STATUS b) Fd.BLF_TB_STATUS_state st

/-- Replace a base. -/
def Tx.setBase (x : Tx) (b : Nat) (f : Base → Base) : Tx := { x with blf := x.blf.setBase b (f (x.blf.base b)) }

/-- Replace the registers. -/
def Tx.setRegs (x : Tx) (r : SMap Word) : Tx := { x with rep := { x.rep with regs := r } }

/-- Phase of a base at the present instant. -/
def Tx.phase (x : Tx) (b : Nat) : Nat := x.blf.phaseAt x.rep.regs b x.rep.now

/-- Reckon a base anew from the present instant. -/
def Tx.anchor (x : Tx) (b : Nat) : Tx := x.setBase b (fun _ => x.blf.anchored x.rep.regs b x.rep.now)

/-- Load a phase into a base. A base that follows the radio base by rate does not move with it (R336). -/
def Tx.setPhase (x : Tx) (b p : Nat) : Tx :=
  let x := if b = 0 ∧ x.blf.base2.lead.isSome then (x.anchor 2).setBase 2 (fun z => { z with lead := some p }) else x
  (x.anchor b).setBase b (fun z => { z with phase := p })

/-- The system base moves with the radio base from here on, or no longer (R336). -/
def Tx.lead (x : Tx) (on : Bool) : Tx :=
  let x := x.anchor 2
  x.setBase 2 (fun z => if on then { z with lead := some (x.phase 0), freq := 0, comp := 0 } else { z with lead := none })

/-- A difference of phases of base `b` in whole nanoseconds. -/
def nsOfPhase (b : Nat) (d : Int) : Int := if b = 0 then d * 100000 / (98304 * 4294967296) else d / 65536

/-- The epoch's step of a base to a phase (R331, R332): LOCKED, the event with base and step in ns. A step of the radio base ends
a tick sequence that runs on an estimate, or that was to resume after a fault (R49); ticks issued before it are still handled
(R47). -/
def Tx.stepOne (x : Tx) (b p : Nat) : Tx :=
  let d := nsOfPhase b ((p : Int) - x.phase b)
  let x := (x.setPhase b p).setBase b (fun z => { z with offsets := [], within := 0 })
  let regs := putR (putTb x.rep.regs b tbLocked) (Rg.BLF_TB_STATUS b) Fd.BLF_TB_STATUS_stepped 1
  let regs := wrR regs (Rg.BLF_TB_ERROR b) 0
  let ends := b == 0 && (getR regs Rg.DRM_STATUS Fd.DRM_STATUS_running == 1 || x.drum.faultAt.isSome)
  { x with
    rep := { x.rep with regs := regs }.fire (320 + 4 * b) 3 [b, twos 32 d, twos 32 (d / 2 ^ 32)]
    drum := if ends then { x.drum with stepAt := some (p / 4294967296) } else x.drum }

/-- The epoch's step of a base (R332, R336): nothing where it has stepped; the system base that follows the radio base steps with
it. -/
def Tx.stepTo (x : Tx) (b p : Nat) : Tx :=
  if tbStepped x.rep.regs b then x
  else
    let x := x.stepOne b p
    if b = 0 ∧ tbSource x.rep.regs 2 = 3 ∧ !tbStepped x.rep.regs 2 then (x.stepOne 2 (nanoOfRadio p)).lead true else x

/-- The step by an offset in ns (R332): the negated offset is added to the phase. -/
def Tx.stepBy (x : Tx) (b : Nat) (offset : Int) : Tx :=
  x.stepTo b (((x.phase b : Int) - phaseOfNs b offset)).toNat

/-- Load an estimate (R331): any number of times while the base has not stepped. -/
def Tx.estimate (x : Tx) (b p : Nat) : Tx :=
  let x := x.setPhase b p
  x.setRegs (putTb x.rep.regs b tbEstimated)

/-- A slew term within a cap, and the term that it ramps to at the cap (R333). -/
def Base.capped (z : Base) (c : Int) : Base :=
  { z with
    slew := max (-c) (min c z.slew)
    target := if 0 < z.target then c else if z.target < 0 then -c else 0 }

/-- A base after a new ramp rate and cap (R331, R333): the phase until now stands, and the slew term keeps within the cap. -/
def Tx.setSlew (x : Tx) (b : Nat) (v : Word) : Tx :=
  let x := (x.anchor b).setRegs (wrR x.rep.regs (Rg.BLF_TB_SLEW b) v)
  x.setBase b (fun z => z.capped (getR x.rep.regs (Rg.BLF_TB_SLEW b) Fd.BLF_TB_SLEW_rate_cap_ppb * 1000 : Nat))

/-- Slew a base toward a term (R333). -/
def Tx.slewTo (x : Tx) (b : Nat) (t : Int) : Tx := (x.anchor b).setBase b (fun z => { z with target := t })

/-- The cap of the slew term in 10^-12, with the sign that reduces an offset (R333). -/
def capTerm (regs : SMap Word) (b : Nat) (offset : Int) : Int :=
  let c : Int := getR regs (Rg.BLF_TB_SLEW b) Fd.BLF_TB_SLEW_rate_cap_ppb * 1000
  if 0 ≤ offset then -c else c

/-- Lock window in ns. -/
def lockNs (regs : SMap Word) (b : Nat) : Nat := (rdR regs (Rg.BLF_TB_LOCK_NS b)).toNat

/-- A base after the step meets a filtered offset (R333, R335): LOCKED tracks by frequency, CONVERGING slews until 16 offsets in
sequence lie within the lock window, HOLDOVER ends when its source qualifies. -/
def Tx.track (x : Tx) (b : Nat) (o f : Int) : Tx :=
  let lock := lockNs x.rep.regs b
  let inside := decide (f.natAbs ≤ lock)
  let st := tbState x.rep.regs b
  let within := if o.natAbs ≤ lock then (x.blf.base b).within + 1 else 0
  let x := x.setBase b (fun z => { z with within := within })
  if st = tbHoldover ∧ (x.blf.base b).offsets.length < 16 then x
  else if st = tbConverging then
    if 16 ≤ within then
      let x := x.slewTo b 0
      x.setRegs (putTb x.rep.regs b tbLocked)
    else x.slewTo b (capTerm x.rep.regs b f)
  else if inside then
    let x := x.anchor b
    let fr := Config.servo b (x.blf.base b).freq f
    let x := x.setBase b (fun z => { z with
      freq := fr
      freqs := (x.rep.now, fr) :: z.freqs.filter (fun e => decide (x.rep.now ≤ e.1 + 16 * secUnits)) })
    x.setRegs (putTb x.rep.regs b tbLocked)
  else
    let x := x.slewTo b (capTerm x.rep.regs b f)
    let x := x.setBase b (fun z => { z with within := 0 })
    x.setRegs (putTb x.rep.regs b tbConverging)

/-- A measured offset counts (R332, R333): into the filter; the 16th steps a base that has not stepped. -/
def Tx.offset (x : Tx) (b : Nat) (o : Int) : Tx :=
  let os := (o :: (x.blf.base b).offsets).take 16
  let f := Config.filter os
  let x := x.setBase b (fun z => { z with offsets := os })
  let x := x.setRegs (wrR x.rep.regs (Rg.BLF_TB_OFFSET b) (BitVec.ofInt 32 (satS 32 f)))
  if tbStepped x.rep.regs b then x.track b o f
  else if 16 ≤ os.length then x.stepBy b (os.foldl (· + ·) 0 / 16)
  else x

/-- The system base that follows the radio base is compared with it (R336). -/
def Tx.follow (x : Tx) : Tx :=
  if tbSource x.rep.regs 2 = 3 ∧ tbStepped x.rep.regs 2 ∧ tbStepped x.rep.regs 0 then
    x.offset 2 (nsOfPhase 2 ((x.phase 2 : Int) - nanoOfRadio (x.phase 0)))
  else x

/-- Select a source for a base (R336, R345): another source starts the counts and the filter of R332 anew (log entry 196). -/
def Tx.select (x : Tx) (b src : Nat) : Tx :=
  let x := if tbSource x.rep.regs b = src then x
    else x.setBase b (fun z => { z with announces := 0, offsets := [], within := 0, pps := 0 })
  let x := x.setRegs (putR x.rep.regs (Rg.BLF_TB_CTRL b) Fd.BLF_TB_CTRL_source src)
  if b = 2 ∧ src = 3 ∧ tbStepped x.rep.regs 0 then
    if tbStepped x.rep.regs 2 then (x.lead true).follow else (x.stepTo 2 (nanoOfRadio (x.phase 0))).lead true
  else if b = 2 ∧ src ≠ 3 then x.lead false
  else x

/-- Base and role of a PTP instance (R346). -/
def PtpInst.base (p : PtpInst) : Nat := le p.payload 1 1
def PtpInst.role (p : PtpInst) : Nat := le p.payload 3 1

/-- The PTP instance of a port. -/
def Belfry.inst (f : Belfry) (port : Nat) : Option PtpInst := Map.get none f.ptp port

/-- What the best-master selection compares: of IEEE 1588-2019, or the alternate one of G.8275 with the local_priority of the port that
heard it. PRESUMED (log entry 120). -/
def Master.rank (m : Master) : List Nat :=
  let a := m.data
  if m.alternate then [a.clockClass, a.accuracy, a.variance, a.priority2, m.localPriority, a.identity, a.steps]
  else [a.priority1, a.clockClass, a.accuracy, a.variance, a.priority2, a.identity, a.steps]

/-- Order of the best-master selection (R334). -/
def better (a b : Master) : Bool := decide (a.rank < b.rank)

/-- The best of the masters heard. -/
def bestOf (ms : List Master) : Option Master :=
  ms.foldl (fun r a => match r with
    | none => some a
    | some c => if better a c then some a else some c) none

/-- Select a master for a base, or none: another identity than the one selected last is a master change; a selection restarts the filter
and the counts (R332, R334). -/
def Tx.choose (x : Tx) (b : Nat) (m : Option Nat) : Tx :=
  let old := (x.blf.base b).selected
  if old = m then x
  else
    let last := (x.blf.base b).last
    let x := x.setBase b (fun z => { z with selected := m, last := if m.isSome then m else z.last, announces := 0, offsets := [], within := 0 })
    let x := x.setRegs (wr64R x.rep.regs (Rg.BLF_TB_MASTER_LO b) (m.getD 0))
    if last.isSome ∧ m.isSome ∧ last ≠ m then
      { x with rep := (x.rep.bump (Rg.BLF_TB_MASTER_CHANGES b) 1).fire (320 + 4 * b + 1) 3 [] }
    else x

/-- An Announce joins the masters that a base has heard. -/
def Base.hear (z : Base) (port : Nat) (p : PtpInst) (a : Announce) : Base :=
  let n := ((z.masters.find? (fun m => m.data.identity == a.identity)).map (·.heard)).getD 0
  { z with masters := ⟨a, port, decide (le p.payload 2 1 < 2), le p.payload 11 1, n + 1⟩ ::
      z.masters.filter (fun m => m.data.identity != a.identity) }

/-- PTP_ANNOUNCE (R332, R334, R337): the dataset joins the selection; an Announce of the selected master counts. One of another domain is
ignored; the metadata TLV is that of ST 2059-2. -/
def execPtpAnnounce (port : Fin 33) (a : Announce) (s : State) : Res :=
  .next (match s.blf.inst port with
    | none => s
    | some p =>
      let b := p.base
      if p.role = 1 ∨ tbSource s.regs b ≠ 1 ∨ a.domain ≠ le p.payload 4 1 then s
      else
        let x := s.tx.setBase b (fun z => z.hear port p a)
        let x := { x with blf := { x.blf with tlv := if a.tlv = [] ∨ le p.payload 2 1 ≠ 2 then x.blf.tlv else a.tlv } }
        let x := x.choose b ((bestOf (x.blf.base b).masters).map (·.data.identity))
        s.withTx (x.setBase b (fun z => { z with
          announces := if z.selected = some a.identity then z.announces + 1 else z.announces })))

/-- PTP_SYNC (R337, R339): the receive time of a Sync, as its receive descriptor carries it, and its origin time where it is one-step. -/
def execPtpSync (port : Fin 33) (master : Nat) (t2 : PtpTime) (t1 : Option PtpTime) (s : State) : Res :=
  .next (match s.blf.inst port with
    | none => s
    | some p =>
      if p.role = 1 then s
      else { s with blf := { s.blf with
        ptp := Map.set none s.blf.ptp port (some { p with t2 := some t2, t1 := t1, syncMaster := master }) } })

/-- PTP_FOLLOW_UP (R337): the origin time of the Sync before it. -/
def execPtpFollowUp (port : Fin 33) (master : Nat) (t1 : PtpTime) (s : State) : Res :=
  .next (match s.blf.inst port with
    | none => s
    | some p =>
      if p.role = 1 ∨ p.syncMaster ≠ master then s
      else { s with blf := { s.blf with ptp := Map.set none s.blf.ptp port (some { p with t1 := some t1 }) } })

/-- PTP_DELAY_RESP (R332, R337): the end-to-end offset of the exchange, which counts after three Announce messages of the selected
master. -/
def execPtpDelayResp (port : Fin 33) (master : Nat) (t3 t4 : PtpTime) (s : State) : Res :=
  .next (match s.blf.inst port with
    | none => s
    | some p =>
      match p.t1, p.t2 with
      | some t1, some t2 =>
        let b := p.base
        let z := s.blf.base b
        if p.role = 1 ∨ p.syncMaster ≠ master ∨ tbSource s.regs b ≠ 1 ∨ z.selected ≠ some master ∨ z.announces < 3 then s
        else
          let o := ((ptpTotal t2 - ptpTotal t1) - (ptpTotal t4 - ptpTotal t3)) / 2
          let x := s.tx.offset b o
          let x := if b = 0 then x.follow else x
          s.withTx { x with blf := { x.blf with ptp := Map.set none x.blf.ptp port (some { p with t1 := none, t2 := none }) } }
      | _, _ => s)

/-- Nanoseconds that the timestamp of a frame is corrected by (R339): the latency of PHY and RS-FEC, and the port's asymmetry. -/
def State.stampNs (s : State) (port : Nat) : Int :=
  (Config.phyLatency port : Int) + ((s.blf.inst port).map (fun i => leS i.payload 12 4)).getD 0

/-- A time of the base that a port is bound to, corrected (R339). -/
def State.stampBy (s : State) (port : Nat) (d : Int) : PtpTime :=
  let n := (ptpTotal (s.ptpNow (((s.blf.inst port).map PtpInst.base).getD 0)) + d).toNat
  ⟨n / 1000000000 % 2 ^ 48, n % 1000000000⟩

/-- The timestamp of a frame that leaves a port (R339). -/
def State.stamp (s : State) (port : Nat) : PtpTime := s.stampBy port (s.stampNs port)

/-- The timestamp of a frame that has come in at a port (R339). DEDUCED (log entry 223): its first bit crossed the MDI by the same time
earlier. -/
def State.stampIn (s : State) (port : Nat) : PtpTime := s.stampBy port (-(s.stampNs port))

/-- PTP_DELAY_REQ (R338): a client is answered; one beyond the limits is discarded and counted. -/
def execPtpDelayReq (port : Fin 33) (client : Nat) (s : State) : Res :=
  .next (match s.blf.inst port with
    | none => s
    | some p =>
      let total := s.blf.ptp.foldl (fun n e => n + match e.2 with | some q => q.clients.length | none => 0) 0
      let known := p.clients.contains client
      let room := decide (p.clients.length < min 32 (le p.payload 16 1)) && decide (total < 256)
      if p.role = 0 then s
      else if known || room then
        let p' := { p with clients := if known then p.clients else p.clients ++ [client] }
        { s with
          blf := { s.blf with ptp := Map.set none s.blf.ptp port (some p') }
          out := .ptpDelayResp port client (s.stampIn port) :: s.out }
      else { s with blf := { s.blf with discardedReqs := s.blf.discardedReqs + 1 } })

/-- PTP_MESSAGE_TRANSMIT (R337, R339): Announce and Sync as server, Delay_Req as client, stamped in the base of the port; a two-step server
sends the Follow_Up of its Sync. -/
def execPtpMessageTransmit (port : Fin 33) (k : PtpKind) (s : State) : Res :=
  .next (match s.blf.inst port with
    | none => s
    | some p =>
      let serves := p.role == 1 || p.role == 2
      let client := p.role == 0 || p.role == 2
      let sent := s.emit (.ptp port k (s.stamp port))
      if (k == .delayReq && client) || (k != .delayReq && serves) then
        (if k = .sync ∧ !bit (le p.payload 5 1) 0 then sent.emit (.ptpFollowUp port (s.stamp port)) else sent)
      else s)

/-- Mean of the frequency terms of the last 16 s (R335). -/
def meanFreq (z : Base) (now : Nat) : Int :=
  let fs := z.freqs.filter (fun e => decide (now ≤ e.1 + 16 * secUnits))
  if fs = [] then z.freq else fs.foldl (fun n e => n + e.2) 0 / (fs.length : Int)

/-- The base whose selected master was heard on a port, and that master; its instance may be gone meanwhile (R335). -/
def State.masterOn (s : State) (port : Nat) : Option (Nat × Nat) :=
  (List.range 2).findSome? (fun b =>
    let z := s.blf.base b
    z.selected.bind (fun m => if tbSource s.regs b = 1 ∧ z.masters.any (fun e => e.data.identity == m && e.port == port) then some (b, m) else none))

/-- A base enters HOLDOVER (R335). -/
def Tx.holdOver (x : Tx) (b : Nat) : Tx :=
  let x := x.anchor b
  let x := x.setBase b (fun z => { z with
    ask := z.freq, freq := meanFreq z x.rep.now, slew := 0, target := 0, holdFrom := x.rep.now })
  let x := x.setRegs (putTb x.rep.regs b tbHoldover)
  { x with rep := x.rep.fire (320 + 4 * b + 2) 3 [] }

/-- ANNOUNCE_TIMEOUT (R335): the selected master is gone; another of which three Announce messages have come takes its place (log entry
120), else a base that has stepped enters HOLDOVER, unless it is there. -/
def execAnnounceTimeout (port : Fin 33) (s : State) : Res :=
  .next (match s.masterOn port with
    | none => s
    | some (b, m) =>
      let x := s.tx.setBase b (fun z => { z with masters := z.masters.filter (fun e => e.data.identity != m) })
      match bestOf ((x.blf.base b).masters.filter (fun e => decide (3 ≤ e.heard))) with
      | some e => s.withTx (x.choose b (some e.data.identity))
      | none =>
        let x := x.choose b none
        let x := { x with rep := x.rep.bump (Rg.BLF_TB_ANNOUNCE_TIMEOUTS b) 1 }
        s.withTx (if tbStepped s.regs b ∧ tbState s.regs b ≠ tbHoldover then x.holdOver b else x))

/-- Grade of a holdover of `e` seconds (R335). -/
def gradeOf (regs : SMap Word) (e : Nat) : Nat :=
  let a := Rg.BLF_HOLDOVER_LIMITS
  if e < 60 * getR regs a Fd.BLF_HOLDOVER_LIMITS_limit_1 then 1
  else if e < 60 * getR regs a Fd.BLF_HOLDOVER_LIMITS_limit_2 then 2
  else if e < 60 * getR regs a Fd.BLF_HOLDOVER_LIMITS_limit_3 then 3
  else if e < 60 * getR regs a Fd.BLF_HOLDOVER_LIMITS_limit_4 then 4 else 5

/-- Seconds in HOLDOVER (BLF_TB_HOLDOVER_S). -/
def holdoverS (regs : SMap Word) (z : Base) (b now : Nat) : Nat :=
  if tbState regs b = tbHoldover then (now - z.holdFrom) / secUnits else 0

/-- HOLDOVER_GRADE_EVAL (R335): once in each second; a change raises the event. DESIGN CHOICE (log entry 221): the system base that follows
the radio base is compared with it then too (R336). -/
def execHoldoverGradeEval (b : Fin 3) (s : State) : Res :=
  let s := if b.val = 2 then s.withTx s.tx.follow else s
  let g := if tbState s.regs b = tbHoldover then gradeOf s.regs (holdoverS s.regs (s.blf.base b) b s.now) else 0
  let old := s.getF (Rg.BLF_TB_STATUS b) Fd.BLF_TB_STATUS_grade
  let r := { s.rep with regs := putR s.regs (Rg.BLF_TB_STATUS b) Fd.BLF_TB_STATUS_grade g }
  .next (s.withRep (if g = old then r else r.fire (320 + 4 * b + 3) 3 []))

/-- Nanoseconds of the radio base from the nearest whole second. -/
def nearSecond (p : Nat) : Int :=
  let ns := nsOfPhase 0 ((p % (secUnits * 4294967296) : Nat) : Int)
  if ns < 500000000 then ns else ns - 1000000000

/-- A TIMEBASE_CONFIG that waits, by base and op (R345). -/
def tbCmd (op : Nat) (c : Cmd) : Bool := isCmd 0x0501 c && le c.payload 1 1 == op

/-- PPS_IN_EDGE (R332, R344, R345): the edge is stamped; with a time of day before it, it counts toward the step of the radio base,
and completes the command that gave it. -/
def execPpsInEdge (s : State) : Res :=
  let x := s.tx
  let x := x.setRegs (wr64R x.rep.regs Rg.BLF_PPS_IN_LO s.rt)
  let x := { x with blf := { x.blf with edge := [s.phase 0, s.phase 1, s.phase 2] } }
  let p := s.phase 0
  let n := if s.blf.tod.isSome then s.blf.base0.pps + 1 else 0
  let o := match s.blf.tod with
    | some t => nsOfPhase 0 ((p : Int) - radioOfPtp t)
    | none => nearSecond p
  let x := { x with
    blf := { x.blf with tod := none, base0 := { x.blf.base0 with pps := n } }
    rep := if s.blf.tod.isSome then x.rep.completeNow (tbCmd 3) stOk 0 else x.rep }
  .next (if !s.flag Rg.BLF_PPS_CTRL Fd.BLF_PPS_CTRL_in_enable then s
    else if tbSource s.regs 0 ≠ 2 then s.withTx x
    else if tbStepped s.regs 0 then s.withTx (x.offset 0 o).follow
    else if 3 ≤ n then s.withTx (x.stepBy 0 o)
    else s.withTx x)

/-- TIME_OF_DAY_TIMEOUT (R345): no edge within 2 s. -/
def execTimeOfDayTimeout (s : State) : Res :=
  .next { s.completeNow (tbCmd 3) stTimeout 0 with blf := { s.blf with tod := none } }

/-- The next multiple of `n / d` from a phase on. -/
def nextMultiple (n d p : Nat) : Nat := ceilDiv (ceilDiv (p * d) n * n) d

/-- A second of base `b` as a phase (R328). -/
def secPhase (b : Nat) : Nat := if b = 0 then secUnits * 4294967296 else 1000000000 * 65536

/-- PPS_OUT_PULSE (R344): at the next whole second of its base (log entry 8) PPS_OUT rises, high for width_ms; held low while the base is
UNSET. -/
def execPpsOutPulse (s : State) : Res :=
  let b := s.getF Rg.BLF_PPS_CTRL Fd.BLF_PPS_CTRL_base
  let go := s.flag Rg.BLF_PPS_CTRL Fd.BLF_PPS_CTRL_out_enable && decide (b < 3) && tbState s.regs b != tbUnset
  .next (if go then (s.passBase b (nextMultiple (secPhase b) 1 (s.phase b))).emit
      (.pulse .ppsOut (s.getF Rg.BLF_PPS_CTRL Fd.BLF_PPS_CTRL_width_ms * 1000000)) else s)

/-- FRAME_OUT_PULSE (R344): at the next frame boundary k · D / N of the studio base (log entry 8) FRAME_OUT rises, high for width_us; held low
while that base is unsynchronised. -/
def execFrameOutPulse (s : State) : Res :=
  let go := s.flag Rg.BLF_FRAME_OUT_CTRL Fd.BLF_FRAME_OUT_CTRL_enable && !tbUnsync s.regs 1 &&
    decide (s.getF Rg.BLF_FRAME_OUT_CTRL Fd.BLF_FRAME_OUT_CTRL_rate < 10)
  let code := s.getF Rg.BLF_FRAME_OUT_CTRL Fd.BLF_FRAME_OUT_CTRL_rate
  .next (if go then (s.passBase 1 (nextMultiple (rateM code) (rateN code) (s.phase 1))).emit
      (.pulse .frameOut (s.getF Rg.BLF_FRAME_OUT_CTRL Fd.BLF_FRAME_OUT_CTRL_width_us * 1000)) else s)

/-- Registers of a transmit timestamp queue (R340). -/
def txtsRegs (regs : SMap Word) (p : Nat) (q : List Txts) : SMap Word :=
  let regs := putR regs (Rg.BLF_TXTS_STATUS p) Fd.BLF_TXTS_STATUS_depth q.length
  match q with
  | [] =>
    wrR (wrR (wrR (wrR regs (Rg.BLF_TXTS_ID p) 0) (Rg.BLF_TXTS_TS_W0 p) 0) (Rg.BLF_TXTS_TS_W1 p) 0) (Rg.BLF_TXTS_TS_W2 p) 0
  | e :: _ =>
    let regs := wrR regs (Rg.BLF_TXTS_ID p) (BitVec.ofNat 32 (2 ^ 31 + e.ident.toNat))
    let regs := wrR regs (Rg.BLF_TXTS_TS_W0 p) (BitVec.ofNat 32 e.t.ns)
    let regs := wrR regs (Rg.BLF_TXTS_TS_W1 p) (BitVec.ofNat 32 e.t.sec)
    wrR regs (Rg.BLF_TXTS_TS_W2 p) (BitVec.ofNat 32 (e.t.sec / 2 ^ 32 % 65536))

/-- The queue of a port. -/
def Belfry.stamps (f : Belfry) (p : Nat) : List Txts := Map.get [] f.txts p

/-- A timestamp appended (R341): the newest is discarded where 64 are held. -/
def txtsPush (q : List Txts) (e : Txts) : List Txts := if q.length < 64 then q ++ [e] else q

/-- TX_TIMESTAMP (R340, R341): an entry where the descriptor asks for it and the frame was not dropped for poison. -/
def execTxTimestamp (port : Fin 33) (ident : BitVec 16) (requested dropped : Bool) (s : State) : Res :=
  let q := s.blf.stamps port
  let q' := txtsPush q ⟨ident, s.stamp port⟩
  let full := decide (64 ≤ q.length)
  let r := s.rep
  let r := if full then
      ({ r with regs := putR r.regs (Rg.BLF_TXTS_STATUS port) Fd.BLF_TXTS_STATUS_overflow 1 }.bump (Rg.BLF_TXTS_DROPPED port) 1).fire
        332 3 [port, ident.toNat]
    else { r with regs := txtsRegs r.regs port q' }
  .next (if !requested || dropped then s
    else { s.withRep r with blf := { s.blf with txts := Map.set [] s.blf.txts port q' } })

/-- A write of BLF_TXTS_POP_p: 1 removes the oldest entry. -/
def State.txtsPop (s : State) (p : Nat) (v : Word) : State :=
  let q := if Fd.BLF_TXTS_POP_pop.get v = 1 then (s.blf.stamps p).tail else s.blf.stamps p
  { s with
    regs := txtsRegs s.regs p q
    blf := { s.blf with txts := Map.set [] s.blf.txts p q } }

/-- TXTS_POP (R340). -/
def execTxtsPop (p : Fin 33) (v : Word) (s : State) : Res := .next (s.txtsPop p v)

/-- KEEPER_RATIO_UPDATE (R342): radio units counted over 524,288 keeper ticks, while the reference runs, which it does not in Deep (R362). -/
def execKeeperRatioUpdate (units : Nat) (s : State) : Res :=
  .next (if inDeep s.regs then s
    else { s with
      regs := putR (wr64R s.regs Rg.BLF_KEEPER_RATIO_LO (units * 8192 % 2 ^ 64)) Rg.BLF_KEEPER_STATUS
        Fd.BLF_KEEPER_STATUS_calibrated 1 })

/-- The 96 bits of a latched time: units and fraction, or seconds, nanoseconds and fraction (BLF_TB_LATCH). -/
def latchWord (b p : Nat) : Nat :=
  if b = 0 then p % 2 ^ 96
  else
    let ns := p / 65536
    ns / 1000000000 % 2 ^ 48 * 2 ^ 48 + ns % 1000000000 * 65536 + p % 65536

/-- Latch registers of a base. -/
def latchRegs (regs : SMap Word) (b p : Nat) : SMap Word :=
  let w := latchWord b p
  wrR (wrR (wrR regs (Rg.BLF_TB_LATCH_W0 b) (BitVec.ofNat 32 w)) (Rg.BLF_TB_LATCH_W1 b) (BitVec.ofNat 32 (w / 2 ^ 32)))
    (Rg.BLF_TB_LATCH_W2 b) (BitVec.ofNat 32 (w / 2 ^ 64))

/-- Whether a base may take a source (R328): PTP for radio and studio, PPS_IN for radio, the radio base for system, free run for all. -/
def sourceOk (b src : Nat) : Bool := src == 0 || (src == 1 && b != 2) || (src == 2 && b == 0) || (src == 3 && b == 2)

/-- A write of BLF_TB_CTRL: the source, and the latch of the base. DEDUCED (log entry 219): a source that the base does not have is
ignored. -/
def State.tbCtrl (s : State) (b : Nat) (v : Word) : State :=
  let src := Fd.BLF_TB_CTRL_source.get v
  let x := if sourceOk b src then s.tx.select b src else s.tx
  let x := if Fd.BLF_TB_CTRL_latch.get v = 1 then x.setRegs (latchRegs x.rep.regs b (s.phase b)) else x
  s.withTx x

/-- TIME_LATCH (R328): BLF_TB_CTRL.latch written to 1. -/
def execTimeLatch (b : Fin 3) (v : Word) (s : State) : Res := .next (s.when (Fd.BLF_TB_CTRL_latch.get v = 1) (s.tbCtrl b v))

/-- Op 0 of TIMEBASE_CONFIG applied (R345). -/
def Tx.configure (x : Tx) (p : List Byte) : Tx :=
  let b := le p 0 1
  let x := x.setSlew b (BitVec.ofNat 32 (le p 4 2 * 65536 + le p 6 2))
  let regs := wrR x.rep.regs (Rg.BLF_TB_LOCK_NS b) (BitVec.ofNat 32 (le p 8 4))
  let regs := if b = 0 ∧ le p 2 1 = 2 then putR regs Rg.BLF_PPS_CTRL Fd.BLF_PPS_CTRL_in_enable 1 else regs
  ((x.setRegs regs).setBase b (fun z => { z with xtal := le p 12 4 })).select b (le p 2 1)

/-- The PTP time of a TIMEBASE_CONFIG payload (R345). -/
def tbTime (p : List Byte) : PtpTime := ⟨le p 16 6, le p 24 4⟩

/-- TIMEBASE_APPLIED (R345): the oldest op 0 or op 1 that waits takes effect and completes. -/
def execTimebaseApplied (s : State) : Res :=
  .next (match s.host.cmds.find? (fun c => c.phase == .pending && (tbCmd 0 c || tbCmd 1 c)) with
    | none => s
    | some c =>
      let b := le c.payload 0 1
      let done := fun (x : Tx) (st : Nat) => s.withTx { x with rep := x.rep.completeOne c st 0 x.rep.host.lastTick }
      if tbCmd 0 c then done (s.tx.configure c.payload) stOk
      else if tbStepped s.regs b then done s.tx stWrongState
      else done (s.tx.estimate b (phaseOfPtp b (tbTime c.payload))) stOk)

end Sys2Proof.Machine
end

