-- ==== Sys2Proof/Machine/Watch.lean ====
section
/-! DEFINITION. Counter snapshots and threshold monitors (R387 to R390), and the Watchtower recorder (R391 to R398). -/
namespace Sys2Proof.Machine

/-- The unit's counter registers in ascending order of address, by frame (R387). -/
def frameAddrs (f : Nat) : List Nat :=
  if f = 0 then [Rg.PWR_REFUSALS, Rg.PWR_SUPERSEDED, Rg.PWR_REPLAYED]
  else if f = 1 then [Rg.DRM_SYM_COUNT_LO, Rg.DRM_SYM_COUNT_HI, Rg.DRM_SLOT_COUNT_LO, Rg.DRM_SLOT_COUNT_HI, Rg.DRM_FRAME_COUNT_LO,
    Rg.DRM_FRAME_COUNT_HI, Rg.DRM_TICKQ_QUEUED, Rg.DRM_LATE_COUNT, Rg.DRM_LATE_UPSTREAM, Rg.DRM_STALE_WRITES]
  else if f = 2 then [Rg.PPT_SHED_SLOTS, Rg.PPT_GRANTS_REFUSED, Rg.PPT_PROTECTED_OVER, Rg.PPT_GUARD_OVER, Rg.PPT_REPLAYS]
  else if f = 3 then [Rg.BLF_KEEPER_LO, Rg.BLF_KEEPER_HI] ++
    (List.range 3).flatMap (fun b => [Rg.BLF_TB_STATUS b, Rg.BLF_TB_MASTER_CHANGES b, Rg.BLF_TB_ANNOUNCE_TIMEOUTS b]) ++
    (List.range 33).map (fun p => Rg.BLF_TXTS_DROPPED p)
  else if f = 4 then [Rg.HDC_CLEARS]
  else if f = 5 then (List.range 10).map (fun n => Rg.LNT_CNT n)
  else if f = 6 then [Rg.WTR_SUPPRESSED, Rg.WTR_FLASH_LOST]
  else if f = 9 then [Rg.EVT_SNAP_SEQ, Rg.EVT_RAISES]
  else if f = 10 then [Rg.QMG_REJECTS, Rg.QMG_CACHE_MISSES]
  else if f = 11 then [Rg.MEC_STATUS, Rg.MEC_CE_COUNT, Rg.MEC_UE_COUNT, Rg.MEC_POISON_READS, Rg.MEC_SCRUB_PASSES] ++
    (List.range 18).map (fun c => Rg.MEC_CLUSTER_CE c)
  else if 16 ≤ f ∧ f < 160 then [Rg.ZCR_CYCLES_LO (f - 16), Rg.ZCR_CYCLES_HI (f - 16), Rg.ZCR_EXT_STALLS (f - 16)]
  else if 160 ≤ f ∧ f < 178 then [Rg.ZCL_ENG_LATE_ERRORS (f - 160)]
  else if 178 ≤ f ∧ f < 196 then [Rg.CPL_KILLS (f - 178), Rg.CPL_KILLS_IGNORED (f - 178), Rg.CPL_REFUSED (f - 178)] ++
    (List.range 8).map (fun k => Rg.CPL_LATE_LOST (f - 178) k)
  else if 196 ≤ f ∧ f < 218 then [Rg.DMA_ENG_HALTS (f - 196)]
  else if 218 ≤ f ∧ f < 251 then [Rg.ETH_CNT_FCS (f - 218), Rg.ETH_CNT_FEC_UNCORR (f - 218), Rg.ETH_CNT_UNKNOWN (f - 218),
    Rg.ETH_CNT_EARLY (f - 218), Rg.ETH_CNT_LATE (f - 218), Rg.ETH_CNT_UNANNOUNCED (f - 218), Rg.ETH_CNT_DUPLICATE (f - 218),
    Rg.ETH_CNT_TX_POISON (f - 218)]
  else if 251 ≤ f ∧ f < 255 then [Rg.SPN_LINK_REPLAYS (f - 251), Rg.SPN_LINK_RESTRIPES (f - 251), Rg.SPN_LINK_CRC_ERRORS (f - 251),
    Rg.SPN_LINK_TIMEOUTS (f - 251)]
  else if f = 255 then [Rg.PCE_MBX_GLOBAL] ++ (List.range 64).map (fun n => Rg.PCE_MBX_IGNORED n) ++
    [Rg.PCE_NRING_LOST, Rg.PCE_EXPERT_DENIED]
  else []

/-- Whether a unit has the frame (R387). -/
def isFrame (f : Nat) : Bool := decide (f < 13) || (decide (16 ≤ f) && decide (f < 256))

/-- Domain of the unit of a frame (R354). -/
def frameDomain (f : Nat) : Nat :=
  if f = 0 then 0 else if f < 16 then 1 else if f < 160 then 2 + (f - 16) / 8 else if f < 178 then 2 + (f - 160)
  else if f < 196 then 2 + (f - 178) else if f < 214 then 2 + (f - 196) else if f < 218 then 1
  else if f < 250 then 20 + (f - 218) / 8 else if f = 250 then 1 else if f < 255 then 24 else 26

/-- Frame of a unit identifier (R387). -/
def frameOf (u : Nat) : Option Nat :=
  match u / 4096 with
  | 0 => if u < 13 then some u else none
  | 1 => if u % 4096 < 144 then some (16 + u % 4096) else none
  | 2 => if u % 4096 < 18 then some (160 + u % 4096) else none
  | 4 => if u % 4096 < 18 then some (178 + u % 4096) else none
  | 5 => if u % 4096 < 704 then some (196 + u % 4096 / 32) else none
  | 10 => if u % 4096 < 33 then some (218 + u % 4096) else none
  | 11 => if u % 4096 < 32 then some (251 + u % 4096 / 8) else none
  | 12 => if u % 4096 = 0 then some 255 else none
  | _ => none

/-- One frame of the new bank (R389): copied fresh where its domain is Run, Nap or On, else from the old bank. -/
def frameCopy (regs : SMap Word) (old : SMap Word) (epochs : SMap Nat) (f : Nat) : List (Nat × Word) :=
  if dNapOr (domState regs (frameDomain f)) then
    let ws := (frameAddrs f).map (rdR regs)
    ((List.range ws.length).zip ws).map (fun e => (128 * f + e.1, e.2)) ++
      [(128 * f + 126, 1), (128 * f + 127, BitVec.ofNat 32 (Map.get 0 epochs f))]
  else (List.range 128).map (fun w =>
    (128 * f + w, if w = 126 then Map.get 0 old (128 * f + w) &&& 0xFFFFFFFE else Map.get 0 old (128 * f + w)))
where
  dNapOr (st : Nat) : Bool := decide (3 ≤ st)

/-- The new bank (R389). -/
def bankCopy (regs : SMap Word) (old : SMap Word) (epochs : SMap Nat) : SMap Word :=
  (((List.range 256).filter isFrame).flatMap (frameCopy regs old epochs)).filter (fun e => decide (e.2 ≠ 0))

/-- Snapshot sequence. -/
def snapSeq (regs : SMap Word) : Nat := (rdR regs Rg.EVT_SNAP_SEQ).toNat

/-- A bank by number. -/
def Events.bank (e : Events) (n : Nat) : SMap Word := if n % 2 = 0 then e.bank0 else e.bank1

/-- A SNAPSHOT_REQUEST that waits for its snapshot, and one whose snapshot is under way (R388). -/
def snapCmd (taken : Bool) (c : Cmd) : Bool := isCmd 0x0A02 c && (c.commit == .other) == taken

/-- Take a snapshot: its first step (R389). -/
def Fw.take (x : Fw) (periodic : Bool) : Fw :=
  let s := snapSeq x.rep.regs
  let new := bankCopy x.rep.regs (x.evt.bank s) x.evt.epochs
  let asked := x.rep.host.cmds.any (fun c => c.phase == .pending && snapCmd false c)
  let regs := putR x.rep.regs Rg.EVT_SNAP_CTRL Fd.EVT_SNAP_CTRL_request 0
  let regs := wrR regs Rg.EVT_SNAP_TICK x.rep.host.lastTick
  let cmds := x.rep.host.cmds.map (fun c => if c.phase == .pending && isCmd 0x0A02 c then { c with commit := .other } else c)
  { rep := { x.rep with regs := regs, host := { x.rep.host with cmds := cmds } }
    evt := { x.evt with
      bank0 := if s % 2 = 1 then new else x.evt.bank0
      bank1 := if s % 2 = 0 then new else x.evt.bank1
      snapBusy := true
      freeing := x.evt.freeing.map (fun e => (e.1, true))
      sincePeriodic := if periodic || asked then 0 else x.evt.sincePeriodic } }

/-- The snapshot part of a slot tick or a boundary (R388): a snapshot is taken where one is due and none is under way. -/
def Fw.snapStep (x : Fw) : Fw :=
  let x := { x with evt := { x.evt with sincePeriodic := x.evt.sincePeriodic + 1 } }
  let period := getR x.rep.regs Rg.EVT_SNAP_CTRL Fd.EVT_SNAP_CTRL_period_slots
  let periodic := decide (period ≠ 0) && decide (period ≤ x.evt.sincePeriodic)
  let asked := getR x.rep.regs Rg.EVT_SNAP_CTRL Fd.EVT_SNAP_CTRL_request == 1
  if (periodic || asked) && !x.evt.snapBusy then x.take periodic else x

/-- SNAPSHOT_BOUNDARY (R388): every 500 µs of the system base while Drum is stopped. -/
def execSnapshotBoundary (s : State) : Res :=
  .next (s.withFw (if s.getF Rg.DRM_STATUS Fd.DRM_STATUS_running = 0 then s.fw.snapStep else s.fw))

/-- A write of EVT_SNAP_CTRL: the period, and the request bit (R388). -/
def snapCtrlRegs (regs : SMap Word) (v : Word) : SMap Word :=
  let regs := putR regs Rg.EVT_SNAP_CTRL Fd.EVT_SNAP_CTRL_period_slots (Fd.EVT_SNAP_CTRL_period_slots.get v)
  if Fd.EVT_SNAP_CTRL_request.get v = 1 then putR regs Rg.EVT_SNAP_CTRL Fd.EVT_SNAP_CTRL_request 1 else regs

/-- SNAP_REQUEST_BIT (R388). -/
def execSnapRequestBit (v : Word) (s : State) : Res := .next { s with regs := snapCtrlRegs s.regs v }

/-- Threshold monitors after a snapshot (R390). -/
def Fw.monitors (x : Fw) : Fw :=
  (List.range 32).foldl (fun x n =>
    let sel := Rg.EVT_THR_SEL n
    let w := getR x.rep.regs sel Fd.EVT_THR_SEL_word
    let v := rdR x.rep.regs (Rg.EVT_THR_VAL n)
    match frameOf (getR x.rep.regs sel Fd.EVT_THR_SEL_unit) with
    | some f =>
      let s := snapSeq x.rep.regs
      let new := Map.get 0 (x.evt.bank s) (128 * f + w)
      let old := Map.get 0 (x.evt.bank (s + 1)) (128 * f + w)
      if getR x.rep.regs sel Fd.EVT_THR_SEL_enable = 1 ∧ w ≤ 125 ∧ v ≤ new ∧ old < v then
        { x with rep := x.rep.fire (992 + n) 9 [] }
      else x
    | none => x) x

/-- The live table as bytes (R386, R389). -/
def liveBytes (e : Events) (n : Nat) : List Byte := (List.range (n / 4)).flatMap (fun i => leBytes 4 (Map.get 0 e.live (4 * i)).toNat)

/-- SNAPSHOT_COMPLETE (R389, R390): the firmware bank is written, the sequence rises, held-back updates are applied, flow slots are
freed, the commands complete and the monitors look. -/
def execSnapshotComplete (s : State) : Res :=
  let k := (snapSeq s.regs + 1) % 2
  let a := rd64R s.regs Rg.EVT_FW_BASE_LO % 2 ^ 48 + k * (s.rd Rg.EVT_FW_BANK_BYTES).toNat
  let n := 0x8000 + 64 * (s.rd Rg.EVT_FW_SLOTS).toNat
  let t := s.memWrite s.ctrlUnit a (clean (liveBytes s.evt n))
  let x : Fw := t.fw
  let x : Fw := { x with
    rep := { x.rep with regs := wrR x.rep.regs Rg.EVT_SNAP_SEQ (rdR x.rep.regs Rg.EVT_SNAP_SEQ + 1) }
    evt := { x.evt with snapBusy := false } }
  let x : Fw := { x with evt := { x.evt with
    live := (x.evt.freeing.filter (·.2)).foldl (fun m e => Map.clear (fwFlow e.1 0) (fwFlow (e.1 + 1) 0) m) x.evt.live
    freeing := x.evt.freeing.filter (fun e => !e.2) } }
  let x : Fw := x.evt.heldLive.foldl (fun x e => x.add e.1 e.2) { x with evt := { x.evt with heldLive := [] } }
  let x : Fw := { x with rep := x.rep.complete (snapCmd true) stOk 0 (rdR x.rep.regs Rg.EVT_SNAP_TICK) }
  .next (if s.evt.snapBusy then t.withFw x.monitors else s)

/-- EVENT_STATUS_CLEAR (R384). -/
def execEventStatusClear (g : Fin 32) (v : Word) (s : State) : Res := .next (s.clearStatus g v)

/-- Nanoseconds within the operating second (R391). -/
def opNanos (now : Nat) : Nat := now % secUnits * 100000 / 98304

/-- A record as the ring holds it (R391). -/
def recBytes (seq cycles : Nat) (r : Rec) : List Byte :=
  let b := leBytes 4 seq ++ leBytes 2 r.code ++ leBytes 2 r.source ++ leBytes 4 cycles ++ leBytes 4 r.seconds ++ leBytes 4 r.nanos
    ++ leBytes 1 (b2n r.estimated) ++ leBytes 3 0 ++ leBytes 8 r.time ++ leBytes 4 r.p0.toNat ++ leBytes 4 r.p1.toNat
    ++ leBytes 4 r.p2.toNat ++ leBytes 4 r.p3.toNat ++ leBytes 12 0
  b ++ leBytes 4 (crc32 b).toNat

/-- Sequence registers. -/
def wtrNext (regs : SMap Word) : Nat := (rdR regs Rg.WTR_NEXT_SEQ).toNat
def wtrPersisted (regs : SMap Word) : Nat := (rdR regs Rg.WTR_PERSISTED_SEQ).toNat

/-- Write one record at the next sequence number (R393): a record of flash that the ring overwrites unprogrammed is lost
(R396). -/
def Rep.writeRec (r : Rep) (e : Rec) : Rep :=
  let seq := wtrNext r.regs
  let slot := seq % 16384
  let unsync := decide (getR r.regs (Rg.BLF_TB_STATUS 0) Fd.BLF_TB_STATUS_state ≤ 1)
  let e := { e with
    seconds := (rdR r.regs Rg.WTR_OP_SECONDS).toNat, nanos := opNanos r.now, estimated := unsync, time := r.rt }
  let gone := match Map.get none r.wtr.ring slot with
    | some (q, _, _) => decide (q = wtrPersisted r.regs)
    | none => false
  let regs := wrR r.regs Rg.WTR_NEXT_SEQ (BitVec.ofNat 32 (seq + 1))
  let regs := if (seq + 1 + 2 ^ 32 - (rdR regs Rg.WTR_OLDEST_SEQ).toNat) % 2 ^ 32 > 16384 then
      wrR regs Rg.WTR_OLDEST_SEQ (rdR regs Rg.WTR_OLDEST_SEQ + 1) else regs
  let w := { r.wtr with
    ring := Map.set none r.wtr.ring slot (some (seq, (rdR regs Rg.WTR_POWER_CYCLES).toNat, e))
    lost := if gone then match r.wtr.lost with
        | some (f, n) => some (f, n + 1)
        | none => some (wtrPersisted r.regs, 1)
      else r.wtr.lost }
  let r := { r with regs := if gone then wrR regs Rg.WTR_PERSISTED_SEQ (BitVec.ofNat 32 (wtrPersisted regs + 1)) else regs, wtr := w }
  if gone then r.bump Rg.WTR_FLASH_LOST 1 else r

/-- RECORD_WRITE (R393): the oldest entry of the FIFO takes the next sequence number. -/
def execRecordWrite (s : State) : Res :=
  .next (match s.wtr.fifo with
    | [] => s
    | e :: rest =>
      let w := { s.wtr with fifo := rest }
      s.withRep ({ s.rep with regs := wtrStatus s.regs w, wtr := w }.writeRec e))

/-- The summary of a suppressed code (R394). -/
def suppRec (now : Nat) (e : Supp) : Rec :=
  let ns := (now - e.first) * 100000 / 98304
  mkRec 0x0001 6 (BitVec.ofNat 32 e.code) (BitVec.ofNat 32 e.count) (BitVec.ofNat 32 e.source) (BitVec.ofNat 32 (min 0xFFFFFFFF ns))

/-- Insert an entry by ascending code. -/
def suppInsert (e : Supp) : List Supp → List Supp
  | [] => [e]
  | x :: xs => if e.code ≤ x.code then e :: x :: xs else x :: suppInsert e xs

/-- FLOOD_END (R394): the FIFO has stayed empty; one summary for each code, in ascending order. They wait for the FIFO in order,
beyond its eight places (log entry 30). While the ring is disabled they are discarded and counted (R393). -/
def execFloodEnd (s : State) : Res :=
  let sum := (s.wtr.supp.foldl (fun l e => suppInsert e l) []).map (suppRec s.now)
  let w := { s.wtr with fifo := sum, supp := [] }
  let off := { s.wtr with supp := [] }
  .next (if s.wtr.fifo = [] ∧ s.wtr.supp ≠ [] ∧ s.getF Rg.WTR_CTRL Fd.WTR_CTRL_enable = 0 then
      ({ s with regs := wtrStatus s.regs off, wtr := off }).bump Rg.WTR_SUPPRESSED s.wtr.supp.length
    else if s.wtr.fifo = [] ∧ s.wtr.supp ≠ [] then
      { s with regs := putR (wtrStatus s.regs w) Rg.WTR_STATUS Fd.WTR_STATUS_fifo (min 8 sum.length), wtr := w }
    else s)

/-- CHECKPOINT (R397). -/
def execCheckpoint (s : State) : Res := .next (s.record 0x0002 6 [])

/-- Records that the flash area keeps when a page fills (R395). -/
def flashKeep (regs : SMap Word) : Nat := ((rdR regs Rg.WTR_FLASH_PAGES).toNat - 2) * 64

/-- A record that flash takes next: the one at WTR_PERSISTED_SEQ, with its sequence and power cycles (R395). -/
def State.toProgram (s : State) : Option (Nat × Nat × Rec) :=
  let p := wtrPersisted s.regs
  match Map.get none s.wtr.ring (p % 16384) with
  | none => none
  | some e => if s.getF Rg.WTR_CTRL Fd.WTR_CTRL_flash_en = 0 ∨ e.1 ≠ p ∨ p = wtrNext s.regs then none else some e

/-- Programming it fails, and will be tried again (R395). -/
def State.programFails (s : State) : State :=
  let r := s.rep
  s.withRep ({ r with regs := putR r.regs Rg.WTR_STATUS Fd.WTR_STATUS_flash_error 1 }.fire 387 6 [])

/-- It is programmed (R395, R396); after a run of lost records one gap record is presented. -/
def State.programmed (s : State) (e : Nat × Nat × Rec) : State :=
  let r := s.rep
  let p := wtrPersisted s.regs
  let fl := e :: r.wtr.flash
  let w := { r.wtr with
    flash := if (p + 1) % 64 = 0 then fl.take (flashKeep r.regs) else fl
    lost := none }
  let r := { r with regs := wrR r.regs Rg.WTR_PERSISTED_SEQ (BitVec.ofNat 32 (p + 1)), wtr := w }
  s.withRep (match s.wtr.lost with
    | some (f, n) => (r.record 0x0005 6 [f, n]).fire 386 6 []
    | none => r)

/-- A write of WTR_READ_SLOT: the slot's record is latched; an empty slot reads as zeros (R398). -/
def slotLatchRegs (regs : SMap Word) (w : Watchtower) (v : Word) : SMap Word :=
  let n := Fd.WTR_READ_SLOT_slot.get v
  let bs := match Map.get none w.ring n with
    | some (seq, cyc, e) => recBytes seq cyc e
    | none => []
  (List.range 16).foldl (fun m i => wrR m (Rg.WTR_READ_DATA i) (BitVec.ofNat 32 (le bs (4 * i) 4)))
    (wrR regs Rg.WTR_READ_SLOT (BitVec.ofNat 32 n))

/-- RECORD_SLOT_LATCH (R398). -/
def execRecordSlotLatch (v : Word) (s : State) : Res := .next { s with regs := slotLatchRegs s.regs s.wtr v }

end Sys2Proof.Machine
end

