-- ==== Sys2Proof/Machine/PowerCmd.lean ====
section
/-! DEFINITION. Power transitions (R354 to R367): requests, commits, timeouts, exits, wakes, Deep and the way out of it (R343,
R421). -/
namespace Sys2Proof.Machine

/-- POWER_DOMAIN_REQUEST (R366): a write of PWR_DOM_REQ_d. -/
def execPowerDomainRequest (d : Fin 96) (v : Word) (s : State) : Res := .next (s.powerRequest d (Fd.PWR_DOM_REQ_target.get v))

/-- DEVICE_STATE_REQUEST (R361): a write of PWR_DEVICE_REQ. -/
def execDeviceStateRequest (v : Word) (s : State) : Res := .next (s.deviceRequest (Fd.PWR_DEVICE_REQ_target.get v))

/-- Code of the orderly power-down record (R392). -/
def recDown : Nat := 0x0004

/-- FLASH_PROGRAM (R395 to R397): the record at WTR_PERSISTED_SEQ is programmed, or fails; with the power-down record programmed, the
entry to Deep that waits for it is requested. -/
def execFlashProgram (ok : Bool) (s : State) : Res :=
  .next (match s.toProgram with
    | none => s
    | some e =>
      if !ok then s.programFails
      else
        let t := s.programmed e
        if s.pwr.downWait ∧ e.2.2.code = recDown then ({ t with pwr := { t.pwr with downWait := false } }).deviceRequest vDeep else t)

/-- Segments as a group that power down (R356). -/
def State.segsDown (s : State) (lo n : Nat) : State := (List.range n).foldl (fun s i => s.segDown (lo + i)) s

/-- Segments as a group that power up. -/
def State.segsUp (s : State) (lo n : Nat) : State := (List.range n).foldl (fun s i => s.segUp (lo + i)) s

/-- The DRAM loses its contents. -/
def State.dramLost (s : State) : State := s.memClear 0 0x4000000000

/-- A domain that is no cluster and no segment, at a state; DDR loses DRAM in Off, span its links, PCIe its endpoint (R354). -/
def State.domainTo (s : State) (d t : Nat) : State :=
  let s := { s with regs := putDom s.regs d t }
  if t ≠ dOff then s
  else if d = 25 then s.dramLost
  else if d = 24 then { s with span := { s.span with links := [] } }
  else if d = 26 then s.withRep s.rep.pcieReset
  else s

/-- Areas of the address space that a unit owns (R23, R242): registers, and the memories of a cluster. -/
def unitAreas (u : Nat) : List (Nat × Nat) :=
  let part := fun (w o n : Nat) => (winBase w + o, winBase w + o + n)
  let i := u % 4096
  match u / 4096 with
  | 2 => [(tileBase i, tileBase (i + 1)), (sharedBase i, sharedBase (i + 1)), part 2 (0x8000 * i) 0x8000, part 3 (0x8000 * i) 0x8000,
      part 4 (0x1000 * i) 0x1000]
  | 5 => [part 6 (0x8000 * (i / 32)) 0x8000]
  | 10 => [part 9 (0x4000 * i) 0x4000]
  | 11 => [part 8 (0x1000 * (i / 8 + 1)) 0x1000]
  | _ =>
    match [(1, 0), (2, 1), (3, 11), (4, 12), (5, 14), (6, 16), (10, 7)].find? (fun e => e.1 == u) with
    | some e => [part e.2 0 0x100000]
    | none => []

/-- Areas of a power domain (R354): a cluster, eight ports, the span links, DRAM, an SRAM segment. -/
def domainAreas (d : Nat) : List (Nat × Nat) :=
  if isCluster d then unitAreas (0x2000 + (d - 2))
  else if 20 ≤ d ∧ d < 24 then (List.range 8).flatMap (fun i => unitAreas (0xA000 + 8 * (d - 20) + i))
  else if d = 24 then [(winBase 8, winBase 9)]
  else if d = 25 then [(0, 0x4000000000)]
  else if 32 ≤ d then [(sramBase + (d - 32) * 0x800000, sramBase + (d - 31) * 0x800000)]
  else []

/-- The switch of a domain entry (R356, R359, R364). A segment asked for Keep keeps its contents, asked for Off loses them; a lease of
the expert window on a domain that goes Off ends (R72). -/
def State.enterDomain (s : State) (d t : Nat) : State :=
  let s := if t = dOff then s.endLease (domainAreas d) else s
  if isCluster d then s.clusterDown (d - 2) t
  else if 32 ≤ d then
    let sg := d - 32
    let s := if t = dKeep then s else s.memClear (sramBase + sg * 0x800000) (sramBase + (sg + 1) * 0x800000)
    { s with regs := putDom s.regs d t }
  else s.domainTo d t

/-- The end of a domain entry (R366, R367): the commands complete; a latched wake turns the domain back to Run or On at once, before
the pending request is served. -/
def State.domainEntered (s : State) (d t : Nat) : State :=
  let p := s.px
  let p : Px := { p with
    rep := p.rep.completeNow (powerCmd d t) stOk 0
    pwr := { p.pwr with quiesce := p.pwr.quiesce.filter (· != d) } }
  let p := p.setDom d Fd.PWR_DOM_in_flight noReq
  if getR p.rep.regs (Rg.PWR_DOM d) Fd.PWR_DOM_latched = 1 then
    let p := p.setDom d Fd.PWR_DOM_latched 0
    s.withPx { rep := p.rep.bump Rg.PWR_REPLAYED 1, pwr := { p.pwr with exiting := d :: p.pwr.exiting } }
  else s.withPx (Px.next s.refuser p d)

/-- The device goes to Standby (R361): clusters to Doze (log entry 14), SerDes groups Off, segments 28 to 63 to Keep or Off. -/
def State.toStandby (s : State) : State :=
  let s := (List.range 18).foldl (fun s c => if 3 ≤ clusterState s.regs c then s.clusterDown c dDoze else s) s
  let s := (List.range 4).foldl (fun s g => s.domainTo (20 + g) dOff) s
  s.segsDown 28 36

/-- The device goes to Deep (R343, R361, R362): bases and keeper latched, clusters Off, DDR by dram_keep, every segment by its Keep
bit, PCIe, span and control Off, SLEEP_OUT high; Lantern's pins low; caches and channels of the control domain are lost, and what
else is lost is at its reset value after the wake (`State.wokenShort`). -/
def State.toDeep (s : State) : State :=
  let s := s.lanternStop
  let s := { s with blf := { s.blf with sleep := some (s.phase 0, s.phase 2, s.phase 1) } }
  let s := (List.range 18).foldl (fun s c => s.clusterDown c dOff) s
  let s := s.domainTo 25 (if s.flag Rg.PWR_DEEP_CFG Fd.PWR_DEEP_CFG_dram_keep then dKeep else dOff)
  let s := s.segsDown 28 36
  let s := if keepBit s.regs 9 then s else s.memClear (sramBase + 9 * 0x800000) (sramBase + 10 * 0x800000)
  let s := ((s.domainTo 24 dOff).domainTo 26 dOff).domainTo 1 dOff
  { s with
    dma := Map.clear (32 * 18) (32 * 22) s.dma
    qm := { s.qm with cache := [], ops := [] }
    out := .pin .sleepOut true :: s.out }

/-- A wake source ends Deep, or is latched while the entry runs (R362, R367): SLEEP_OUT falls. -/
def State.wakeUp (s : State) (source : Nat) : State :=
  if inDeep s.regs then
    { s with
      pwr := { s.pwr with wake := s.pwr.wake ||| source }
      out := if s.pwr.wake = 0 then .pin .sleepOut false :: s.out else s.out }
  else if s.pwr.deviceQuiesce ∧ devFlight s.regs = vDeep then
    { s with pwr := { s.pwr with latched := true, wake := s.pwr.wake ||| source } }
  else s

/-- WAKE_PIN (R362). -/
def execWakePin (s : State) : Res := .next (s.when (s.flag Rg.PWR_WAKE_CFG Fd.PWR_WAKE_CFG_pin_en = true) (s.wakeUp 1))

/-- KEEPER_ALARM (R362). -/
def execKeeperAlarm (s : State) : Res := .next (s.when (s.flag Rg.PWR_WAKE_CFG Fd.PWR_WAKE_CFG_alarm_en = true) (s.wakeUp 2))

/-- The end of a device entry (R366, R367): a wake latched during an entry to Deep is served at once. -/
def State.deviceEntered (s : State) (t : Nat) : State :=
  let p := s.px
  let p : Px := { p with
    rep := p.rep.completeNow (deviceCmd t) stOk 0
    pwr := { p.pwr with deviceQuiesce := false } }
  let p := (p.setDev Fd.PWR_DEVICE_in_flight noReq).setDev Fd.PWR_DEVICE_state t
  if t = vDeep ∧ p.pwr.latched then
    let rep := p.rep.bump Rg.PWR_REPLAYED 1
    s.withPx { p with rep := { rep with
      regs := putR rep.regs Rg.PWR_WAKE_STATUS Fd.PWR_WAKE_STATUS_replayed 1
      out := .pin .sleepOut false :: rep.out } }
  else s.withPx (Px.nextDev (deviceRefuser s.regs s.cpl) { p with pwr := { p.pwr with latched := false } })

/-- POWER_COMMIT (R364): an entry in quiesce is committed. -/
def execPowerCommit (u : PowerUnit) (s : State) : Res :=
  .next (match u with
    | .dom d =>
      let t := domFlight s.regs d
      if s.pwr.quiesce.contains d.val then (s.enterDomain d t).domainEntered d t else s
    | .device =>
      let t := devFlight s.regs
      if s.pwr.deviceQuiesce then ((if t = vDeep then s.toDeep else s.toStandby)).deviceEntered t else s)

/-- End a device entry in quiesce by a refuser (R364, R367). -/
def Px.abortDev (ref : Nat → Option Refuser) (p : Px) (u : Refuser) : Px :=
  if p.pwr.deviceQuiesce then
    let t := devFlight p.rep.regs
    let p : Px := { rep := (p.rep.refused 0 u).completeNow (deviceCmd t) stWrongState u.1,
                    pwr := { p.pwr with deviceQuiesce := false, latched := false, wake := 0 } }
    Px.nextDev ref (p.setDev Fd.PWR_DEVICE_in_flight noReq)
  else p

/-- QUIESCE_TIMEOUT (R364): reason 5, naming the first unit that had not agreed. -/
def execQuiesceTimeout (u : PowerUnit) (refuser : BitVec 16) (s : State) : Res :=
  .next (s.withPx (match u with
    | .dom d => s.px.abort s.refuser d (refuser.toNat, 5)
    | .device => s.px.abortDev (deviceRefuser s.regs s.cpl) (refuser.toNat, 5)))

/-- The device returns to Active (R361): SerDes groups with an enabled port, all segments, and the clusters of active role. -/
def State.toActive (s : State) : State :=
  let s := (List.range 4).foldl (fun s g => if (groupPort s.regs g).isSome then s.domainTo (20 + g) dOn else s) s
  let s := s.segsUp 28 36
  (List.range 18).foldl (fun s c => if role s.regs c = rActive ∧ clusterState s.regs c < 3 then s.clusterUp c else s) s

/-- The switch of a domain exit (R356, R359). -/
def State.exitDomain (s : State) (d : Nat) : State :=
  if isCluster d then s.clusterUp (d - 2) else { s with regs := putDom s.regs d dOn }

/-- The end of a domain exit (R359, R366): the request completes; a cluster on its way to another low state enters it; else the
pending request follows. -/
def State.domainExited (s : State) (d : Nat) : State :=
  let f := domFlight s.regs d
  let p := s.px
  let p : Px := { p with pwr := { p.pwr with exiting := p.pwr.exiting.filter (· != d) } }
  let p := (p.setDom d Fd.PWR_DOM_in_flight noReq).setDom d Fd.PWR_DOM_latched 0
  let p := if f = dOn then { p with rep := p.rep.completeNow (powerCmd d dOn) stOk 0 }
    else if f = noReq then p else Px.start s.refuser p d f
  s.withPx (if domFlight p.rep.regs d = noReq then Px.next s.refuser p d else p)

/-- POWER_EXIT_COMPLETE (R359, R361). -/
def execPowerExitComplete (u : PowerUnit) (s : State) : Res :=
  .next (match u with
    | .dom d => if s.pwr.exiting.contains d.val then (s.exitDomain d).domainExited d else s
    | .device =>
      if s.pwr.deviceExiting then
        let s := s.toActive
        let p := s.px
        let p : Px := { rep := p.rep.completeNow (deviceCmd vActive) stOk 0, pwr := { p.pwr with deviceExiting := false } }
        let p := (p.setDev Fd.PWR_DEVICE_in_flight noReq).setDev Fd.PWR_DEVICE_state vActive
        s.withPx (Px.nextDev (deviceRefuser s.regs s.cpl) p)
      else s)

/-- CLUSTER_NAP_WAKE (R360, R367). -/
def execClusterNapWake (c : Fin 18) (s : State) : Res := .next (s.wakeCluster c)

/-- A new lock epoch of one base (R331): the epoch counts, stepped is cleared, the servo starts anew; a base that was not UNSET is
ESTIMATED. -/
def Tx.epoch (x : Tx) (b : Nat) (keepState : Bool) : Tx :=
  let a := Rg.BLF_TB_STATUS b
  let st := tbState x.rep.regs b
  let regs := putR x.rep.regs a Fd.BLF_TB_STATUS_epoch (getR x.rep.regs a Fd.BLF_TB_STATUS_epoch + 1)
  let regs := putR regs a Fd.BLF_TB_STATUS_stepped 0
  let regs := putR regs a Fd.BLF_TB_STATUS_grade 0
  let regs := if keepState then regs else putTb regs b (if st = tbUnset then tbUnset else tbEstimated)
  ((x.anchor b).setRegs regs).setBase b (fun z => { z with
    slew := 0, target := 0, offsets := [], within := 0, announces := 0, pps := 0, masters := [], selected := none, lead := none })

/-- Error bound of the estimate after `n` slept ticks (R343). -/
def sleepError (regs : SMap Word) (xtal n : Nat) : Nat :=
  ((if getR regs Rg.BLF_KEEPER_STATUS Fd.BLF_KEEPER_STATUS_calibrated = 1 then 100 else 100000) + xtal) * n / 32768

/-- Advance the radio and system bases over a sleep of `n` keeper ticks (R343); the studio base counts on from its last value
(R330). -/
def State.baseWake (s : State) (n : Nat) : State :=
  let adv := n * rd64R s.regs Rg.BLF_KEEPER_RATIO_LO
  let p := s.blf.sleep.getD (s.phase 0, s.phase 2, s.phase 1)
  let x := s.tx
  let x := ((x.setPhase 0 (p.1 + adv)).setPhase 2 (p.2.1 + adv * 100000 / (98304 * 65536))).setPhase 1 p.2.2
  let x := ((x.epoch 0 false).epoch 1 false).epoch 2 false
  let x := x.setRegs (putTb x.rep.regs 1 tbUnset)
  let bound := fun (x : Tx) (b : Nat) =>
    if tbState x.rep.regs b = tbEstimated then
      x.setRegs (wrR x.rep.regs (Rg.BLF_TB_ERROR b) (BitVec.ofNat 32 (sleepError x.rep.regs (x.blf.base b).xtal n)))
    else x
  let x := bound (bound x 0) 2
  let x := x.setRegs (wr64R x.rep.regs Rg.BLF_SLEEP_LO n)
  s.withTx { x with blf := { x.blf with sleep := none } }

end Sys2Proof.Machine
end

