-- ==== Sys2Proof/Machine/Boot.lean ====
section
/-! DEFINITION. Reset, start-up and recovery (R351, R400 to R416): device reset, start-up stages, function reset, control pairs,
firmware slots, cluster repair; thermal warning and trip (R426, R427). -/
namespace Sys2Proof.Machine

/-- Strap code of the DAC (R400). -/
def strapCode (straps : BitVec 6) : Nat := if straps.getLsbD 4 then 0x80000 else 0

/-- Registers that show the straps (R351, R400), and the DRAM that region entry 1 covers at reset (R248). -/
def strapRegs (regs : SMap Word) (straps : BitVec 6) : SMap Word :=
  let regs := wrR regs Rg.BOOT_STRAPS (straps.setWidth 32)
  let regs := putR regs Rg.MEC_DDR_CONFIG Fd.MEC_DDR_CONFIG_density (b2n (straps.getLsbD 3))
  let regs := wrR regs (Rg.MEC_REGION_LIMIT 1) (BitVec.ofNat 32 (dramSize regs / 65536 - 1))
  let regs := putR regs Rg.SPN_CTRL Fd.SPN_CTRL_index (straps.toNat % 8)
  let regs := putR regs Rg.HDC_STATUS Fd.HDC_STATUS_strap_mid (b2n (straps.getLsbD 4))
  (List.range 4).foldl (fun m ch =>
    let w : Word := BitVec.ofNat 32 (strapCode straps)
    let m := wrR (wrR m (Rg.HDC_CH_CODE ch) w) (Rg.HDC_CH_CLEAR ch) w
    if clearInForce m then m else wrR m (Rg.HDC_CH_OUT ch) w) regs

/-- Registers of AON that a device reset leaves (R406): the power controller with its settings, the keeper, the
recorder's counters, the watchdog, the reset cause, latched DAC clears and the outputs they hold. -/
def aonRegs (regs : SMap Word) (causes : Nat) : SMap Word :=
  let pwr := regs.filter (fun e => winOf e.1 == 13 && !(decide (0x100 ≤ winOff e.1) && decide (winOff e.1 < 0x280)))
  let keep := [Rg.BLF_KEEPER_LO, Rg.BLF_KEEPER_HI, Rg.WTR_POWER_CYCLES,
    Rg.WTR_OP_SECONDS, Rg.BOOT_WDT_CTRL] ++ (List.range 4).map Rg.HDC_CH_OUT
  let m := keep.foldl (fun m a => wrR m a (rdR regs a)) pwr
  let m := wrR m Rg.HDC_STATUS (rdR regs Rg.HDC_STATUS &&& 0x0F)
  let m := wrR m Rg.PWR_DEVICE (regReset Rg.PWR_DEVICE)
  wrR m Rg.BOOT_RESET_CAUSE (BitVec.ofNat 32 ((rdR regs Rg.BOOT_RESET_CAUSE).toNat ||| causes))

/-- What flash and fuses hold, in a machine that is otherwise fresh (R401, R402). -/
def State.fromFlash (s : State) : State :=
  { State.reset with
    pending := s.pending, free := s.free, out := s.out
    mec := { State.reset.mec with repairs := s.mec.repairs, pendingRows := s.mec.pendingRows }
    wtr := { State.reset.wtr with flash := s.wtr.flash }
    boot := { State.reset.boot with
      straps := s.boot.straps, slotA := s.boot.slotA, slotB := s.boot.slotB, secCounter := s.boot.secCounter,
      uniqueId := s.boot.uniqueId } }

/-- Device reset (R406): every domain except AON is cleared. The debug port opens with the ROM stage (R405). Lantern's pins fall; in
Deep SLEEP_OUT falls (R421), and a clear that was latched takes effect (R353). -/
def State.deviceReset (s : State) (causes : Nat) : State :=
  let s := s.lanternStop
  let s := s.withDx s.dx.wake
  let s := { s with out := if inDeep s.regs && s.pwr.wake == 0 then .pin .sleepOut false :: s.out else s.out }
  let t := s.fromFlash
  { t with
    regs := strapRegs (aonRegs s.regs causes) s.boot.straps
    boot := { t.boot with inReset := s.boot.inReset, tripHold := s.boot.tripHold, powerUp := s.boot.powerUp }
    thm := s.thm }

/-- POWER_ON (R406): AON rises; the cause is bit 0, and the device waits for RESET_N. -/
def execPowerOn (s : State) : Res :=
  let t := s.fromFlash
  .next { t with
    regs := wrR [] Rg.BOOT_RESET_CAUSE 1
    boot := { t.boot with inReset := true, powerUp := true } }

/-- AON_SUPPLY_LOSS (R420): all state is lost but for flash and fuses, until the supply returns. -/
def execAonSupplyLoss (s : State) : Res :=
  let t := s.fromFlash
  .next { t with
    regs := wrR [] Rg.BOOT_RESET_CAUSE 0
    boot := { t.boot with inReset := true, powerUp := true } }

/-- RESET_ASSERT (R406). -/
def execResetAssert (s : State) : Res := .next (({ s with boot := { s.boot with inReset := true } }).deviceReset 2)

/-- RESET_RELEASE (R400, R403): the straps are sampled, and the boot ROM starts unless a trip holds the reset (R427). -/
def execResetRelease (straps : BitVec 6) (s : State) : Res :=
  .next (if s.boot.inReset then
      { s with
        regs := strapRegs s.regs straps
        boot := { s.boot with inReset := false, straps := straps } }
    else s)

/-- Stage of start-up. -/
def bootStage (regs : SMap Word) : Nat := getR regs Rg.BOOT_STATE Fd.BOOT_STATE_stage

/-- Set the stage. -/
def putStage (regs : SMap Word) (n : Nat) : SMap Word := putR regs Rg.BOOT_STATE Fd.BOOT_STATE_stage n

/-- A stage fails (R404): the FAILED stage, in which mailbox 0 is answered. -/
def State.bootFail (s : State) (stage cause : Nat) : State :=
  let regs := wrR s.regs Rg.BOOT_STATE (BitVec.ofNat 32 (cause % 65536 * 65536 + stage * 256 + 15))
  let s := { s with regs := putR regs Rg.PCE_MBX_GLOBAL Fd.PCE_MBX_GLOBAL_ready 1 }
  s.record 0x0101 s.ctrlUnit [stage, cause]

/-- The slot that runs, and the other. -/
def Boot.running (b : Boot) : Slot := if b.runsB then b.slotB else b.slotA
def Boot.other (b : Boot) : Slot := if b.runsB then b.slotA else b.slotB

/-- Replace the slot that runs, or the other. -/
def Boot.setRunning (b : Boot) (x : Slot) : Boot := if b.runsB then { b with slotB := x } else { b with slotA := x }
def Boot.setOther (b : Boot) (x : Slot) : Boot := if b.runsB then { b with slotA := x } else { b with slotB := x }

/-- Version and security version of an image header (R402). -/
def imgVersion (h : List Byte) : Nat := le h 4 4
def imgSecurity (h : List Byte) : Nat := le h 8 1

/-- Whether an image is valid (R402). -/
def imgValid (h : List Byte) (counter : Nat) : Bool :=
  le h 0 4 == 0x50534649 && Config.imageOk h && Config.keyGood (le h 9 1) && decide (counter ≤ imgSecurity h) &&
    decide (65536 ≤ le h 12 4) && decide (le h 12 4 ≤ 16773120)

/-- The clear codes of an image go to the DAC, the outputs to them with the limiter bypassed (R351); an erased field is no
code. -/
def State.loadClears (s : State) (h : List Byte) : State :=
  (List.range 4).foldl (fun s ch =>
    let w := le h (16 + 4 * ch) 4
    if w = 0xFFFFFFFF ∨ h = [] then s
    else
      let c := w % 0x100000
      let s := { s with regs := putR s.regs (Rg.HDC_CH_CLEAR ch) Fd.HDC_CH_CLEAR_code c }
      s.withDx (s.dx.setOut ch c)) s

/-- Row repairs of some field records (R259, R415): applied, or no spare row left. -/
def State.repairRows (s : State) (rs : List (Nat × Nat × Nat × Nat)) : State :=
  let t := ((List.range rs.length).zip rs).foldl (fun t e =>
    t.record (if s.rowLeft e.1 e.2 then 0x0150 else 0x0151) t.ctrlUnit [e.2.2.1, e.2.2.2.1 % 2 ^ 32, e.2.2.2.1 / 2 ^ 32]) s
  t.drawn rs.length

/-- Row repairs at start-up (R259, R415): every record is applied again. -/
def State.applyRepairs (s : State) : State :=
  let t := s.repairRows s.mec.repairs
  { t with mec := { t.mec with pendingRows := [] } }

/-- Pending row repairs of a cluster take effect at its function reset (R259, R414). -/
def State.clusterRepairs (s : State) (c : Nat) : State :=
  let own := fun (w : Nat) => memCluster w == some c
  let t := s.repairRows (s.mec.repairs.filter (fun r => r.1 == 1 && own r.2.2.1 && s.mec.pendingRows.contains r.2.2.1))
  { t with mec := { t.mec with pendingRows := t.mec.pendingRows.filter (fun w => !own w) } }

/-- The region table of R247. -/
def regionTable (regs : SMap Word) : SMap Word :=
  let put := fun (m : SMap Word) (n base limit ctrl : Nat) =>
    wrR (wrR (wrR m (Rg.MEC_REGION_BASE n) (BitVec.ofNat 32 base)) (Rg.MEC_REGION_LIMIT n) (BitVec.ofNat 32 limit))
      (Rg.MEC_REGION_CTRL n) (Fd.MEC_REGION_CTRL_code.set 1 ctrl)
  put (put (put regs 0 0x1000E00 0x10019FF 1) 1 0 (dramSize regs / 65536 - 1) 0) 2 0x1000000 0x1001FFF 0

/-- Psiwyn writes the tile images of a cluster into its shared segment (R358). -/
def State.writeImage (s : State) (c : Nat) : State :=
  (List.range 8).foldl (fun s k => s.memWrite s.ctrlUnit (sharedBase c + k * 0x20000)
    (clean ((List.range 0x20000).map (Config.tileImage (8 * c + k))))) s

/-- An active cluster at the end of a start-up (R358, R359, R403): from Off through Run, with the image copied to its tiles, to Doze, as
Standby has it. -/
def State.standBy (s : State) (c : Nat) : State := (s.clusterUp c).clusterDown c dDoze

/-- Roles after the built-in test (R17, R403): the first sixteen that passed are active, the others spare, those that failed
retired; images are written. Active clusters and their segments stand as Standby has them; Keep bits of segments 9 to 27 are set
(R356). -/
def State.assignRoles (s : State) (passed : BitVec 18) : State :=
  let s := { s with regs := wr64R s.regs Rg.PWR_KEEP_LO (rd64R s.regs Rg.PWR_KEEP_LO ||| 0x0FFFFE00) }
  (List.range 18).foldl (fun s c =>
    let before := ((List.range c).filter (fun d => passed.getLsbD d)).length
    let r := if !passed.getLsbD c then rRetired else if before < 16 then rActive else rSpare
    let s := ({ s with regs := putDom (putRole s.regs c r) (2 + c) dOff }).segUp (10 + c)
    if r = rRetired then s.segDown (10 + c)
    else if r = rActive then (s.writeImage c).standBy c
    else (s.writeImage c).segDown (10 + c)) s

/-- The recorder at start-up (R397): the sequence goes on after the newest record of flash; a power-up counts and is recorded, and the
seconds since then are added to those of that record. -/
def State.startRecorder (s : State) : State :=
  let regs := match s.wtr.flash with
    | [] => s.regs
    | (q, cyc, r) :: _ =>
      let m := wrR (wrR (wrR s.regs Rg.WTR_NEXT_SEQ (BitVec.ofNat 32 (q + 1))) Rg.WTR_OLDEST_SEQ (BitVec.ofNat 32 (q + 1)))
        Rg.WTR_PERSISTED_SEQ (BitVec.ofNat 32 (q + 1))
      if s.boot.powerUp then
        wrR (wrR m Rg.WTR_POWER_CYCLES (BitVec.ofNat 32 (cyc + 1))) Rg.WTR_OP_SECONDS
          (BitVec.ofNat 32 (r.seconds + (rdR m Rg.WTR_OP_SECONDS).toNat))
      else m
  let orderly := match s.wtr.flash with
    | [] => true
    | (_, _, r) :: _ => r.code == 0x0004
  let t := { s with regs := regs, boot := { s.boot with powerUp := false } }
  if s.boot.powerUp then t.record 0x0003 6 [b2n (!orderly)] else t

/-- Strict mode of every DMA engine ends (R403). -/
def leaveStrictAll (regs : SMap Word) : SMap Word :=
  (List.range 22).foldl (fun m e => putR m (Rg.DMA_ENG_STATUS e) Fd.DMA_ENG_STATUS_strict 0) regs

/-- DEVICE_WATCHDOG_EXPIRY (R409): a DAC clear is latched, and the device is reset with cause bit 2. -/
def execDeviceWatchdogExpiry (s : State) : Res :=
  let s := s.withDx (s.dx.cause Fd.HDC_STATUS_watchdog)
  .next (s.deviceReset 4)

/-- WATCHDOG_KICK (R409): the period starts anew. The expiry of a period is a command of its own, so no state shows the kick. -/
def execWatchdogKick (_v : Word) (s : State) : Res := .next s

/-- Whether FUNC_RESET accepts a unit (R408). -/
def resettable (u : Nat) : Bool :=
  [1, 2, 3, 4, 5, 6, 10].contains u || (decide (0x2000 ≤ u) && decide (u < 0x2012)) ||
  (decide (0x5240 ≤ u) && decide (u < 0x52C0) && u % 32 == 0) || (decide (0xA000 ≤ u) && decide (u < 0xA021)) ||
  (decide (0xB000 ≤ u) && decide (u < 0xB020) && u % 8 == 7)

/-- Registers of Drum after its reset (R48, R408): the settings stand, the wait stands, all else is at reset. -/
def drumResetRegs (regs : SMap Word) : SMap Word :=
  let scs := getR regs Rg.DRM_STATUS Fd.DRM_STATUS_master_scs_active
  let waits := getR regs Rg.DRM_STATUS Fd.DRM_STATUS_waiting
  let keep := [Rg.DRM_CTRL, Rg.DRM_TIME_OFFSET, Rg.DRM_GRACE]
  let m := keep.foldl (fun m a => wrR m a (rdR regs a)) (Map.clear (winBase 0) (winBase 1) regs)
  putR (putR m Rg.DRM_STATUS Fd.DRM_STATUS_waiting waits) Rg.DRM_STATUS Fd.DRM_STATUS_master_scs_active scs

/-- Drum is reset (R48, R408): while it runs, its resume tick is due. -/
def State.drumReset (s : State) : State :=
  let runs := s.flag Rg.DRM_STATUS Fd.DRM_STATUS_running
  { s with
    regs := drumResetRegs s.regs
    drum := { s.drum with cur := none, queue := [], faultAt := if runs then some s.rt else s.drum.faultAt } }

/-- Belfry is reset (R408): a new lock epoch; a base that had stepped is ESTIMATED; Drum then runs on an estimate; a DAC clear is
latched. -/
def State.belfryReset (s : State) : State :=
  let one := fun (x : Tx) (b : Nat) =>
    let stepped := tbStepped x.rep.regs b
    let x := x.epoch b true
    if stepped then x.setRegs (putTb x.rep.regs b tbEstimated) else x
  let x := (List.range 3).foldl one s.tx
  let x := { x with blf := { x.blf with ptp := x.blf.ptp.map (fun e => (e.1, e.2.map (fun p => { p with t1 := none, t2 := none, clients := [] }))), tod := none } }
  let s := s.withTx x
  let runs := s.flag Rg.DRM_STATUS Fd.DRM_STATUS_running
  let s := if runs then s.setF Rg.DRM_STATUS Fd.DRM_STATUS_estimated 1 else s
  s.withDx (s.dx.cause Fd.HDC_STATUS_belfry_reset)

/-- The holdover DAC is reset (R408): settings lost, outputs at their clear codes. -/
def State.hdcReset (s : State) : State :=
  (List.range 4).foldl (fun s ch =>
    let clear := dacClear s.regs ch
    let out := rdR s.regs (Rg.HDC_CH_OUT ch)
    let m := Map.clear (Rg.HDC_CH_CTRL ch) (Rg.HDC_CH_CTRL (ch + 1)) s.regs
    let m := wrR (wrR m (Rg.HDC_CH_CLEAR ch) (BitVec.ofNat 32 clear)) (Rg.HDC_CH_OUT ch) out
    let s := { s with regs := m, dac := { s.dac with gens := Map.erase ch s.dac.gens } }
    s.withDx (s.dx.setOut ch clear)) { s with dac := { s.dac with held := none } }

/-- Lantern is reset (R408): held packets are lost, the receiver starts in SEARCH; Psiwyn binds the queues as before. -/
def State.lanternReset (s : State) : State :=
  { s.lanternStop with
    regs := putR (wrR s.regs Rg.LNT_STATUS 0) Rg.LNT_SPI_CMD Fd.LNT_SPI_CMD_busy 0
    lnt := State.reset.lnt }

/-- Watchtower is reset (R408): the FIFO is lost, and a gap record names what it held. -/
def State.watchReset (s : State) : State :=
  let n := s.wtr.fifo.length
  let w := { s.wtr with fifo := [], supp := [] }
  let t := { s with regs := wtrStatus s.regs w, wtr := w }
  if n = 0 then t else (t.record 0x0005 6 [wtrNext s.regs, n]).raise 386 6 []

/-- The queue manager is reset (R408): the cache is lost; queues whose state had changed in it are broken (R278). -/
def State.queueReset (s : State) : State :=
  let dirty := (s.qm.cache.filter (·.dirty)).map (·.q)
  let x : Qx := s.qx
  let x := x.qm.ops.foldl (fun (x : Qx) o => x.answer o.agent o.q qFault []) x
  let x : Qx := { x with qm := { x.qm with cache := [], ops := [] } }
  let x := dirty.foldl (fun (x : Qx) q => let r := x.load q; r.1.breakQ q r.2) x
  s.withQx x

/-- A cluster is reset (R408): all of it but its shared segment. -/
def State.clusterReset (s : State) (c : Nat) : State := ((s.clusterLogicLost c).tileLost c 0).clusterRepairs c

/-- A system DMA engine is reset: its channels are IDLE, and strict mode holds. -/
def State.dmaReset (s : State) (e : Nat) : State :=
  { s with
    regs := Map.clear (Rg.DMA_ENG_CTRL e) (Rg.DMA_ENG_CTRL (e + 1)) s.regs
    dma := Map.clear (32 * e) (32 * e + 32) s.dma }

/-- An Ethernet port is reset (R408): the link is lost and trains again; what it has not delivered is erased (R91). -/
def State.portReset (s : State) (p : Nat) : State :=
  let streams := (s.eth.flows.filter (fun f => f.port == p)).map (·.stream)
  { s with
    regs := wrR s.regs (Rg.ETH_PORT_STATUS p) 0
    eth := { s.eth with blocks := s.eth.blocks.map (fun b =>
      if streams.contains b.stream && !b.written then { b with erased := true } else b) } }

/-- A span link is reset (R408): it trains; its retry buffer is lost. -/
def State.linkReset (s : State) (l : Nat) : State :=
  s.withSx (if s.flag (Rg.SPN_LINK_CTRL l) Fd.SPN_LINK_CTRL_enable then s.sx.train l else s.sx)

/-- What a function reset takes from a unit (R408). -/
def State.unitReset (s : State) (u : Nat) : State :=
  match u / 4096 with
  | 2 => s.clusterReset (u % 4096)
  | 5 => s.dmaReset (u % 4096 / 32)
  | 10 => s.portReset (u % 4096)
  | 11 => s.linkReset (u % 4096 / 8)
  | _ =>
    match u with
    | 1 => s.drumReset
    | 2 => { s with regs := putR s.regs Rg.PPT_STATUS Fd.PPT_STATUS_shed_level 0, ppt := { s.ppt with reserves := [], rebuilding := true } }
    | 3 => s.belfryReset
    | 4 => s.hdcReset
    | 5 => s.lanternReset
    | 6 => s.watchReset
    | 10 => s.queueReset
    | _ => s

/-- FUNC_RESET of a unit for a cause of record 0x0110 (R407, R408): refused, absorbed, or carried out; requests of its power domain
end. -/
def State.funcReset (s : State) (u : Nat) (hold : Bool) (cause : Nat) : State :=
  let a := Rg.BOOT_FUNC_STATUS
  if !resettable u then { s with regs := putR (putR s.regs a Fd.BOOT_FUNC_STATUS_refused 1) a Fd.BOOT_FUNC_STATUS_unit u }
  else if s.boot.resetUnits.contains u then s
  else
    let s := match domOfUnit u with
      | some d => s.withPx (s.px.ended d)
      | none => s
    let s := (s.unitReset u).endLease (unitAreas u)
    let s := { s with
      regs := putR (putR s.regs a Fd.BOOT_FUNC_STATUS_unit u) a Fd.BOOT_FUNC_STATUS_busy 1
      boot := { s.boot with
        resetUnits := u :: s.boot.resetUnits
        holdOff := if hold then u :: s.boot.holdOff else s.boot.holdOff } }
    s.record 0x0110 s.ctrlUnit [u, cause]

/-- FUNC_RESET (R407): a write of BOOT_FUNC_RESET. -/
def execFuncReset (v : Word) (s : State) : Res :=
  .next (s.funcReset (Fd.BOOT_FUNC_RESET_unit.get v) (Fd.BOOT_FUNC_RESET_hold_off.get v == 1) 1)

/-- FUNC_RESET_DONE (R407, R408): the functions in reset restart; a held cluster stays Off; Parapet's calendar is rebuilt. -/
def execFuncResetDone (s : State) : Res :=
  let us := s.boot.resetUnits
  let t := us.foldl (fun (t : State) u =>
    if u / 4096 = 2 ∧ s.boot.holdOff.contains u then t.clusterDown (u % 4096) dOff else t) s
  .next { t with
    regs := putR t.regs Rg.BOOT_FUNC_STATUS Fd.BOOT_FUNC_STATUS_busy 0
    drum := { t.drum with faultAt := if us.contains 1 ∧ t.drum.faultAt.isSome then some t.rt else t.drum.faultAt }
    ppt := { t.ppt with rebuilding := t.ppt.rebuilding && !us.contains 2 }
    boot := { t.boot with resetUnits := [], holdOff := [] } }

/-- A control pair by number. -/
def Boot.pair (b : Boot) (n : Nat) : Pair := if n = 0 then b.pair0 else b.pair1

/-- Replace a control pair. -/
def Boot.setPair (b : Boot) (n : Nat) (p : Pair) : Boot := if n = 0 then { b with pair0 := p } else { b with pair1 := p }

/-- The active pair. -/
def activePair (regs : SMap Word) : Nat := getR regs Rg.PCE_MBX_GLOBAL Fd.PCE_MBX_GLOBAL_active_pair

/-- Commands that a takeover aborts (R73): BUSY (a request that lost its mailbox to a PCIe reset among them, R327) or PENDING and not in
the journal; FW_ACTIVATE of an activation is committed. -/
def aborts (journal : List Nat) (activation : Bool) (c : Cmd) : Bool :=
  (c.phase == .busy || c.phase == .pending || (c.phase == .posted && c.lost)) && !journal.contains (c.tag + 65536 * c.dev) &&
    !(activation && c.code == 0x0B02)

/-- Commands under a takeover (R73): what is in the journal completes with OK, the rest that was BUSY or PENDING with ABORTED. -/
def Rep.takeoverCmds (r : Rep) (activation : Bool) : Rep :=
  let j := r.host.journal
  let busy := r.host.cmds.filter (fun c => c.phase != .pending && aborts j activation c)
  let r := busy.foldl (fun r c => match c.mbx with
    | some n => r.respond n c stAborted 0 []
    | none => r) r
  let r := r.completeNow (fun c => j.contains (c.tag + 65536 * c.dev)) stOk 0
  r.completeNow (aborts j activation) stAborted 0

/-- The request of a POWER_STATE_SET that is in flight or pending is dropped (R73). -/
def Px.dropReq (p : Px) (q : List Byte) : Px :=
  let t := le q 1 1
  if le q 0 1 = 1 then
    let d := le q 2 2
    let p := if domPending p.rep.regs d = t then p.setDom d Fd.PWR_DOM_pending noReq else p
    if domFlight p.rep.regs d = t then
      let p : Px := { p with pwr := { p.pwr with quiesce := p.pwr.quiesce.filter (· != d), exiting := p.pwr.exiting.filter (· != d) } }
      (p.setDom d Fd.PWR_DOM_in_flight noReq).setDom d Fd.PWR_DOM_latched 0
    else p
  else
    let p := if devPending p.rep.regs = t then p.setDev Fd.PWR_DEVICE_pending noReq else p
    let p : Px := if t = vDeep then { p with pwr := { p.pwr with downWait := false } } else p
    if devFlight p.rep.regs = t then
      ({ p with pwr := { p.pwr with deviceQuiesce := false, deviceExiting := false, latched := false } }).setDev Fd.PWR_DEVICE_in_flight noReq
    else p

/-- What the acceptance of a pending command did is undone, so that it has no effect (R73). DESIGN CHOICE (log entry 174): the registers
that it changed hold what they held, a cluster in repair is retired again, a stop or a start of Drum, a request to the power controller, a
link that trains, a staged image, an activation and a time of day are withdrawn; what has been lost on the way stays lost. -/
def State.undone (s : State) (c : Cmd) : State :=
  let p := c.payload
  let s := { s with regs := c.undo.foldl (fun m e => wrR m e.1 e.2) s.regs }
  match c.code with
  | 0x0104 => if s.flag Rg.DRM_STATUS Fd.DRM_STATUS_running then s else s.setF Rg.DRM_STATUS Fd.DRM_STATUS_waiting 0
  | 0x0105 => if s.flag Rg.DRM_STATUS Fd.DRM_STATUS_running then s.setF Rg.DRM_CTRL Fd.DRM_CTRL_enable 1 else s
  | 0x0303 =>
    if role s.regs (le p 0 1) = rRepair then ({ s with regs := putRole s.regs (le p 0 1) rRetired }).clusterDown (le p 0 1) dOff else s
  | 0x0501 => if le p 1 1 = 3 then { s with blf := { s.blf with tod := none } } else s
  | 0x0601 =>
    let a := Rg.SPN_LINK_STATUS (le p 0 1)
    let s := if s.flag (Rg.SPN_LINK_CTRL (le p 0 1)) Fd.SPN_LINK_CTRL_enable then s
      else { s with
        regs := putR (putR s.regs a Fd.SPN_LINK_STATUS_state lDown) a Fd.SPN_LINK_STATUS_width 0
        span := s.span.setLink (le p 0 1) Link.reset }
    let on := (List.range 4).any (fun l => s.flag (Rg.SPN_LINK_CTRL l) Fd.SPN_LINK_CTRL_enable)
    (s.withPx (s.px.dropReq (leBytes 1 1 ++ leBytes 1 (if on then dOff else dOn) ++ leBytes 2 24))).domFollow 24 on
  | 0x0801 => s.withPx (s.px.dropReq p)
  | 0x0B01 => { s with boot := { s.boot with staging := none } }
  | 0x0B02 => { s with boot := { s.boot with activate := none } }
  | _ => s

/-- The pending commands that a takeover aborts are undone, the last accepted first (R73). -/
def State.undoAll (s : State) (activation : Bool) : State :=
  (s.host.cmds.filter (fun c => c.phase == .pending && aborts s.host.journal activation c)).foldr (fun c s => s.undone c) s

/-- A takeover by the standby pair (R73, R410) for a cause of record 0x0120. Without a standby pair the active one is lost, and the
watchdog follows. -/
def State.takeover (s : State) (cause : Nat) : State :=
  let old := activePair s.regs
  let new := 1 - old
  let act := cause == 4
  if s.boot.pair new = .standby then
    let n := (s.host.cmds.filter (aborts s.host.journal act)).length
    let s := s.undoAll act
    let r := (s.rep.takeoverCmds act).revoke 3
    let note : Notif := ⟨if act then 7 else 4, 0, 0, 0, s.host.lastTick, s.rt,
      BitVec.ofNat 32 (if act then imgVersion s.boot.other.header else new), BitVec.ofNat 32 (if act then 0 else n)⟩
    let regs := putR (putR r.regs Rg.PCE_MBX_GLOBAL Fd.PCE_MBX_GLOBAL_ready 0) Rg.PCE_MBX_GLOBAL Fd.PCE_MBX_GLOBAL_takeover 1
    let r := { r with
      regs := putR regs Rg.PCE_MBX_GLOBAL Fd.PCE_MBX_GLOBAL_active_pair new
      host := { r.host with levels := 0, deferred := r.host.deferred ++ [note] } }
    let s := s.withRep r
    let s := { s with boot := { (s.boot.setPair new .active).setPair old (if act then .standby else .recovering) with
      failures := if act then s.boot.failures else (old, s.now) :: s.boot.failures } }
    s.record 0x0120 s.ctrlUnit [new, cause, n]
  else { s with
    regs := putR s.regs Rg.PCE_MBX_GLOBAL Fd.PCE_MBX_GLOBAL_ready 0
    boot := s.boot.setPair old .retired }

/-- A takeover under R410: during probation control returns to the old image, and the staged slot is emptied (R413). -/
def State.failover (s : State) (cause : Nat) : State :=
  let bad := imgVersion s.boot.running.header
  let t := s.takeover cause
  if s.boot.probation ∧ s.boot.pair (1 - activePair s.regs) = .standby then
    let t := { t with boot := { (t.boot.setRunning ⟨[], .empty⟩) with runsB := !s.boot.runsB, probation := false, activate := none } }
    t.record 0x0132 t.ctrlUnit [bad]
  else t

/-- CONTROL_LOCKSTEP_DISAGREE (R410). -/
def execControlLockstepDisagree (s : State) : Res := .next (s.failover 1)

/-- A pair uses poison from an address (R255, R410): the active pair yields; a standby pair is reset instead. -/
def State.machineCheck (s : State) (pair addr : Nat) : State :=
  let s := s.record 0x0122 (0x6000 + 2 * pair) [pair, addr % 2 ^ 32, addr / 2 ^ 32]
  if pair = activePair s.regs then s.failover 2
  else { s with boot := if s.boot.pair pair = .retired then s.boot else s.boot.setPair pair .recovering }

/-- CONTROL_MACHINE_CHECK (R255, R410). -/
def execControlMachineCheck (pair : Fin 2) (addr : Nat) (s : State) : Res := .next (s.machineCheck pair addr)

/-- HEARTBEAT_TIMEOUT (R410). -/
def execHeartbeatTimeout (s : State) : Res := .next (s.failover 3)

/-- TAKEOVER_COMPLETE (R73, R410): the new pair accepts doorbells, and what waited for it is posted. -/
def execTakeoverComplete (s : State) : Res :=
  let regs := putR (putR s.regs Rg.PCE_MBX_GLOBAL Fd.PCE_MBX_GLOBAL_takeover 0) Rg.PCE_MBX_GLOBAL Fd.PCE_MBX_GLOBAL_ready 1
  let r := { s.rep with regs := regs, host := { s.host with deferred := [], journal := [] } }
  .next (if s.flag Rg.PCE_MBX_GLOBAL Fd.PCE_MBX_GLOBAL_takeover then
      s.withRep (s.host.deferred.foldl (fun r n => r.notify n) r)
    else s)

/-- PAIR_RECOVERY (R411): a pair that passes becomes standby; one that fails, or has failed twice within 24 hours, is retired. -/
def execPairRecovery (pair : Fin 2) (pass : Bool) (s : State) : Res :=
  let recent := (s.boot.failures.filter (fun e => e.1 == pair.val && decide (s.now ≤ e.2 + dayUnits))).length
  let ok := pass && decide (recent < 2)
  .next (if s.boot.pair pair ≠ .recovering then s
    else if ok then { s with boot := s.boot.setPair pair .standby }
    else
      let s := { s with boot := s.boot.setPair pair .retired }
      s.record 0x0121 s.ctrlUnit [pair])

/-- The takeover of FW_ACTIVATE at a frame tick (R413): the pairs change places and the staged image runs under probation. -/
def State.activation (s : State) : State :=
  match s.boot.activate with
  | none => s
  | some _ =>
    if s.boot.probation then s
    else
      let t := s.takeover 4
      { t with boot := { t.boot with runsB := !s.boot.runsB, probation := true } }

/-- PROBATION_END (R413). -/
def execProbationEnd (s : State) : Res :=
  let h := s.boot.running.header
  let b := ((s.boot.setRunning { s.boot.running with state := .active }).setOther { s.boot.other with state := .staged })
  let s' := { s with boot := { b with
    probation := false, activate := none, secCounter := max s.boot.secCounter (imgSecurity h) } }
  let s' := s'.record 0x0131 s'.ctrlUnit [imgVersion h, imgSecurity h]
  .next (if s.boot.probation then s'.completeNow (isCmd 0x0B02) stOk 0 else s)

/-- FW_STAGE_DONE (R412): verified, programmed into the slot that does not run, self-tested. The status of a failed self-test is not
stated: a free value. -/
def execFwStageDone (selfTest : Bool) (s : State) : Res :=
  .next (match s.boot.staging with
    | none => s
    | some h =>
      let s := { s with boot := { s.boot with staging := none } }
      if !imgValid h s.boot.secCounter then s.completeNow (isCmd 0x0B01) stAuth 0
      else
        let s := { s with boot := s.boot.setOther ⟨h, .staged⟩ }
        let s := s.record 0x0130 s.ctrlUnit [imgVersion h, b2n (!s.boot.runsB)]
        if selfTest then s.completeNow (isCmd 0x0B01) stOk 0
        else (s.completeNow (isCmd 0x0B01) (s.peek 0 % 65536) 0).drawn 1)

/-- DEBUG_UNLOCK_EXPIRY (R405). -/
def execDebugUnlockExpiry (s : State) : Res := .next { s with boot := { s.boot with unlocked := false } }

/-- A repaired cluster returns as a spare; where fewer than 16 clusters hold work it is activated at once, the capacity of R15 being due
again (R18, R180). DESIGN CHOICE (log entry 165). -/
def Fx.returned (x : Fx) (c : Nat) : Fx :=
  let regs := x.rep.regs
  if ((List.range 18).filter (holdsWork regs x.ppt.failing)).length < 16 then
    ({ x with rep := { x.rep with regs := putRole regs c rActivating } }).charge (Config.activation c)
  else x

/-- CLUSTER_REPAIR_TEST_END (R182, R414). -/
def execClusterRepairTestEnd (c : Fin 18) (pass : Bool) (testStep : Word) (s : State) : Res :=
  let own := fun (k : Cmd) => isCmd 0x0303 k && le k.payload 0 1 == c.val
  .next (if role s.regs c ≠ rRepair then s
    else if pass then
      let s := s.writeImage c
      let s := { s with regs := wrR (putRole s.regs c rSpare) (Rg.PPT_CLUSTER c) (Fd.PPT_CLUSTER_role.set 0 rSpare) }
      let s := s.clusterDown c dOff
      let s := (s.record 0x0140 s.ctrlUnit [c]).completeNow own stOk 0
      s.withFx (s.fx.returned c)
    else
      let s := { s with regs := putRole s.regs c rRetired }
      let s := s.clusterDown c dOff
      (s.record 0x0141 s.ctrlUnit [c, testStep.toNat]).completeNow own stWrongState c)

/-- Whether a register holds its value over Deep: those of AON (R342, R354), the time bases (R343), the DAC, whose channels resume (R353),
the roles (R403), the host interface, which its own domain has reset; and the region table, which the memory that is kept needs (log
entry 198). -/
def keptInDeep (a : Nat) : Bool :=
  [10, 12, 13, 17].contains (winOf a) ||
    (decide (Rg.BLF_TB_CTRL 0 ≤ a) && decide (a < Rg.BLF_TB_CTRL 3)) ||
    [Rg.BLF_KEEPER_LO, Rg.BLF_KEEPER_HI, Rg.BLF_KEEPER_RATIO_LO, Rg.BLF_KEEPER_RATIO_HI, Rg.BLF_KEEPER_STATUS, Rg.BLF_SLEEP_LO,
      Rg.BLF_SLEEP_HI, Rg.WTR_POWER_CYCLES, Rg.WTR_OP_SECONDS].contains a ||
    (decide (Rg.PPT_CLUSTER 0 ≤ a) && decide (a < Rg.PPT_CLUSTER 18)) ||
    (decide (Rg.MEC_REGION_BASE 0 ≤ a) && decide (a < Rg.MEC_REGION_BASE 64))

/-- Registers after a wake with segment 9 kept: what Deep lost is at reset, with the straps as they were sampled (R400). -/
def wakeRegs (regs : SMap Word) (straps : BitVec 6) : SMap Word :=
  let m := regs.filter (fun e => keptInDeep e.1)
  let m := putR m Rg.MEC_DDR_CONFIG Fd.MEC_DDR_CONFIG_density (b2n (straps.getLsbD 3))
  let m := putR m Rg.SPN_CTRL Fd.SPN_CTRL_index (straps.toNat % 8)
  putRole m 0 (role m 0)

/-- What Deep lost beside the registers, where segment 9 is kept (R362): the logic of the control domain. What Psiwyn keeps in control
memory stands, the recorder's ring with it; the live table goes with DRAM. -/
def State.wokenShort (s : State) : State :=
  { s with
    regs := wakeRegs s.regs s.boot.straps
    drum := State.reset.drum
    eth := { State.reset.eth with flows := s.eth.flows }
    blf := { s.blf with ptp := [], txts := [], tlv := [], tod := none }
    lnt := State.reset.lnt
    evt := { State.reset.evt with
      live := if s.flag Rg.PWR_DEEP_CFG Fd.PWR_DEEP_CFG_dram_keep then s.evt.live else [] }
    wtr := { s.wtr with fifo := [], supp := [] }
    mec := { s.mec with merges := [], ceLog := [], cands := [], rmwBad := [], scrubStart := s.now, scrubbed := [], scrubDone := false } }

/-- Registers of Belfry that a wake with a full start-up keeps (R342, R343): the time bases, the ratio of the keeper, the sleep. -/
def keptOverWake (a : Nat) : Bool :=
  (decide (Rg.BLF_TB_CTRL 0 ≤ a) && decide (a < Rg.BLF_TB_CTRL 3)) ||
    [Rg.BLF_KEEPER_RATIO_LO, Rg.BLF_KEEPER_RATIO_HI, Rg.BLF_KEEPER_STATUS, Rg.BLF_SLEEP_LO, Rg.BLF_SLEEP_HI].contains a

/-- DEEP_WAKE_RESUME (R343, R353, R361, R403, R421): the bases advance over the sleep; with segment 9 kept and a matching image a
shortened start-up runs, else a full one. PPS_IN stays enabled while it is the source (R345). -/
def execDeepWakeResume (ticks : Nat) (hashOk : Bool) (s : State) : Res :=
  let short := hashOk && keepBit s.regs 9
  let t := (s.pass (ticks * 30000)).baseWake ticks
  let regs := putR t.regs Rg.PWR_WAKE_STATUS Fd.PWR_WAKE_STATUS_pin (b2n (s.pwr.wake.testBit 0))
  let regs := putR regs Rg.PWR_WAKE_STATUS Fd.PWR_WAKE_STATUS_alarm (b2n (s.pwr.wake.testBit 1))
  let regs := putR regs Rg.PWR_DEVICE Fd.PWR_DEVICE_state vStandby
  let regs := putDom (putDom (putDom regs 1 dOn) 25 dOn) 26 dOn
  let t := { t with
    regs := regs
    pwr := { t.pwr with wake := 0, latched := false } }
  let full := t.deviceReset 0
  let bases := t.regs.filter (fun e => keptOverWake e.1)
  let pps := fun (m : SMap Word) => putR m Rg.BLF_PPS_CTRL Fd.BLF_PPS_CTRL_in_enable
    (b2n (tbSource s.regs 0 == 2 && s.flag Rg.BLF_PPS_CTRL Fd.BLF_PPS_CTRL_in_enable))
  .next (if !inDeep s.regs || s.pwr.wake == 0 then s
    else if short then
      let u := t.wokenShort
      let u := u.withDx u.dx.wake
      { u with
        regs := pps (putR (putStage u.regs 1) Rg.PCE_MBX_GLOBAL Fd.PCE_MBX_GLOBAL_ready 0)
        boot := { u.boot with short := true } }
    else { full with
      now := t.now
      regs := pps (bases.foldl (fun m e => wrR m e.1 e.2) full.regs)
      boot := { full.boot with woken := true }
      blf := { full.blf with base0 := t.blf.base0, base1 := t.blf.base1, base2 := t.blf.base2 } })

/-- Sensors with new readings (R162). -/
def Thermal.read (t : Thermal) (rs : List Sensor) : Thermal :=
  { t with sensors := rs.foldl (fun m r => Map.set ⟨0, 0, true⟩ m r.id r) t.sensors }

/-- Temperatures of R426 in Q8.8. -/
def warnTemp : Int := 110 * 256
def tripTemp : Int := 118 * 256
def releaseTemp : Int := 100 * 256

/-- THERMAL_WARNING (R426): a valid sensor at or above 110 °C. -/
def execThermalWarning (r : Sensor) (s : State) : Res :=
  let s' := { s with thm := s.thm.read [r] }
  .next (if r.valid ∧ warnTemp ≤ r.temp then s'.raise 64 8 [] else s')

/-- Sensors whose self-check fails. -/
def Thermal.failing (t : Thermal) : Nat := (t.sensors.filter (fun e => !e.2.valid)).length

/-- Whether the comparator trips (R427). -/
def Thermal.trips (t : Thermal) : Bool :=
  t.sensors.any (fun e => e.2.valid && decide (tripTemp ≤ e.2.temp)) || decide (16 < t.failing)

/-- THERMAL_TRIP (R427): THERM_TRIP_N, a latched DAC clear, and a device reset that is held. -/
def execThermalTrip (rs : List Sensor) (s : State) : Res :=
  let s' := { s with thm := { s.thm.read rs with tripped := true } }
  let s' := (s'.raise 65 8 []).withDx ((s'.raise 65 8 []).dx.cause Fd.HDC_STATUS_thermal)
  let t := ({ s' with boot := { s'.boot with tripHold := true } }).deviceReset 8
  .next (if (s.thm.read rs).trips then { t with out := .pin .thermTripN false :: t.out } else { s with thm := s.thm.read rs })

/-- THERMAL_TRIP_RELEASE (R427): every valid sensor is below 100 °C; start-up begins unless RESET_N is asserted. -/
def execThermalTripRelease (rs : List Sensor) (s : State) : Res :=
  let t := s.thm.read rs
  let cool := t.sensors.all (fun e => !e.2.valid || decide (e.2.temp < releaseTemp)) && decide (t.failing ≤ 16)
  .next (if cool ∧ s.boot.tripHold then
      { s with
        thm := { t with tripped := false }
        boot := { s.boot with tripHold := false }
        out := .pin .thermTripN true :: s.out }
    else { s with thm := t })

end Sys2Proof.Machine
end

