-- ==== Sys2Proof/Machine/Bus.lean ====
section
/-! DEFINITION. The register bus (R6 to R11, R407) and the network-on-chip (R22 to R25): reads and writes of an agent, wherever
they lead; the registers whose write does more than its access code says. -/
namespace Sys2Proof.Machine

/-- Registers after a write of DRM_CTRL (R49, R51): the spacing stands while ticks are issued; enable starts the wait, or ends it.
`live` says that ticks are issued or a resume is due. DESIGN CHOICE (log entry 190): enable written back to 1 after a stop was asked and
before its frame tick cancels the stop. -/
def drumCtrlRegs (regs : SMap Word) (live : Bool) (v : Word) : SMap Word :=
  let a := Rg.DRM_CTRL
  let regs := putR regs a Fd.DRM_CTRL_start_mode (Fd.DRM_CTRL_start_mode.get v)
  let regs := if live then regs else putR regs a Fd.DRM_CTRL_master_scs (Fd.DRM_CTRL_master_scs.get v)
  let regs := putR regs a Fd.DRM_CTRL_enable (Fd.DRM_CTRL_enable.get v)
  putR regs Rg.DRM_STATUS Fd.DRM_STATUS_waiting (if live then 0 else Fd.DRM_CTRL_enable.get v)

/-- Drum issues ticks, or will resume after a fault (R48). -/
def State.drumLive (s : State) : Bool := s.flag Rg.DRM_STATUS Fd.DRM_STATUS_running || s.drum.faultAt.isSome

/-- A write of DRM_CTRL. -/
def State.drumCtrl (s : State) (v : Word) : State := { s with regs := drumCtrlRegs s.regs s.drumLive v }

/-- Contents of a field after a write, by its access code (R9). -/
def fieldWrite (c : Acc) (old v : Nat) : Nat :=
  match c with
  | .rw => v
  | .w1c => old - (old &&& v)
  | .w1s => old ||| v
  | .ro | .wo | .rc => old

/-- Contents of a register after a write, by the access codes of its fields (R9). -/
def plainWrite (d : RegD) (old v : Word) : Word :=
  d.fields.foldl (fun w f => Fld.set ⟨f.lo, f.width⟩ w (fieldWrite f.acc (Fld.get ⟨f.lo, f.width⟩ old) (Fld.get ⟨f.lo, f.width⟩ v))) old

/-- Contents of a register after a read: RC fields are cleared (R9). -/
def readClear (d : RegD) (old : Word) : Word :=
  d.fields.foldl (fun w f => if f.acc = .rc then Fld.set ⟨f.lo, f.width⟩ w 0 else w) old

/-- Write a register by its access codes alone. -/
def State.plain (s : State) (a : Nat) (v : Word) : State :=
  { s with regs := match findReg a with
    | some d => wrR s.regs a (plainWrite d (rdR s.regs a) v)
    | none => s.regs }

/-- Whether a core issues instructions (ZCR_CTRL.run). -/
def coreRuns (regs : SMap Word) (k : Nat) : Bool := getR regs (Rg.ZCR_CTRL k) Fd.ZCR_CTRL_run == 1

/-- Registers of core `k` when it starts (R210, R211): run, no fatal fault, thread level (log entry 15). -/
def runStartRegs (regs : SMap Word) (k : Nat) : SMap Word :=
  putR (putR (putR regs (Rg.ZCR_CTRL k) Fd.ZCR_CTRL_run 1) (Rg.ZCR_ESR1 k) Fd.ZCR_ESR1_fatal 0) (Rg.ZCR_STATUS k)
    Fd.ZCR_STATUS_level 0

/-- A write of ZCR_CTRL: run starts issue at ZCR_ENTRY, or stops it. -/
def State.runCtrl (s : State) (k : Nat) (v : Word) : State :=
  let start := Fd.ZCR_CTRL_run.get v == 1 && !coreRuns s.regs k
  { s with
    regs := if start then runStartRegs s.regs k else putR s.regs (Rg.ZCR_CTRL k) Fd.ZCR_CTRL_run (Fd.ZCR_CTRL_run.get v)
    cores := if start then
        Map.set Core.reset s.cores k { s.core k with pc := rdR s.regs (Rg.ZCR_ENTRY k), waiting := false, issuing := [] }
      else s.cores
    span := if start then s.span.forget (0x1000 + k) else s.span }

/-- Registers after a write of another register of a ZCR frame: acc_scale keeps its value against a reserved one; start and end of
an active loop level stand; VLIM is at most VLEN_B (R196, R226). -/
def zcrSetRegs (regs : SMap Word) (k o : Nat) (v : Word) : SMap Word :=
  let a := Rg.ZCR_CTRL k + o
  let w := match findReg a with
    | some d => plainWrite d (rdR regs a) v
    | none => 0
  let scale := Fd.ZCR_MODE_acc_scale.get v
  let level := (o - 0x20) / 16
  let depth := getR regs (Rg.ZCR_LOOP_DEPTH k) Fd.ZCR_LOOP_DEPTH_depth
  if o = 0x08 ∧ 3 ≤ scale ∧ scale ≤ 5 then
    wrR regs a (Fd.ZCR_MODE_acc_scale.set w (getR regs a Fd.ZCR_MODE_acc_scale))
  else if 0x20 ≤ o ∧ o < 0x60 ∧ o % 16 < 8 ∧ level < depth then regs
  else if o = 0xB0 then wrR regs a (BitVec.ofNat 32 (min 64 (Fd.ZCR_VLIM_vlim.get v)))
  else wrR regs a w

/-- A write of a ZCR register from outside the core (R211). -/
def State.zcrWrite (s : State) (k o : Nat) (v : Word) : State :=
  if o = 0 then s.runCtrl k v
  else if o = 0x68 then s.plain (Rg.ZCR_INT_PENDING k) v
  else if coreRuns s.regs k then s
  else { s with regs := zcrSetRegs s.regs k o v }

/-- Every span link is disabled. -/
def linksOff (regs : SMap Word) : Bool :=
  (List.range 4).all (fun l => getR regs (Rg.SPN_LINK_CTRL l) Fd.SPN_LINK_CTRL_enable == 0)

/-- Enable, squelch bit, lane and divider of a synchronous Ethernet output (R313). -/
def synceEnable (o : Nat) : Fld := if o = 0 then Fd.ETH_SYNCE_CTRL_enable0 else Fd.ETH_SYNCE_CTRL_enable1
def synceSquelched (o : Nat) : Fld := if o = 0 then Fd.ETH_SYNCE_CTRL_squelched0 else Fd.ETH_SYNCE_CTRL_squelched1
def synceLane (o : Nat) : Fld := if o = 0 then Fd.ETH_SYNCE_CTRL_lane0 else Fd.ETH_SYNCE_CTRL_lane1
def synceDiv (o : Nat) : Fld := if o = 0 then Fd.ETH_SYNCE_CTRL_div0 else Fd.ETH_SYNCE_CTRL_div1

/-- A receive lane holds lock: its bit in the status of the port that it belongs to (R311). -/
def laneLocked (regs : SMap Word) (lane : Nat) : Bool :=
  (List.range 4).any (fun d => decide (d ≤ lane) && (getR regs (Rg.ETH_PORT_STATUS (lane - d)) Fd.ETH_PORT_STATUS_lane_lock).testBit d)

/-- What a synchronous Ethernet output carries (R313): the recovered clock of its lane, or low while it is squelched or not enabled. -/
def synceOut (regs : SMap Word) (o : Nat) : Out :=
  let g := fun f => getR regs Rg.ETH_SYNCE_CTRL f
  if g (synceEnable o) = 1 ∧ g (synceSquelched o) = 0 then .synce o (g (synceLane o)) (g (synceDiv o) == 1)
  else .pin (if o = 0 then .synceOut0 else .synceOut1) false

/-- The synchronous Ethernet outputs that change. -/
def synceChanges (old new : SMap Word) : List Out :=
  ((List.range 2).filter (fun o => synceOut old o != synceOut new o)).map (synceOut new)

/-- A write of ETH_SYNCE_CTRL (R313). DEDUCED (log entry 215): an output that takes another lane is squelched where that lane holds no lock. -/
def State.synceCtrl (s : State) (v : Word) : State :=
  let p := s.plain Rg.ETH_SYNCE_CTRL v
  let regs := (List.range 2).foldl (fun m o =>
    let lane := getR m Rg.ETH_SYNCE_CTRL (synceLane o)
    if lane = s.getF Rg.ETH_SYNCE_CTRL (synceLane o) then m
    else putR m Rg.ETH_SYNCE_CTRL (synceSquelched o) (b2n !(laneLocked m lane))) p.regs
  { p with regs := regs, out := synceChanges s.regs regs ++ p.out }

/-- A register write takes effect (R9): what its block does with it beyond its access code, or that code alone. -/
def State.regSet (s : State) (a : Nat) (v : Word) : State :=
  let o := winOff a
  let p := s.plain a v
  match winOf a with
  | 0 => if o = 0 then s.drumCtrl v else p
  | 2 => s.zcrWrite (o / 0x1000) (o % 0x1000) v
  | 4 => if 0x100 ≤ o % 0x1000 ∧ o % 0x20 = 0x10 then s.latePop (o / 0x1000) ((o % 0x1000 - 0x100) / 0x20) v else p
  | 5 => if o = 0x48 then s.injectCtrl v else if 0x1000 ≤ o ∧ o % 16 = 8 then s.regionCtrl ((o - 0x1000) / 16) v else p
  | 6 =>
    let e := o / 0x8000
    let q := o % 0x8000
    let ch := (q - 0x100) / 0x40
    if q = 0 then { s with regs := engCtrlRegs s.regs e v }
    else if 0x100 ≤ q ∧ q % 0x40 = 0 then s.chCtrl e ch v
    else if 0x100 ≤ q ∧ q % 0x40 = 0x20 then s.chAbort e ch v
    else p
  | 7 => if o = 0x30 then s.inspect v else p
  | 8 =>
    if o = 0 then (if linksOff s.regs then p else s)
    else if 0x1000 ≤ o ∧ o % 0x1000 = 0 then s.linkCtrl (o / 0x1000 - 1) v
    else if 0x1000 ≤ o ∧ o % 0x1000 = 0x40 then s.scanCtrl (o / 0x1000 - 1) v
    else p
  | 9 => if o = 0x84000 then s.synceCtrl v else p
  | 10 =>
    if o = 0x80000 then { s with regs := mbxGlobalRegs s.regs v }
    else if 0x81000 ≤ o ∧ o < 0x82000 then
      let n := (o - 0x81000) / 16
      if o % 16 = 0 then s.withRep (s.rep.doorbell n v) else if o % 16 = 8 then s.withRep (s.rep.release n v) else p
    else if o = 0x82000 then s.withRep (s.rep.consumer v)
    else p
  | 11 =>
    if o = 0x1000 ∨ o = 0x2000 ∨ o = 0x3000 then s.tbCtrl (o / 0x1000 - 1) v
    else if o = 0x1008 ∨ o = 0x2008 ∨ o = 0x3008 then s.withTx (s.tx.setSlew (o / 0x1000 - 1) v)
    else if 0x8000 ≤ o ∧ o % 0x40 = 0x14 then s.txtsPop ((o - 0x8000) / 0x40) v
    else p
  | 12 =>
    if 0x100 ≤ o ∧ o % 0x100 = 0 then s.dacCtrl (o / 0x100 - 1) v
    else if 0x100 ≤ o ∧ o % 0x100 = 8 then p.withDx p.dx.driveClear else p
  | 13 =>
    if o = 4 then s.deviceRequest (Fd.PWR_DEVICE_REQ_target.get v)
    else if 0x300 ≤ o ∧ o < 0x480 then s.powerRequest ((o - 0x300) / 4) (Fd.PWR_DOM_REQ_target.get v)
    else p
  | 14 => if o = 0 then s.lntCtrl v else if o = 0x24 then s.spiCmd v else p
  | 15 =>
    if o < 0x200 ∧ o % 16 = 0 then s.clearStatus (o / 16) v
    else if o < 0x200 ∧ o % 16 = 4 then s.setEnable (o / 16) v
    else if o = 0x400 then { s with regs := snapCtrlRegs s.regs v } else p
  | 16 => if o = 0x30 then { s with regs := slotLatchRegs s.regs s.wtr v } else p
  | 17 =>
    if o = 0x10 then s.funcReset (Fd.BOOT_FUNC_RESET_unit.get v) (Fd.BOOT_FUNC_RESET_hold_off.get v == 1) 1 else p
  | _ => p

/-- Cluster whose frames hold a register. -/
def regCluster (a : Nat) : Option Nat :=
  match winOf a with
  | 2 => some (winOff a / 0x8000)
  | 3 => some (winOff a / 0x8000)
  | 4 => some (winOff a / 0x1000)
  | 6 => if winOff a / 0x8000 < 18 then some (winOff a / 0x8000) else none
  | _ => none

/-- A register belongs to a function in reset (R407). -/
def State.regHeld (s : State) (a : Nat) : Bool :=
  s.boot.resetUnits.any (fun u => u == unitOf a || (u / 4096 == 2 && regCluster a == some (u % 4096)))

/-- A write of `bs` to the register blocks (R7, R9, R407). -/
def State.regWrite (s : State) (a : Nat) (bs : List PByte) : State :=
  if s.regHeld a then s
  else if a % 4 ≠ 0 ∨ bs.length ≠ 4 ∨ anyP bs then s.accessError a
  else match findReg a with
    | some _ => s.regSet a (BitVec.ofNat 32 (leNat (vals bs)))
    | none => s

/-- The rate that a base applies now: frequency and slew terms (BLF_TB_RATE); the frequency term of the radio base steers the
oscillator; a system base that follows the radio base has its rate too (R336). -/
def State.rate (s : State) (b : Nat) : Int :=
  let z := s.blf.base b
  let slew := fun (c : Nat) (y : Base) => rampEnd y.slew y.target (slewRate s.regs c) (s.now - y.at_)
  (if b = 0 then 0 else z.freq) + slew b z + (if z.lead.isSome then slew 0 s.blf.base0 else 0)

/-- State of a segment that follows other domains (R354, R355): tile segments their clusters, control memory the control
domain. -/
def segState (regs : SMap Word) (sg : Nat) : Nat :=
  if sg = 9 then domState regs 1 else max (clusterState regs (2 * sg)) (clusterState regs (2 * sg + 1))

/-- What a register reads as (R9), without the effect of the read. -/
def State.view (s : State) (a : Nat) : Word :=
  let o := winOff a
  match winOf a with
  | 5 => if 0x1000 ≤ o ∧ o < 0x1400 ∧ o % 16 = 8 then regionCtrlView s.regs ((o - 0x1000) / 16) else s.rd a
  | 11 =>
    if 0x1000 ≤ o ∧ o < 0x4000 ∧ o % 0x1000 = 0x24 then BitVec.ofInt 32 (s.rate (o / 0x1000 - 1))
    else if 0x1000 ≤ o ∧ o < 0x4000 ∧ o % 0x1000 = 0x2C then
      BitVec.ofNat 32 (holdoverS s.regs (s.blf.base (o / 0x1000 - 1)) (o / 0x1000 - 1) s.now)
    else s.rd a
  | 13 =>
    if 0x180 ≤ o ∧ o < 0x1A8 then Fd.PWR_DOM_state.set (s.rd a) (segState s.regs ((o - 0x180) / 4)) else s.rd a
  | 15 => if o < 0x200 ∧ o % 16 = 12 then s.rd a ||| daggers (o / 16) else s.rd a
  | 14 => if o = 4 ∧ Fd.LNT_MOD_h.get (s.rd a) = 0 then Fd.LNT_MOD_h.set (s.rd a) 64 else s.rd a
  | _ => s.rd a

/-- Registers after a read of one (R9). -/
def readRegs (regs : SMap Word) (a : Nat) : SMap Word :=
  match findReg a with
  | some d => wrR regs a (readClear d (rdR regs a))
  | none => regs

/-- A read of `n` bytes from the register blocks: the state after. -/
def State.regRead (s : State) (a n : Nat) : State :=
  if s.regHeld a then s
  else if a % 4 ≠ 0 ∨ n ≠ 4 then s.accessError a
  else { s with regs := readRegs s.regs a }

/-- The snapshot word at an address of the EVT window (R387): bank 0 at 0x80000, bank 1 at 0xA0000. -/
def State.shadow (s : State) (a : Nat) : Option Word :=
  let o := winOff a
  if winOf a = 15 ∧ 0x80000 ≤ o ∧ o < 0xC0000 then
    some (Map.get 0 (s.evt.bank ((o - 0x80000) / 0x20000)) ((o - 0x80000) % 0x20000 / 4))
  else none

/-- A read of `n` bytes from the register blocks: the bytes (R7, R11, R407). -/
def State.regBytes (s : State) (a n : Nat) : List Byte :=
  if s.regHeld a ∨ a % 4 ≠ 0 ∨ n ≠ 4 then leBytes n 0
  else match findReg a with
    | some _ => leBytes 4 (s.view a).toNat
    | none => leBytes 4 ((s.shadow a).getD 0).toNat

/-- Cluster of an agent (R368), none for one outside the clusters. -/
def agentCluster (agent : Nat) : Option Nat :=
  match agent / 0x1000 with
  | 1 => some (agent % 0x1000 / 8)
  | 2 => some (agent % 0x1000)
  | 3 => some (agent % 0x1000 / 3)
  | 4 => some (agent % 0x1000)
  | 5 => if agent % 0x1000 / 32 < 18 then some (agent % 0x1000 / 32) else none
  | _ => none

/-- The cluster that an access from outside wakes from Nap: tile memory, ZCR, ZCL and CPL frames (R360). -/
def wokenBy (agent a : Nat) : Option Nat :=
  let c := if isReg a then (if winOf a = 6 then none else regCluster a)
    else if isSram a ∧ a - sramBase < 0x4800000 then some (tileCluster (a - sramBase)) else none
  if c = agentCluster agent then none else c

/-- An access wakes a cluster in Nap (R360, R367). -/
def State.napWake (s : State) (agent a : Nat) : State :=
  match wokenBy agent a with
  | some c => s.wakeCluster c
  | none => s

/-- The agent of the PCIe endpoint. -/
def hostAgent : Nat := 0xC000

/-- Cut an address range at its 64-byte bounds (R325). -/
def lines64 (a n : Nat) : List (Nat × Nat) :=
  ((List.range (n / 64 + 2)).map (fun i =>
    let lo := max a ((a / 64 + i) * 64)
    let hi := min (a + n) ((a / 64 + i + 1) * 64)
    (lo, hi - lo))).filter (fun e => e.2 != 0)

/-- Completions of a host read (R325): the last sent first in the list. -/
def completions (a : Nat) (bs : List PByte) : List Out :=
  ((lines64 a bs.length).map (fun e =>
    let p := (bs.drop (e.1 - a)).take e.2
    Out.completion (vals p) (anyP p))).reverse

/-- First byte of an access that meets a decode error (R24). -/
def State.decodeBad (s : State) (agent a n : Nat) : Option Nat :=
  match placeOf s.regs a with
  | .here x => if isReg x then none else (firstBad s.regs agent x n).map (fun b => b - x + a)
  | .there d _ x => if waitsFor agent then (s.span.answerBad agent d x n).map (fun b => b - x + a) else none
  | .nowhere => some a

/-- The event of a decode error that an agent meets: that of a remote access was raised by its answer (R24, R298, R306). -/
def State.decodeMet (s : State) (a : Nat) : State :=
  match placeOf s.regs a with
  | .there _ _ _ => s
  | _ => s.decodeError a

/-- Whether an instruction or a descriptor whose accesses led from `s` to `t` has to wait for answers of other devices: then only its
requests are kept, and it runs again when they are all there (log entry 171). -/
def State.settled (s t : State) (agent : Nat) : State :=
  if t.span.outstanding agent then { s with span := t.span } else { t with span := t.span.settle agent }

/-- The tile and shared memories of a cluster hold an address. -/
def ownMemory (c a : Nat) : Bool :=
  (decide (tileBase c ≤ a) && decide (a < tileBase c + 0x400000)) || (decide (sharedBase c ≤ a) && decide (a < sharedBase c + 0x800000))

/-- A write of a core or a DMA channel of a retired cluster to memory outside the cluster: it carries the generation that the units had
before the retirement (R44). -/
def State.staleFrom (s : State) (agent a : Nat) : Bool :=
  (agent / 0x1000 == 1 || agent / 0x1000 == 5) && (match agentCluster agent with
    | some c => role s.regs c == rRetired && !isReg a && !ownMemory c a
    | none => false)

/-- A register whose write takes effect for Psiwyn's alone: DMA_ENG_CTRL (R267). -/
def firmwareOnly (a : Nat) : Bool := winOf a == 6 && winOff a % 0x8000 == 0

/-- A write on the network-on-chip: memory, registers, another device, or a decode error; a stale one is discarded (R44). -/
def State.busWrite (s : State) (agent a : Nat) (bs : List PByte) : State :=
  if bs = [] then s
  else if s.staleFrom agent a then s.stale
  else match placeOf s.regs a with
  | .here x =>
    let s := s.napWake agent x
    if isReg x then (if firmwareOnly x && agent / 0x1000 != 6 then s else s.regWrite x bs) else s.memWrite agent x bs
  | .there d l x =>
    { s with span := if waitsFor agent then s.span.ask (ownIndex s.regs) agent d l x bs.length (some bs)
                     else s.span.request (ownIndex s.regs) agent d l x bs.length (some bs) }
  | .nowhere => s.decodeError a

/-- A read on the network-on-chip: the state after. -/
def State.busRead (s : State) (agent a n : Nat) : State :=
  if n = 0 then s
  else match placeOf s.regs a with
  | .here x =>
    let s := s.napWake agent x
    if isReg x then s.regRead x n else s.memRead agent x n
  | .there d l x =>
    if waitsFor agent then { s with span := s.span.ask (ownIndex s.regs) agent d l x n none }
    else { s with span := s.span.request (ownIndex s.regs) agent d l x n none, free := s.free + n }
  | .nowhere => s.decodeError a

/-- A read on the network-on-chip: the bytes. What another device answers to an agent that does not wait here is free: byte and poison
(log entry 32). -/
def State.busBytes (s : State) (agent a n : Nat) : List PByte :=
  match placeOf s.regs a with
  | .here x => if isReg x then clean (s.regBytes x n) else s.memBytes agent x n
  | .there d _ x =>
    if waitsFor agent then s.span.answerBytes agent d x n
    else (List.range n).map (fun i => ⟨BitVec.ofNat 8 (s.peek i), (s.peek i).testBit 8⟩)
  | .nowhere => poisoned (leBytes n 0)

/-- REGISTER_WRITE (R7, R9): a write of `size` bytes to a register. -/
def execRegisterWrite (addr size : Nat) (v : Word) (poison : Bool) (s : State) : Res :=
  .next (if isReg addr then s.regWrite addr ((leBytes size v.toNat).map (fun b => ⟨b, poison⟩)) else s)

/-- REGISTER_READ_CLEAR (R7, R9): the value goes out, RC fields are cleared. -/
def execRegisterReadClear (addr size : Nat) (s : State) : Res :=
  let t := s.regRead addr size
  .next (if isReg addr then t.emit (.regValue addr (BitVec.ofNat 32 (leNat (s.regBytes addr size)))) else s)

/-- Whether an address belongs to a register block or a remote window, and so to no memory (R22). -/
def notMemory (a : Nat) : Bool := isReg a || (windowOf a).isSome

/-- MEMORY_READ (R253, R254, R24): the bytes go to the agent, with their poison. -/
def execMemoryRead (agent addr len : Nat) (u : Upset) (s : State) : Res :=
  let t := s.napWake agent addr
  let r := t.mm.read agent addr len u
  .next (if notMemory addr then s else { t.withMm r.1 with out := .data agent r.2 :: r.1.rep.out })

/-- MEMORY_WRITE (R249, R252, R24). -/
def execMemoryWrite (agent addr : Nat) (data : List PByte) (s : State) : Res :=
  .next (if notMemory addr then s else (s.napWake agent addr).memWrite agent addr data)

end Sys2Proof.Machine
end

