-- ==== Sys2Proof/Machine/Coding.lean ====
section
/-! DEFINITION. What the descriptors of engine commands say of their blocks (R142, R144, R150): segmentation, rate matching and
mother codes as TS 38.212 and TS 36.212 give them (log entry 191); and the cycle counts that follow (R141, R148, R153, R154). -/
namespace Sys2Proof.Machine

/-- A code block of a transport block (R142): its size K, the payload bits that it carries, the filler bits in it, its coded bits E. -/
structure Block where
  k : Nat
  payload : Nat
  filler : Nat
  e : Nat
  deriving DecidableEq, Repr

/-- Smallest turbo block size of TS 36.212 that holds `n` bits. -/
def turboUp (n : Nat) : Nat :=
  if n ≤ 40 then 40
  else if n ≤ 512 then ceilDiv n 8 * 8
  else if n ≤ 1024 then ceilDiv n 16 * 16
  else if n ≤ 2048 then ceilDiv n 32 * 32
  else ceilDiv n 64 * 64

/-- The turbo block size before `k`. -/
def turboBelow (k : Nat) : Nat := k - (if k ≤ 512 then 8 else if k ≤ 1024 then 16 else if k ≤ 2048 then 32 else 64)

/-- Code blocks for `b` bits, CRC24A included, where a block holds `most` bits and each of several carries a CRC24B. -/
def blockCount (b most : Nat) : Nat := if b ≤ most then 1 else ceilDiv b (most - 24)

/-- Coded bits E of block `r` of `n`: whole symbols, shared out with the larger shares last. -/
def shareE (g sym n r : Nat) : Nat := sym * (g / sym / n + (if n - g / sym % n ≤ r then 1 else 0))

/-- Sizes of the `n` turbo blocks that hold `b` bits, filler bits in the first. -/
def turboSizes (b n : Nat) : List (Nat × Nat) :=
  let hi := turboUp (ceilDiv b n)
  let lo := turboBelow hi
  let short := if n = 1 then 0 else (n * hi - b) / (hi - lo)
  let fill := short * lo + (n - short) * hi - b
  (List.range n).map (fun r => (if r < short then lo else hi, if r = 0 then fill else 0))

/-- Code blocks of a transport block (R142): `sym` bits are a symbol's over its layers, qm times layers. A `zc` whose K is too small for
the blocks of `tbs` leaves no filler and fewer payload bits. DESIGN CHOICE (log entry 226): R142 gives no error for it. -/
def blocks (turbo : Bool) (tbs g zc bg sym : Nat) : List Block :=
  let b := tbs + 24
  let n := blockCount b (if turbo then 6144 else if bg = 1 then 8448 else 3840)
  let crc := if n = 1 then 0 else 24
  let all := b + n * crc
  let sizes := if turbo then turboSizes all n
    else
      let k := (if bg = 1 then 22 else 10) * zc
      List.replicate n (k, k - ceilDiv all n)
  ((List.range n).zip sizes).map (fun r =>
    { k := r.2.1, payload := r.2.1 - r.2.2 - crc - (if r.1 + 1 = n then 24 else 0), filler := r.2.2,
      e := shareE g (max 1 sym) n r.1 })

/-- Code blocks of a decoder descriptor (R142). -/
def decBlocks (d : List Byte) : List Block :=
  blocks (le d 0 1 == 2) (le d 40 4) (le d 44 4) (le d 48 2) (le d 50 1) (le d 51 1 / 16 * le d 52 1)

/-- Code blocks of an encoder descriptor (R150, R151). -/
def encBlocks (d : List Byte) : List Block :=
  blocks (le d 0 1 == 2) (le d 32 4) (le d 36 4) (le d 40 2) (le d 42 1) (le d 43 1 / 16 * le d 44 1)

/-- Byte at which the payload of block `i` starts in its transport block. -/
def payloadAt (bs : List Block) (i : Nat) : Nat := ((bs.take i).foldl (fun n b => n + b.payload) 0) / 8

/-- Lifting sizes of TS 38.212. -/
def isLifting (z : Nat) : Bool :=
  [2, 3, 5, 7, 9, 11, 13, 15].any (fun a => (List.range 8).any (fun j => z == a * 2 ^ j)) && decide (z ≤ 384)

/-- Whether a place of a circular buffer holds no coded bit: a filler bit, or a dummy bit of the turbo interleaver. -/
inductive BitPlace where
  | coded | filler | dummy
  deriving DecidableEq, Repr

/-- Column order of the turbo sub-block interleaver. -/
def turboCols : List Nat :=
  [0, 16, 8, 24, 4, 20, 12, 28, 2, 18, 10, 26, 6, 22, 14, 30, 1, 17, 9, 25, 5, 21, 13, 29, 3, 19, 11, 27, 7, 23, 15, 31]

/-- Rows of the turbo sub-block interleaver. -/
def turboRows (k : Nat) : Nat := ceilDiv (k + 4) 32

/-- BitPlace `p` of the turbo circular buffer of a block. -/
def turboBit (b : Block) (p : Nat) : BitPlace :=
  let r := turboRows b.k
  let m := 32 * r
  let gap := m - (b.k + 4)
  let i := if p < m then p else (p - m) / 2
  let third := !decide (p < m) && (p - m) % 2 == 1
  let col := nth 0 turboCols (i / r) + 32 * (i % r)
  let y := if third then (col + 1) % m else col
  if y < gap then .dummy else if y - gap < b.filler ∧ !third then .filler else .coded

/-- BitPlace `p` of the LDPC circular buffer of a block: the first 2 zc bits are never sent, the fillers follow the bits in use. -/
def ldpcBit (b : Block) (zc p : Nat) : BitPlace :=
  if b.k - b.filler - 2 * zc ≤ p ∧ p < b.k - 2 * zc then .filler else .coded

/-- Length of a block's circular buffer, at most `ncb`. -/
def ringLen (turbo : Bool) (b : Block) (zc bg ncb : Nat) : Nat :=
  min ncb (if turbo then 96 * turboRows b.k else if bg = 1 then 66 * zc else 50 * zc)

/-- Starting place of a redundancy version in a circular buffer of length `n`. -/
def ringStart (turbo : Bool) (b : Block) (zc bg rv n : Nat) : Nat :=
  if turbo then
    let r := turboRows b.k
    r * (2 * ceilDiv n (8 * r) * rv + 2) % max 1 n
  else
    let num := if bg = 1 then [0, 17, 33, 56] else [0, 13, 25, 43]
    let den := (if bg = 1 then 66 else 50) * max 1 zc
    nth 0 num rv * n / den * zc % max 1 n

/-- The values in the order of the circular buffer (R144): as many as it has coded places; values sent again join the first. -/
def foldSent (m : Nat) : Nat → List Byte → List Byte → List Byte
  | 0, acc, _ => acc
  | n + 1, acc, l =>
    if l = [] ∨ m = 0 then acc
    else
      let now := l.take m
      let acc := if acc = [] then now
        else ((List.range acc.length).zip acc).map (fun a => match now[a.1]? with | some v => Config.repeatLlr a.2 v | none => a.2)
      foldSent m n acc (l.drop m)

/-- Lay values over the places of a circular buffer (R144): fillers +127, places without a value 0. -/
def layOver : List BitPlace → List Byte → List Byte
  | [], _ => []
  | .filler :: ps, vs => 127 :: layOver ps vs
  | .dummy :: ps, vs => 0 :: layOver ps vs
  | .coded :: ps, [] => 0 :: layOver ps []
  | .coded :: ps, v :: vs => v :: layOver ps vs

/-- The E values of a block de-interleaved by qm (R144): sent bit i + j qm is coded bit i (E / qm) + j. -/
def deinterleave (qm : Nat) (l : List Byte) : List Byte :=
  let n := l.length / max 1 qm
  (List.range qm).flatMap (fun i => (List.range n).map (fun j => nth 0 l (i + j * qm)))

/-- The combined buffer of a block, of `ncb` bytes, from its E values (R144, steps 1 and 2). -/
def recovered (d : List Byte) (b : Block) (llrs : List Byte) : List Byte :=
  let turbo := le d 0 1 == 2
  let zc := le d 48 2
  let bg := le d 50 1
  let n := ringLen turbo b zc bg (le d 60 4)
  let at_ := ringStart turbo b zc bg (le d 51 1 % 4) n
  let ps := (List.range n).map (fun p => if turbo then turboBit b p else ldpcBit b zc p)
  let rot := ps.drop at_ ++ ps.take at_
  let m := (ps.filter (· == .coded)).length
  let vs := layOver rot (foldSent m llrs.length [] (deinterleave (le d 51 1 / 16) llrs))
  fit 0 (le d 60 4) (vs.drop (n - at_) ++ vs.take (n - at_))

/-- Least exponent of a power of two that is not below `n`. -/
def clog2 (n : Nat) : Nat := if n ≤ 1 then 0 else Nat.log2 (n - 1) + 1

/-- Segments of POLAR_UCI_DEC (R150). -/
def uciSegments (d : List Byte) : Nat :=
  if le d 0 1 = 5 ∧ (360 ≤ le d 32 4 ∧ 1088 ≤ le d 36 4 ∨ 1013 ≤ le d 32 4) then 2 else 1

/-- Information bits of a polar segment, CRC included (R150). -/
def polarK (d : List Byte) : Nat :=
  let a := le d 32 4
  match le d 0 1 with
  | 3 => max 12 a + 24
  | 4 => a + 24
  | _ => ceilDiv a (uciSegments d) + (if a < 12 then 0 else if a < 20 then 6 else 11)

/-- Greatest mother-code length of a polar operation (R150). -/
def polarMost (op : Nat) : Nat := if op = 5 then 10 else 9

/-- Mother-code length N of a polar command (R150, R153). -/
def polarN (d : List Byte) : Nat :=
  let op := le d 0 1
  if op = 4 then 512
  else
    let e := le d 36 4 / uciSegments d
    let k := polarK d
    let c := clog2 e
    let n1 := if 8 * e ≤ 9 * 2 ^ (c - 1) ∧ 16 * k < 9 * e then c - 1 else c
    2 ^ max 5 (min n1 (min (clog2 (8 * k)) (polarMost op)))

/-- Engine cycles of a matrix command (R141), `hidden` where its start cost is hidden. -/
def matrixCycles (d : List Byte) (hidden : Bool) : Nat :=
  let op := le d 0 1
  let m := le d 68 1
  let k := le d 69 1
  let n := le d 70 1
  let len := le d 76 2
  let batch := le d 74 2
  let work := match op with
    | 1 => batch * ceilDiv (4 * m * k * len) 2048
    | 2 => batch * ceilDiv (4 * (m * k + n * m) * len) 2048
    | 3 => batch * ceilDiv (4 * k * k * len) 2048
    | 4 => ceilDiv batch 32 * (6 * k + 16)
    | _ => ceilDiv batch 32 * 12 * k + batch * ceilDiv (4 * k * k * len) 2048
  work + if hidden then 0 else 40

/-- Cycles of one code block after `i` iterations (R148). -/
def blockCycles (d : List Byte) (b : Block) (i : Nat) : Nat :=
  if le d 0 1 = 2 then 16 + i * ceilDiv b.k 64
  else if le d 50 1 = 1 then i * ceilDiv (max (3 * b.k) (2 * b.e)) 480 else i * ceilDiv (max (3 * b.k) (2 * b.e)) 288

/-- Decoder cycles (R148): the iterations of each block. -/
def decoderCycles (d : List Byte) (its : List Nat) : Nat :=
  32 + (((decBlocks d).zip its).map (fun p => blockCycles d p.1 p.2)).foldl (· + ·) 0

/-- Encoder cycles (R153). -/
def encoderCycles (d : List Byte) : Nat :=
  let op := le d 0 1
  let n := polarN d
  let nlog := n * Nat.log2 n
  let per := if op = 1 then 40 else 32
  if op ≤ 2 then 32 + ((encBlocks d).map (fun b => max (ceilDiv b.k per) (ceilDiv b.e 128))).foldl (· + ·) 0
  else if op ≤ 4 then 16 + ceilDiv nlog 512 + ceilDiv (le d 36 4) 128
  else uciSegments d * (32 + 2 * n + ceilDiv (le d 50 1 * nlog) 64)

/-- Cycles that a command reserves (R154): start cost counted, every code block at the effective maximum of iterations, none done. Of the
cores' work (kind 0), for which the spec has no formula, the cycles are given. -/
def reserveCycles (kind : Nat) (d : List Byte) (given iters : Nat) : Nat :=
  match kind with
  | 1 => matrixCycles d false
  | 2 => decoderCycles d ((decBlocks d).map (fun _ => iters))
  | 3 => encoderCycles d
  | _ => given

end Sys2Proof.Machine
end

