-- ==== Sys2Proof/Machine/DrumCtl.lean ====
section
/-! DEFINITION. Drum's books (R33 to R44): items and output units, late items and their attribution, stale writes; and what is
delivered to host queues with retries (R106, R126, R240). -/
namespace Sys2Proof.Machine

/-- An output unit that nothing has opened. -/
abbrev OutUnit.reset : OutUnit := ⟨0, false, none, false⟩

/-- Symbols from reference `b` to reference `a`, in serial arithmetic (R34). -/
def refDiff (a b : Word) : Int := (sgn 28 (refSlot a + 2 ^ 28 - refSlot b)) * 14 + (refSym a : Int) - refSym b

/-- Normal length of a master slot in radio units (R29). DESIGN CHOICE (log entry 189): at 60 and 120 kHz the "full master slot" of R48 and
R49 is this length of 14 symbols, not that of a slot that starts on a 0.5 ms boundary. -/
def slotUnits (scs : Nat) : Nat := if scs ≤ 1 then 983040 / 2 ^ scs else 14 * symUnits scs

/-- Number of an output unit: store, carrier and index. Stores: 0 ingress ring, 1 egress ring, 2 and 3 slot store of uplink and
downlink, 4 and 5 code-block store of uplink and downlink, 6 guard copies, 7 the results of decoding. -/
def unitNo (store carrier index : Nat) : Nat := store * 0x100000 + carrier * 0x100 + index

/-- An output unit. -/
def Drum.unit (d : Drum) (u : Nat) : OutUnit := Map.get OutUnit.reset d.units u

/-- Replace an output unit. -/
def Drum.setUnit (d : Drum) (u : Nat) (v : OutUnit) : Drum := { d with units := Map.set OutUnit.reset d.units u v }

/-- An item by its identifier. -/
def Drum.item (d : Drum) (id : Nat) : Option Item := d.items.find? (fun i => i.id == id)

/-- Change an item. -/
def Drum.updItem (d : Drum) (id : Nat) (f : Item → Item) : Drum :=
  { d with items := d.items.map (fun i => if i.id = id then f i else i) }

/-- Change an item. -/
def State.updItem (s : State) (id : Nat) (f : Item → Item) : State := { s with drum := s.drum.updItem id f }

/-- An item is in flight: released, and neither complete nor expired. -/
def Item.inFlight (i : Item) : Bool := i.phase == .released || i.phase == .started

/-- An item has ended. -/
def Item.ended (i : Item) : Bool := i.phase == .complete || i.phase == .expired

/-- The item is executed by no cluster (R35, R91, R122). -/
def Item.noCluster (i : Item) : Bool := i.cluster == 0xFF

/-- The output unit of an item is held for it still: its free tick has not come (R43). -/
def Drum.holds (d : Drum) (i : Item) : Bool := (d.unit i.outUnit).freeTick == some i.outFree

/-- An expiry of an item is charged to its cluster (R40). -/
def Item.charged (i : Item) : Bool := decide (i.cluster < 18) && !i.lateInput

/-- An item runs: in flight, or past its watchdog and not done (R39). -/
def Item.runs (i : Item) : Bool := !i.done && (i.inFlight || i.phase == .expired)

/-- The generation that an item was released with is not its output unit's any more (R44). -/
def Drum.staleItem (d : Drum) (i : Item) : Bool := decide (i.cluster < 18) && i.gen != (d.unit i.outUnit).gen

/-- The unit that an item reads is marked late. -/
def Drum.inputLate (d : Drum) (i : Item) : Bool := (d.unit i.unitRef).late

/-- The grant of an identifier. -/
def Parapet.grant (p : Parapet) (id : Nat) : Option Grant := p.grants.find? (fun g => g.id == id)

/-- Change a grant. -/
def Parapet.updGrant (p : Parapet) (id : Nat) (f : Grant → Grant) : Parapet :=
  { p with grants := p.grants.map (fun g => if g.id = id then f g else g) }

/-- Status bits of results and reports (R106, R126). -/
def gOk : Nat := 0x01
def gLate : Nat := 0x02
def gPairedUl : Nat := 0x04
def gRescued : Nat := 0x08
def gReplayed : Nat := 0x10
def gErased : Nat := 0x20
def gGrantLate : Nat := 0x40

/-- The encoding item of a grant was late: all symbols of the grant go out muted (R124). A bit of the model's own, above the status. -/
def lateEncode : Nat := 0x100

/-- Set status bits of a grant. -/
def Grant.mark (g : Grant) (bits : Nat) : Grant := { g with status := g.status ||| bits }

/-- Symbols of a grant (R89, R111). -/
def grantSyms (raw : List Byte) : List Nat := ((List.range (le raw 17 1)).map (· + le raw 16 1)).filter (fun s => decide (s < 14))

/-- A grant, admitted, covers a symbol of a carrier slot. -/
def Grant.covers (g : Grant) (downlink : Bool) (carrier : Nat) (slot : Word) (symbol : Nat) : Bool :=
  g.downlink == downlink && g.admitted.isSome && le g.raw 8 2 == carrier && le g.raw 4 4 == slot.toNat &&
    (grantSyms g.raw).contains symbol

/-- An item works for a grant: one of the grant's own, or one of a symbol that the grant covers (R94, R114). -/
def Item.serves (i : Item) (g : Grant) : Bool :=
  match i.work with
  | .mapping | .precoding | .egress => g.covers true i.carrier i.slot i.symbol
  | .combining | .ingress => g.covers false i.carrier i.slot i.symbol
  | _ => i.grant != 0 && i.grant == g.id

/-- The other half of a paired decode (R105). -/
def Drum.otherHalf (d : Drum) (i : Item) : Option Item :=
  if i.half = 0 then none
  else d.items.find? (fun x => x.grant == i.grant && x.work == .decoding && x.half != 0 && x.half != i.half)

/-- What the lateness of an item does to its grant: a demapping or decoding item makes its block late (R107), unless the other half of
its pair may still release it (R105); an encoding item its report (R119, R126). -/
def Drum.marksGrant (d : Drum) (i : Item) : Bool :=
  i.work == .demapping || i.work == .encoding ||
    (i.work == .decoding && match d.otherHalf i with
      | some o => o.ended
      | none => true)

/-- Ingress blocks of a symbol that are missing are erased (R91). -/
def eraseMissing (bs : List Blk) (item : Nat) : List Blk :=
  bs.map (fun b => if b.item = item ∧ b.written = false then { b with erased := true } else b)

/-- Counter of a carrier that the lateness of an item adds to (R91, R122). -/
def Item.lateCounter (i : Item) : Option Nat :=
  match i.work with
  | .ingress => some (fwCarrier i.carrier 0)
  | .egress => some (fwCarrier i.carrier 4)
  | _ => none

/-- Counter of an expiry (R40). -/
def lateReg (charge : Bool) : Nat := if charge then Rg.DRM_LATE_COUNT else Rg.DRM_LATE_UPSTREAM

/-- The reports of a late item (R39): the event, the counters, the last late item. -/
def State.lateFw (s : State) (i : Item) (charge : Bool) : Fw :=
  let r := (s.rep.fire 0 1 [i.id, i.cluster]).bump (lateReg charge) 1
  let f : Fw := ⟨{ r with regs := wrR r.regs Rg.DRM_LAST_LATE_ITEM (BitVec.ofNat 32 i.id) }, s.evt⟩
  match i.lateCounter with
  | some off => f.bump off 1
  | none => f

/-- An item past its watchdog (R39): it runs on, unless it was never released or no cluster executes it. -/
def Item.expires (i : Item) : Item := { i with phase := .expired, done := i.done || i.phase == .admitted || decide (18 ≤ i.cluster) }

/-- The books of Drum after an item is late (R39): it has expired, its unit is late. -/
def Drum.lateUnit (d : Drum) (i : Item) : Drum :=
  let d := d.updItem i.id Item.expires
  d.setUnit i.outUnit { d.unit i.outUnit with late := true }

/-- An item is marked late (R39): reports, books, its grant; blocks still missing of an ingress symbol are erased (R91). -/
def State.lateMark (s : State) (i : Item) (charge : Bool) : State :=
  { s.withFw (s.lateFw i charge) with
    drum := s.drum.lateUnit i
    eth := { s.eth with blocks := if i.work = .ingress then eraseMissing s.eth.blocks i.id else s.eth.blocks }
    ppt := if s.drum.marksGrant i then s.ppt.updGrant i.grant (fun g => g.mark (if i.work = .encoding then gLate ||| lateEncode else gLate)) else s.ppt }

/-- An item is late (R39). It is charged to its cluster where `charge` holds (R40). -/
def State.late (s : State) (i : Item) (charge : Bool) : State :=
  if charge then (s.lateMark i charge).failCluster i.cluster causeWatchdog else s.lateMark i charge

/-- Enqueue something for the host; a rejected enqueue is counted for its flow and tried again at slot ticks (R106, R126, R240). -/
def State.deliver (s : State) (agent q : Nat) (entry : List Byte) (flow : Nat) (downlink : Bool) : State :=
  let r := s.qx.enqueue agent q (clean entry)
  let t := s.withQx r.1
  if r.2 = qOk then t
  else
    let t := t.flowBump flow (if downlink then 6 else 2) 1
    { t with ppt := { t.ppt with retries := t.ppt.retries ++ [⟨q, entry, none, flow, downlink, []⟩] } }

/-- The reference of a tick: its slot count and its symbol (R33). -/
def State.refOf (s : State) (t : Tick) : Word := tickRef t.slotC (symNo s.scs s.offset t.time % 14)

/-- The reference that Drum has reached: of the tick being handled, else of the last one handled. -/
def State.nowRef (s : State) : Word :=
  match s.drum.cur with
  | some t => s.refOf t
  | none => s.curRef

/-- Radio time of the watchdog edge of an item, on the time base as the last tick issued stands on it (R29, R37). -/
def State.edgeTime (s : State) (last : Tick) (edge : Word) : Nat :=
  symTime s.scs s.offset ((symNo s.scs s.offset last.time : Nat) + refDiff edge (s.refOf last)).toNat

/-- Radio time of the first symbol tick at or after `n` (a symbol number) that is a slot tick. -/
def State.slotFrom (s : State) (n : Nat) : Nat := symTime s.scs s.offset ((n + 13) / 14 * 14)

/-- Radio time of the slot tick at which the train resumes after a fault at `f` (R48): the first that starts at least one full master
slot later. -/
def State.resumeTime (s : State) (f : Nat) : Nat :=
  let n := symNo s.scs s.offset (f + slotUnits s.scs)
  s.slotFrom (if symTime s.scs s.offset n = f + slotUnits s.scs then n else n + 1)

/-- The item is on time (R38): its completion lies before its watchdog edge in radio time. In the gap of a fault no item completes whose
edge falls within the gap (R48), which is reckoned from now while the reset of Drum is under way (log entry 189); before a step is realigned, edges are compared by their references (R49); after a stop no watchdog
fires (R51). -/
def State.onTime (s : State) (i : Item) : Bool :=
  match s.drum.last with
  | none => true
  | some t =>
    if s.drum.stepAt.isSome then refAfter i.edge (s.refOf t)
    else match s.drum.faultAt with
      | some f => decide (s.resumeTime (if s.boot.resetUnits.contains 1 then max f s.rt else f) ≤ s.edgeTime t i.edge) &&
          decide (s.rt < s.edgeTime t i.edge)
      | none => !s.flag Rg.DRM_STATUS Fd.DRM_STATUS_running || decide (s.rt < s.edgeTime t i.edge)

end Sys2Proof.Machine
end

