-- ==== Sys2Proof/Machine/Plan.lean ====
section
/-! DEFINITION. The processing plan: where the items of a carrier slot lie in air time, what they read and write (R32, R41, R43, R94,
R96, R114, R115, R123, R127). Ticks are counted in master symbols from symbol 0 of the carrier slot. -/
namespace Sys2Proof.Machine

/-- Fields of a CARRIER_ADD payload (R82). -/
def carRat (p : List Byte) : Nat := le p 2 1
def carScs (p : List Byte) : Nat := if carRat p = 1 then 0 else le p 3 1
def carPrb (p : List Byte) : Nat := le p 6 2
def carAntDl (p : List Byte) : Nat := le p 8 1
def carAntUl (p : List Byte) : Nat := le p 9 1
def carLayersDl (p : List Byte) : Nat := le p 10 1
def carLayersUl (p : List Byte) : Nat := le p 11 1
def carSsb (p : List Byte) : Bool := carRat p == 1 || bit (le p 13 1) 1

/-- Newest age in slots at which SRS items are deferrable no longer (R82, R127). -/
def carAgeLimit (p : List Byte) : Nat := if le p 44 2 = 0 then 20 else le p 44 2

/-- Symbols that a carrier's PDCCH occupies in a slot: those of its valid CORESETs (R83, R112), or the control region of an LTE carrier
by its CFI (R82). -/
def ctlSyms (p : List Byte) : List Nat :=
  if carRat p = 1 then List.range (le p 54 2 / 32 % 4)
  else (List.range 4).filter (fun x => (List.range 16).any (fun i =>
    bit (le p (70 + 8 * i) 1) 0 && decide (le p (64 + 8 * i) 1 ≤ x) && decide (x < le p (64 + 8 * i) 1 + le p (65 + 8 * i) 1)))

/-- What the ticks of a carrier's items depend on: r of R32, D of R41, the timing of its ports (R317, R318) and the grace of each
stage. -/
structure Plan where
  r : Nat
  /-- An LTE carrier: its slot here is the subframe, of two LTE slots of 7 symbols (R32; log entry 41). -/
  lte : Bool
  d : Nat
  lead : Nat
  window : Nat
  /-- Lead that the C-plane is reckoned with (R318). -/
  cpLead : Nat
  adv : Nat
  grace : List Nat
  deriving DecidableEq, Repr

/-- Master symbols in a carrier slot (R114); an LTE carrier's slot is taken as its subframe of 14 symbols (log entry 41). -/
def Plan.t (p : Plan) : Int := 14 * p.r

/-- Carrier symbol of a subframe at which its LTE slot `j` begins (R32): 7·j, on master symbol 7·r·j. -/
def lteSlot (j : Nat) : Nat := 7 * j

/-- DMRS symbols of LTE PUSCH in a subframe: symbol 3 of each LTE slot. -/
def lteDmrs : List Nat := [lteSlot 0 + 3, lteSlot 1 + 3]

/-- DMRS symbols that the check of a plan takes. DESIGN CHOICE (log entry 166): R94 names none; the check takes symbol 2 for NR. -/
def Plan.dmrs0 (p : Plan) : List Nat := if p.lte then lteDmrs else [2]

/-- Grace of a stage. -/
def Plan.g (p : Plan) (stage : Nat) : Int := (nth 0 p.grace stage : Nat)

/-- Grace of every stage in force (R37). -/
def graces (regs : SMap Word) : List Nat := (List.range 7).map (fun i => getR regs Rg.DRM_GRACE ⟨2 * i, 2⟩)

/-- Greatest value of a field of ETH_PORT_TIMING over the ports of a carrier's flows of some directions; its reset value where none is
mapped. DESIGN CHOICE (log entry 216): the rules give a carrier one plan, and let its ports differ. -/
def portTiming (regs : SMap Word) (flows : List EFlow) (carrier : Nat) (dirs : List Nat) (f : Fld) (none_ : Nat) : Nat :=
  match (flows.filter (fun e => e.carrier == carrier && dirs.contains e.dir)).map (fun e => getR regs (Rg.ETH_PORT_TIMING e.port) f) with
  | [] => none_
  | l => l.foldl max 0

/-- The plan of a carrier under a master spacing. -/
def planOf (regs : SMap Word) (flows : List EFlow) (scs carrier : Nat) (payload : List Byte) : Plan :=
  { r := 2 ^ (scs - carScs payload)
    lte := carRat payload == 1
    d := 2 * 2 ^ carScs payload
    lead := portTiming regs flows carrier [1] Fd.ETH_PORT_TIMING_t_lead 2
    window := portTiming regs flows carrier [0] Fd.ETH_PORT_TIMING_rx_window_end 1
    cpLead := portTiming regs flows carrier [0, 1] Fd.ETH_PORT_TIMING_t_lead 2
    adv := portTiming regs flows carrier [0, 1] Fd.ETH_PORT_TIMING_cp_adv 2
    grace := graces regs }

/-- Master spacing that plans are made for (R27): the one in use; while Drum waits that of DRM_CTRL, while it is stopped at least as
wide as every carrier. -/
def State.planScs (s : State) : Nat :=
  if s.flag Rg.DRM_STATUS Fd.DRM_STATUS_running || s.drum.faultAt.isSome then s.scs
  else
    let c := s.getF Rg.DRM_CTRL Fd.DRM_CTRL_master_scs
    if s.flag Rg.DRM_STATUS Fd.DRM_STATUS_waiting then c
    else s.ppt.carriers.foldl (fun m e => match e.2 with | some k => max m (carScs k.payload) | none => m) c

/-- The plan of a carrier. -/
def State.plan (s : State) (carrier : Nat) (payload : List Byte) : Plan := planOf s.regs s.eth.flows s.planScs carrier payload

/-- Issue tick, deadline and watchdog edge of an item. -/
structure Win where
  issue : Int
  deadline : Int
  edge : Int
  deriving DecidableEq, Repr

/-- Combining of symbol `s` (R94). -/
def Plan.combining (p : Plan) (s : Nat) : Win :=
  let edge : Int := (s + p.d) * p.r
  ⟨(s + 1) * p.r, edge - p.g 2, edge⟩

/-- Ingress of symbol `s` (R94). -/
def Plan.ingress (p : Plan) (s : Nat) : Win :=
  let d : Int := (s + 1) * p.r + p.window
  ⟨(s + 1) * p.r, d, d + p.g 0⟩

/-- Greatest element of a list. -/
def maxInt (d : Int) (l : List Int) : Int := l.foldl max d

/-- An item of R94's rule 3: it issues at the latest edge of its producers, its deadline is one tick later. -/
def Plan.after (p : Plan) (issue : Int) (stage : Nat) : Win := ⟨issue, issue + 1, issue + 1 + p.g stage⟩

/-- Estimation over symbols that carry DMRS (R94). -/
def Plan.estimation (p : Plan) (dmrs : List Nat) : Win := p.after (maxInt 0 (dmrs.map (fun s => (p.combining s).edge))) 2

/-- Demapping of symbol `s`. -/
def Plan.demapping (p : Plan) (dmrs : List Nat) (s : Nat) : Win :=
  p.after (max (p.estimation dmrs).edge (p.combining s).edge) 4

/-- Decoding after the demapping of some symbols (R94). -/
def Plan.decoding (p : Plan) (dmrs data : List Nat) : Win :=
  ⟨maxInt (p.estimation dmrs).edge (data.map (fun s => (p.demapping dmrs s).edge)), 2 * p.t - p.g 4, 2 * p.t⟩

/-- Encoding (R114). -/
def Plan.encoding (p : Plan) : Win := ⟨-2 * p.t + 1, -p.t - p.g 5, -p.t⟩

/-- Mapping (R114). -/
def Plan.mapping (p : Plan) : Win := ⟨-p.t, -p.t + 3, -p.t + 3 + p.g 5⟩

/-- Send deadline of symbol `s` (R114). -/
def Plan.send (p : Plan) (s : Int) : Int := s * p.r - p.lead

/-- Egress of symbol `s` (R114). -/
def Plan.egress (p : Plan) (s : Nat) : Win :=
  let e := p.send s
  ⟨e - p.g 1 - 1, e - p.g 1, e⟩

/-- Precoding of symbol `s` (R114). -/
def Plan.precoding (p : Plan) (s : Nat) : Win :=
  let edge := (p.egress s).issue
  ⟨max p.mapping.edge (p.send ((s : Int) - p.d)), edge - p.g 3, edge⟩

/-- Derivation after the slot's SRS symbols (R127). -/
def Plan.derivation (p : Plan) (syms : List Nat) : Win :=
  let i := maxInt 0 (syms.map (fun s => (p.combining s).edge))
  ⟨i, i + 1, i + 2⟩

/-- SSB build, from the frame tick, with the symbols of a frame (R123). -/
def Plan.build (p : Plan) (frame : Nat) : Win := ⟨14, (frame : Int) - 28 - p.g 3, (frame : Int) - 28⟩

/-- C-plane send tick of a slot (R318). -/
def Plan.cplane (p : Plan) : Int := -(p.cpLead : Int) - p.g 1 - 1 - p.adv

/-- Every window of a carrier slot, as R94 and R114 check them: a deadline after its issue. The uplink ones are those of a grant with
the DMRS of `Plan.dmrs0` and data up to symbol 13. -/
def Plan.windows (p : Plan) (ul dl : Bool) : List Win :=
  let all := List.range 14
  (if ul then all.map p.combining ++ all.map p.ingress ++
    [p.estimation p.dmrs0, p.demapping p.dmrs0 13, p.decoding p.dmrs0 [13]] else []) ++
  (if dl then [p.encoding, p.mapping] ++ all.map p.egress ++ all.map p.precoding else [])

/-- The plan holds (R43, R94, R114, R120): every deadline lies after its issue, every ingress edge no later than the combining edge, and
every reader ends by the free tick of what it reads; `ctl` are the symbols whose precoding reads PDCCH from the code-block store, free
at the slot's start (R96, R115). -/
def Plan.ok (p : Plan) (ul dl : Bool) (ctl : List Nat) : Bool :=
  (p.windows ul dl).all (fun w => decide (w.issue < w.deadline)) &&
  (!ul || (List.range 14).all (fun s => decide ((p.ingress s).edge ≤ (p.combining s).edge))) &&
  (!ul || decide ((p.demapping p.dmrs0 13).edge ≤ 2 * p.t)) &&
  (!dl || (decide (p.mapping.edge ≤ 0) && decide ((p.precoding 13).edge ≤ p.t) &&
    ctl.all (fun s => decide ((p.precoding s).edge ≤ 0))))

/-- A tick reference moved by symbols. -/
def refShift (r : Word) (n : Int) : Word := if 0 ≤ n then refPlus r n.toNat else refMinus r (-n).toNat

/-- Master slot within the frame that a reference names, from the position of the present one (R31). -/
def State.frameSlot (s : State) (r : Word) : Nat :=
  let here : Int := s.getF Rg.DRM_POSITION Fd.DRM_POSITION_slot
  ((here + sgn 28 (refSlot r + 2 ^ 28 - refSlot s.curRef)) % (slotsPerFrame s.scs : Int)).toNat

/-- Codes of an item's work for `Config.commands`. -/
def Work.code : Work → Nat
  | .ingress => 0 | .combining => 1 | .estimation => 2 | .demapping => 3 | .decoding => 4 | .encoding => 5 | .mapping => 6
  | .precoding => 7 | .egress => 8 | .ssb => 9 | .srs => 10 | .derive => 11 | .measure => 12 | .control => 13

/-- Stage of an item's work (R35). -/
def Work.stage : Work → Nat
  | .ingress => 0 | .egress => 1 | .combining => 2 | .estimation => 2 | .srs => 2 | .derive => 2
  | .precoding => 3 | .ssb => 3 | .demapping => 4 | .decoding => 4 | .control => 4
  | .encoding => 5 | .mapping => 5 | .measure => 6

/-- Engine of an item's work, by which its reservation counts (R157; log entry 42). -/
def Work.kind : Work → Nat
  | .decoding => 2 | .encoding => 3 | .ssb => 3 | .mapping => 0 | .measure => 0 | .control => 0 | .ingress => 0 | .egress => 0
  | _ => 1

/-- An item of a carrier slot before its admission: what it reads and writes, its window from the slot's reference. -/
def mkItem (slot : Word) (w : Win) (work : Work) (cls carrier symbol grant inUnit outUnit : Nat) (free : Int) : Item :=
  { id := 0, issue := refShift slot w.issue, deadline := refShift slot w.deadline, cls := cls, stage := work.stage, flags := 0,
    kind := work.kind, energy := 0, cycles := 0, cluster := 0xFF, gen := 0, unitRef := inUnit, outUnit := outUnit,
    edge := refShift slot w.edge, phase := .admitted, work := work, carrier := carrier, slot := slot, symbol := symbol, grant := grant,
    gate := none, lateInput := false, level := 0, half := 0, outFree := refShift slot free, outcome := none }

/-- A symbol of a grant carries DMRS (R89, R111): by its mask; in LTE, symbol 3 of each slot. -/
def isDmrs (lte : Bool) (raw : List Byte) (s : Nat) : Bool := if lte then lteDmrs.contains s else bit (le raw 22 2) s

/-- Symbols of a grant that carry DMRS; all of it where none does. -/
def grantDmrs (lte : Bool) (raw : List Byte) : List Nat :=
  let d := (grantSyms raw).filter (isDmrs lte raw)
  if d = [] then grantSyms raw else d

/-- Symbols of a grant that are demapped: those without DMRS (the plan of R94). -/
def grantData (lte : Bool) (raw : List Byte) : List Nat := (grantSyms raw).filter (fun s => !isDmrs lte raw s)

/-- Ring unit of symbol `s` of carrier slot `j` of the frame (R90). -/
def ringUnit (store : Nat) (p : Plan) (carrier j s : Nat) : Nat := unitNo store carrier ((14 * j + s) % p.d)

/-- The unit of a grant in the code-block store, or of its decoding: one transport block (R43, R102, R119). Grants are numbered throughout, so
no two share one. -/
def cbUnit (store carrier grant : Nat) : Nat := unitNo store carrier 0 + 0x1000000 * (grant + 1)

/-- A unit that the work of a carrier slot beside its grants writes: SRS, PUCCH and PRACH, measurements. -/
def workUnit (carrier j k : Nat) : Nat := unitNo 7 carrier (j % 2 * 128 + k)

/-- Items of an uplink grant (R94, R105): estimation, demapping, decoding, the latter as two halves for a protected flow. -/
def ulItems (p : Plan) (slot : Word) (carrier j cls grant : Nat) (paired : Bool) (raw : List Byte) : List Item :=
  let su := unitNo 2 carrier (j % 2)
  let cb := cbUnit 4 carrier grant
  let dm := grantDmrs p.lte raw
  let da := grantData p.lte raw
  let mk := fun (w : Win) (k : Work) (sym i o : Nat) => mkItem slot w k cls carrier sym grant i o (2 * p.t)
  let dec := mk (p.decoding dm da) .decoding 13 cb (cbUnit 7 carrier grant)
  mk (p.estimation dm) .estimation 0 su su :: da.map (fun s => mk (p.demapping dm s) .demapping s su cb) ++
    (if paired then [{ dec with half := 1, flags := 1 }, { dec with half := 2, flags := 1 }] else [dec])

/-- Items that a carrier slot brings in the uplink (R91, R94): ingress of every symbol, combining of the symbols in use. -/
def ulSlotItems (p : Plan) (slot : Word) (carrier j cls : Nat) (syms : List Nat) : List Item :=
  (List.range 14).map (fun s =>
    mkItem slot (p.ingress s) .ingress 0 carrier s 0 (ringUnit 0 p carrier j s) (ringUnit 0 p carrier j s) ((s + p.d) * p.r)) ++
  syms.map (fun s =>
    mkItem slot (p.combining s) .combining cls carrier s 0 (ringUnit 0 p carrier j s) (unitNo 2 carrier (j % 2)) (2 * p.t))

/-- The encoding item of a downlink grant or PDCCH descriptor (R114, R115). -/
def encodeItem (p : Plan) (slot : Word) (carrier cls grant : Nat) : Item :=
  mkItem slot p.encoding .encoding cls carrier 0 grant (cbUnit 5 carrier grant) (cbUnit 5 carrier grant) 0

/-- Mapping of a symbol (R114, R115), of which there is one for each symbol: `grant` is the first grant that covers it, 0 for none, of
which it reads no block. -/
def mapItem (p : Plan) (slot : Word) (carrier j cls grant s : Nat) : Item :=
  let u := unitNo 3 carrier ((j + 1) % 2)
  mkItem slot p.mapping .mapping cls carrier s 0 (if grant = 0 then u else cbUnit 5 carrier grant) u p.t

/-- Precoding and egress of every symbol of a downlink carrier slot (R114, R122). -/
def dlSlotItems (p : Plan) (slot : Word) (carrier j cls : Nat) : List Item :=
  (List.range 14).flatMap (fun s =>
    let u := ringUnit 1 p carrier j s
    [mkItem slot (p.precoding s) .precoding cls carrier s 0 (unitNo 3 carrier ((j + 1) % 2)) u (p.send s),
     mkItem slot (p.egress s) .egress 0 carrier s 0 u u (p.send s)])

/-- SRS items of a carrier slot (R127): the covariance of each symbol and the derivation. -/
def srsItems (p : Plan) (slot : Word) (carrier j cls : Nat) (syms : List Nat) : List Item :=
  if syms = [] then []
  else
    let w := p.derivation syms
    syms.map (fun s => mkItem slot (p.combining s) .srs cls carrier s 0 (ringUnit 0 p carrier j s) (workUnit carrier j 0) w.edge) ++
      [mkItem slot w .derive cls carrier 13 0 (workUnit carrier j 0) (workUnit carrier j 1) w.edge]

/-- PUCCH, PRACH and measurement items of a symbol (R155, R167): after its combining. -/
def slotWorkItem (p : Plan) (slot : Word) (carrier j : Nat) (protected_ : Bool) (s : Nat) : Item :=
  mkItem slot (p.after (p.combining s).edge 4) (if protected_ then .control else .measure) (if protected_ then 0 else 2) carrier s 0
    (unitNo 2 carrier (j % 2)) (workUnit carrier j 2) (2 * p.t)

/-- Items that a tick releases at most (R46, R159). -/
def releaseLimit : Nat := 4096

/-- SSB build items of a frame (R123): one for each SSB index sent, into the copy for the next frame. -/
def buildItems (p : Plan) (frame : Word) (carrier frameC symbols : Nat) (payload : List Byte) : List Item :=
  let sent := if carRat payload = 1 then [0] else (List.range 64).filter (fun i => bit (le payload 32 8) i)
  let u := unitNo 6 carrier ((frameC + 1) % 3)
  sent.map (fun i => mkItem frame (p.build symbols) .ssb 0 carrier i 0 u u (2 * (symbols : Int)))

/-- The SSB period in frames, at least 1 (R82). -/
def ssbFrames (payload : List Byte) : Nat := 2 ^ (le payload 26 1 - 1)

end Sys2Proof.Machine
end

