-- ==== Sys2Proof/Machine/Parapet.lean ====
section
/-! DEFINITION. Parapet's checks (R156 to R173): prices, the reservation calendar, demand and replay in time, energy and heat,
placement, the shed level. -/
namespace Sys2Proof.Machine

/-- Where offsets in master symbols from the present slot tick lie in radio time (R29). -/
structure Clk where
  scs : Nat
  off : Int
  n0 : Nat
  deriving DecidableEq, Repr

/-- Radio time of the tick `k` symbols on. -/
def Clk.time (c : Clk) (k : Int) : Nat := symTime c.scs c.off ((c.n0 : Int) + k).toNat

/-- The clock of the present tick. -/
def State.clk (s : State) : Clk :=
  ⟨s.scs, s.offset, symNo s.scs s.offset (match s.drum.cur with | some t => t.time | none => s.rt)⟩

/-- Master slots of the calendar (R156). -/
def horizon (scs : Nat) : Nat := max 64 (2 * slotsPerFrame scs)

/-- Capacity factor and clock of an engine (R157). -/
def engFactor (x : Nat) : Nat := if x = 0 then 7 else 1
def engHz (x : Nat) : Nat :=
  match x with | 0 => 1600000000 | 1 => 1200000000 | 2 => 1000000000 | 3 => 1000000000 | _ => 2000000000

/-- Capacity of engine `x` over an interval in radio units (R157). -/
def engCap (x du : Nat) : Nat := engFactor x * (du * engHz x / secUnits)

/-- A reservation by offsets from the present slot tick. -/
structure Job where
  issue : Int
  deadline : Int
  edge : Int
  rho : Nat
  cls : Nat
  energy : Nat
  deriving DecidableEq, Repr

/-- The reservation of an item, seen from a reference. -/
def Item.job (i : Item) (now : Word) : Job :=
  ⟨refDiff i.issue now, refDiff i.deadline now, refDiff i.edge now, i.cycles, i.cls, i.energy⟩

/-- Sum over the reservations that a test picks. -/
def rhoSum (js : List Job) (p : Job → Bool) : Nat := (js.filter p).foldl (fun n j => n + j.rho) 0

/-- Excess of demand by a deadline over `fs` / 65,536 of capacity on engine `x` (R158, T1), in 65,536ths of a cycle: the greatest of `w`
and those over the ticks at which the demand changes and the last tick before the deadline. -/
def t1At (c : Clk) (fs x : Nat) (js : List Job) (w d : Int) : Int :=
  let b := (js.filter (fun k => decide (d < k.deadline))).foldl (fun n k => max n k.rho) 0
  let starts := (d - 1) :: ((js.filter (fun k => decide (0 ≤ k.issue) && decide (k.issue < d))).map (·.issue))
  starts.foldl (fun (w : Int) a =>
    let need := rhoSum js (fun k => decide (a ≤ k.issue) && decide (k.deadline ≤ d)) + b
    max w (((need * 65536 : Nat) : Int) - ((fs * engCap x (c.time d - c.time a) : Nat) : Int))) w

/-- Excess of demand over all the deadlines ahead (R158, T1): it fits where the excess is not positive. -/
def t1Excess (c : Clk) (fs x : Nat) (js : List Job) : Int :=
  (js.filter (fun j => decide (0 < j.deadline))).foldl (fun (worst : Int) j => t1At c fs x js worst j.deadline) 0

/-- Spare activation time in radio units (R158). -/
def spareUnits : Nat := 19661

/-- Replays from a slot tick fit (R158, T2). -/
def t2At (c : Clk) (fs x : Nat) (js : List Job) (slot : Nat) : Bool :=
  let t : Int := 14 * (slot : Int)
  (js.filter (fun j => decide (t < j.deadline))).all (fun j =>
    let d := j.deadline
    let need := rhoSum js (fun k => decide (k.issue < t) && decide (t < k.edge) && decide (k.deadline ≤ d)) +
      rhoSum js (fun k => k.cls == 0 && decide (k.issue = t) && decide (k.deadline ≤ d))
    decide (need * 65536 ≤ fs * engCap x (c.time d - (c.time t + spareUnits))))

/-- Replays fit at every slot tick ahead (R158, T2). -/
def t2Fits (c : Clk) (fs x hor : Nat) (js : List Job) : Bool := (List.range hor).all (fun k => t2At c fs x js (k + 1))

/-- Master slot, from the present one, in which a reservation's issue tick lies (R160). -/
def Job.slot (j : Job) : Int := j.issue / 14

/-- Energy charged to a master slot. -/
def slotEnergy (js : List Job) (m : Int) : Nat := (js.filter (fun j => decide (j.slot = m))).foldl (fun n j => n + j.energy) 0

/-- Budget of a master slot: that of a normal one scaled by length (R160). -/
def slotBudget (c : Clk) (budget : Nat) (m : Int) : Nat :=
  budget * (c.time (14 * (m + 1)) - c.time (14 * m)) / slotUnits c.scs

/-- The memories as Parapet reads the calibration table in them (R164): what their merge buffers hold is in place. -/
structure Cal where
  mem : List Host.Cell
  poison : List Nat
  regs : SMap Word
  deriving DecidableEq, Repr

/-- What the limits of a test are: fill and scale in 256ths, the budget, the headroom of each cluster, the clusters that hold work; and
where the calibration table lies. -/
structure Lim where
  cal : Cal
  clk : Clk
  now : Word
  fill : Nat
  scale : Nat
  budget : Nat
  heat : SMap Nat
  active : List Nat
  /-- Those of them that are active: E2 is theirs (R160). -/
  heated : List Nat
  /-- Ingress and egress items that wait for their issue: they pass without the checks, and count as releases of their tick. -/
  pass : List Item
  deriving DecidableEq, Repr

/-- Fill times scale, in 65,536ths. -/
def Lim.fs (l : Lim) : Nat := l.fill * l.scale

/-- Energy fits the budget in every master slot (R160, E1). -/
def Lim.e1 (l : Lim) (is : List Item) : Bool :=
  let js := is.map (fun i => i.job l.now)
  (List.range (horizon l.clk.scs)).all (fun m => decide (slotEnergy js m * 256 ≤ slotBudget l.clk l.budget m * l.scale))

/-- Reservations on an engine of a cluster. -/
def jobsOn (is : List Item) (now : Word) (c x : Nat) : List Job :=
  (is.filter (fun i => i.cluster == c && i.kind == x)).map (fun i => i.job now)

/-- Reservations fit in time on engine `x` of a cluster (R158): T1 and T2. -/
def Lim.timeFits (l : Lim) (is : List Item) (c x : Nat) : Bool :=
  let js := jobsOn is l.now c x
  decide (t1Excess l.clk l.fs x js ≤ 0) && t2Fits l.clk l.fs x (horizon l.clk.scs) js

/-- Energy charged to a master slot on a cluster. -/
def Lim.heatAt (l : Lim) (is : List Item) (c : Nat) (m : Int) : Nat :=
  slotEnergy ((is.filter (fun k => k.cluster == c)).map (fun k => k.job l.now)) m

/-- The energy charged to a master slot on an active cluster stays within its headroom (R160, E2). -/
def Lim.heatFits (l : Lim) (is : List Item) (c : Nat) (m : Int) : Bool :=
  !l.heated.contains c || decide (l.heatAt is c m * 256 ≤ Map.get 0 l.heat c * l.scale)

/-- A core item fits the capacity of a single core over its own window (R157). -/
def Lim.coreFits (l : Lim) (i : Item) : Bool :=
  let j := i.job l.now
  i.kind != 0 || decide (i.cycles ≤ (l.clk.time j.deadline - l.clk.time j.issue) * engHz 0 / secUnits)

/-- An item fits on its cluster beside what is there (R157, R158, R160, R166): T1 and T2 on its engine, E2 in its slot and, on the cores,
the capacity of one core. -/
def Lim.fitsOn (l : Lim) (is : List Item) (i : Item) : Bool :=
  l.timeFits (i :: is) i.cluster i.kind && l.heatFits (i :: is) i.cluster (i.job l.now).slot && l.coreFits i

/-- A master slot fails (R172): E1 or E2 in it, T1 of a deadline that lies in it, or T2 at its slot tick. -/
def Lim.slotFails (l : Lim) (is : List Item) (m : Nat) : Bool :=
  decide (slotBudget l.clk l.budget m * l.scale < slotEnergy (is.map (fun i => i.job l.now)) m * 256) ||
  l.active.any (fun c => !l.heatFits is c m || (List.range 5).any (fun x =>
    let js := jobsOn is l.now c x
    js.any (fun j => decide (j.deadline / 14 = (m : Int)) && decide (0 < t1At l.clk l.fs x js 0 j.deadline)) ||
      !t2At l.clk l.fs x js m))

/-- What stands on the active clusters fits on every engine in time, in every master slot in heat and in energy (R158, R160). -/
def Lim.fitsAll (l : Lim) (is : List Item) : Bool :=
  l.active.all (fun c => (List.range 5).all (fun x => l.timeFits is c x) &&
    (List.range (horizon l.clk.scs)).all (fun m => l.heatFits is c m)) && l.e1 is

/-- Remaining headroom of a cluster in the master slot of an item. -/
def Lim.left (l : Lim) (is : List Item) (i : Item) (c : Nat) : Int :=
  (Map.get 0 l.heat c : Nat) - ((l.heatAt is c (i.job l.now).slot : Nat) : Int)

/-- Unreserved decoder capacity of a cluster over the window of an item (R166). -/
def Lim.spareDecoder (l : Lim) (is : List Item) (i : Item) (c : Nat) : Int :=
  let w := i.job l.now
  let used := rhoSum (jobsOn is l.now c 2) (fun j => decide (j.issue < w.deadline) && decide (w.issue < j.deadline))
  ((engCap 2 (l.clk.time w.deadline - l.clk.time w.issue) : Nat) : Int) - used

/-- The clusters of a list by decreasing measure, lowest number first on ties. -/
def byMost (f : Nat → Int) : List Nat → List Nat
  | [] => []
  | c :: cs => ins c (byMost f cs)
where
  ins (c : Nat) : List Nat → List Nat
    | [] => [c]
    | d :: ds => if f d ≤ f c then c :: d :: ds else d :: ins c ds

/-- A lexicographic order of keys. -/
def keyLt : List Int → List Int → Bool
  | a :: as, b :: bs => decide (a < b) || (a == b && keyLt as bs)
  | _, _ => false

/-- Put an element at its place by key, behind its equals. -/
def insertBy {α : Type} (key : α → List Int) (x : α) : List α → List α
  | [] => [x]
  | y :: ys => if keyLt (key x) (key y) then x :: y :: ys else y :: insertBy key x ys

/-- Sort by key; equal keys keep their order. -/
def sortBy {α : Type} (key : α → List Int) (l : List α) : List α := l.foldl (fun acc x => insertBy key x acc) []

/-- Order of placement (R166). -/
def placeKey (now : Word) (i : Item) : List Int := [i.cls, refDiff i.deadline now, i.carrier, i.id]

/-- Exit latency from Doze in radio units, and a powered-off segment's (R359; log entry 43). -/
def dozeExit (regs : SMap Word) (c : Nat) : Nat :=
  (if getR regs (Rg.PWR_TILE_KEEP c) Fd.PWR_TILE_KEEP_banks = 0xFFFF then 3933 else 11994) +
    (if domState regs (segDomain (10 + c)) = dOff then 80610 else 0)

/-- A cluster in Doze is too slow to wake for an item (R166). -/
def tooSleepy (regs : SMap Word) (l : Lim) (i : Item) : Bool :=
  clusterState regs i.cluster == dDoze &&
    decide (l.clk.time (i.job l.now).issue < l.clk.time 0 + dozeExit regs i.cluster)

/-- Effective maximum of decoder iterations of a class at a shed level (R145, R168): of the layered half, or of half B. -/
def effIters (iterMin iterMax cls level : Nat) (half : Nat) : Nat :=
  let most := if half = 2 then ceilDiv (3 * iterMax) 2 else iterMax
  if cls = 0 then most
  else
    let a := if 3 ≤ level then min iterMin most else most
    if 4 ≤ level ∧ cls = 1 then min a (max 2 (10 - level)) else a

/-- First address of control memory (R242). -/
def controlBase : Nat := sramBase + 0x4800000

/-- Address of a row of the calibration table (R164): 1,024 rows of 64 bytes in control memory, at Psiwyn's place (log entry 28). -/
def calAddr (row : Nat) : Nat := controlBase + Config.psiAddr 3 % 130049 * 64 + row % 1024 * 64

/-- The bytes of a valid calibration row that hold something (R164): kind, flags, samples, and 8 bands of e_start and e_cycle. -/
def calBytes (kind samples : Nat) (bands : List (Nat × Nat)) : List Byte :=
  leBytes 1 kind ++ leBytes 1 1 ++ leBytes 2 samples ++
    (List.range 8).flatMap (fun b => leBytes 2 (nth (0, 0) bands b).1 ++ leBytes 2 (nth (0, 0) bands b).2)

/-- The bands of a calibration row (R164). -/
def calBands (row : List Byte) : List (Nat × Nat) := (List.range 8).map (fun b => (le row (4 + 4 * b) 2, le row (6 + 4 * b) 2))

/-- Control memory (R242). -/
def inControl (a : Nat) : Bool := decide (controlBase ≤ a) && decide (a < controlBase + 0x800000)

/-- The calibration table as it stands. -/
def State.cal (s : State) : Cal :=
  let m := s.mm.flush (fun b => inControl b.line)
  ⟨m.mem, m.mec.poison, s.regs⟩

/-- Coefficients of a calibration row in a band (R164); those of a poisoned code word are free values, no rule saying what Parapet makes of
it (log entry 204). -/
def calCoeff (k : Cal) (row band : Nat) : Nat × Nat :=
  let a := calAddr row + 4 + 4 * band
  let bs := Memory.bytes k.mem a 4
  if k.poison.contains (wordOf k.regs a) then Config.calLost row band else (le bs 0 2, le bs 2 2)

/-- Calibration row and reserved cycles of each command of an item (R130, R154). -/
def commandCosts (cmds : List (Nat × List Byte × Nat)) (iters : Nat) : List (Nat × Nat) :=
  cmds.map (fun e => (le e.2.1 8 2, reserveCycles e.1 e.2.1 e.2.2 iters))

/-- Cycles and energy of commands in a band (R154): e_start in nJ, e_cycle in pJ, the sum rounded up to whole uJ. -/
def costOf (cal : Cal) (band : Nat) (cmds : List (Nat × Nat)) : Nat × Nat :=
  let pj := cmds.foldl (fun n e => n + (calCoeff cal e.1 band).1 * 1000 + e.2 * (calCoeff cal e.1 band).2) 0
  (cmds.foldl (fun n e => n + e.2) 0, ceilDiv pj 1000000)

/-- The carrier at an index. -/
def Parapet.carrier (p : Parapet) (c : Nat) : Option Carrier := Map.get none p.carriers c

/-- The payload of a carrier. -/
def Parapet.carPayload (p : Parapet) (c : Nat) : List Byte := ((p.carrier c).map (·.payload)).getD []

/-- Bytes that an item's work depends on: its grant's, else its carrier's. -/
def Parapet.rawOf (p : Parapet) (i : Item) : List Byte :=
  match p.grant i.grant with
  | some g => g.raw
  | none => p.carPayload i.carrier

/-- Declared iteration bounds of an item's flow (R186). -/
def Parapet.iterBounds (p : Parapet) (i : Item) : Nat × Nat :=
  match p.flows.find? (fun f => f.id == le (p.rawOf i) 0 4) with
  | some f => (le f.payload 9 1, le f.payload 10 1)
  | none => (2, 8)

/-- Calibration rows that the commands of an item are priced by (R154, R164). -/
def Parapet.rowsOf (p : Parapet) (i : Item) : List Nat :=
  (commandCosts (Config.commands i.work.code (p.rawOf i) (i.half == 2)) 0).map (fun e => e.1 % 1024)

/-- An item priced for a cluster at a shed level (R154, R163, R168). -/
def Parapet.priced (p : Parapet) (cal : Cal) (level c : Nat) (i : Item) : Item :=
  let b := p.iterBounds i
  let it := if i.work = .decoding then effIters b.1 b.2 i.cls level i.half else 0
  let k := costOf cal (Map.get 0 p.bands c) (commandCosts (Config.commands i.work.code (p.rawOf i) (i.half == 2)) it)
  { i with cluster := c, cycles := k.1, energy := k.2, level := level }

/-- What placing has come to: items on clusters, the calendar's first, and items that fit nowhere. -/
structure Placed where
  all : List Item
  done : List Item
  left : List Item
  deriving DecidableEq, Repr

/-- The cluster of the other half of a paired decode (R105). -/
def mateOf (is : List Item) (i : Item) : Option Nat :=
  if i.half = 0 then none else (is.find? (fun x => x.grant == i.grant && x.half == 3 - i.half)).map (·.cluster)

/-- The clusters on which an item may stand: those that hold work, but for the one of the other half (R105, R166). -/
def Lim.allowed (l : Lim) (is : List Item) (i : Item) : List Nat := l.active.filter (fun c => !(some c == mateOf is i))

/-- The clusters on which an item is tried, in order (R166). -/
def Parapet.tries (p : Parapet) (l : Lim) (is : List Item) (level : Nat) (i : Item) : List Nat :=
  let ok := l.allowed is i
  let home := ((p.carrier i.carrier).map (·.home)).getD 0
  let first := if i.half = 2 then (byMost (fun c => l.spareDecoder is i c) ok).take 1
    else ok.filter (fun c => c == home)
  let rest := byMost (fun c => l.left is (p.priced l.cal level c i) c) (ok.filter (fun c => !first.contains c))
  first ++ rest

/-- The stage of a cadence reservation in the calendar: it is no item, and nothing is released for it (R176). -/
def templateStage : Nat := 7

/-- Room for one more release at the issue tick of an item (R46, R159). -/
def releaseRoom (is : List Item) (i : Item) : Bool :=
  decide ((is.filter (fun x => x.issue == i.issue && x.stage != templateStage)).length < releaseLimit)

/-- Place one item (R166). Ingress and egress items pass without the checks (R155); where 4,096 items issue at its tick already, an item
has no place (R159). -/
def Parapet.place (p : Parapet) (regs : SMap Word) (l : Lim) (level : Nat) (x : Placed) (i : Item) : Placed :=
  if i.stage ≤ 1 then { x with done := x.done ++ [i] }
  else
    match ((p.tries l x.all level i).map (fun c => p.priced l.cal level c i)).find?
      (fun i => releaseRoom (x.all ++ l.pass ++ x.done.filter (fun k => decide (k.stage ≤ 1))) i && !tooSleepy regs l i &&
        l.fitsOn x.all i) with
    | some i => { x with all := i :: x.all, done := x.done ++ [i] }
    | none => { x with left := x.left ++ [i] }

/-- Place the items of a batch beside the calendar. -/
def Parapet.placeAll (p : Parapet) (regs : SMap Word) (l : Lim) (level : Nat) (cal batch : List Item) : Placed :=
  let is := sortBy (placeKey l.now) batch
  (is.filter (fun i => decide (i.stage ≤ 1)) ++ is.filter (fun i => decide (2 ≤ i.stage))).foldl (fun x i => p.place regs l level x i)
    ⟨cal, [], []⟩

/-- A batch fits (R166, R169): every item has a place, and T1, T2, E1 and E2 hold everywhere. -/
def Placed.fits (x : Placed) (l : Lim) : Bool := x.left == [] && l.fitsAll x.all

/-- SRS items of a class that a level admits (R168): the occasion is counted in carrier slots. -/
def srsAdmitted (level cls occasion : Nat) : Bool :=
  if cls = 2 then decide (level < 2) else decide (level < 9) || occasion % 2 ^ (min level 12 - 8) == 0

/-- A level admits an item (R168); the combining of a symbol that only measurements use is theirs. -/
def levelAdmits (level : Nat) (occasion : Item → Nat) (i : Item) : Bool :=
  match i.work with
  | .measure => decide (level < 1)
  | .combining => i.cls != 2 || decide (level < 1)
  | .srs => srsAdmitted level i.cls (occasion i)
  | .derive => srsAdmitted level i.cls (occasion i)
  | _ => true

/-- Items of a batch that a level admits (R168). -/
def shed (level : Nat) (occasion : Item → Nat) (is : List Item) : List Item := is.filter (levelAdmits level occasion)

/-- The shed level of a batch (R169): the first, from one below the last, at which the batch fits; limits are scaled down while
relaxing. -/
def chooseLevel (fits : Nat → Nat → Bool) (prev relax : Nat) : Nat → Nat → Nat
  | 0, level => level
  | n + 1, level =>
    if fits level (if level < prev then relax else 256) then level
    else if level = 13 then 13 else chooseLevel fits prev relax n (level + 1)

/-- Unmet T1 demand of an item on a cluster (R173). -/
def Lim.unmet (l : Lim) (is : List Item) (i : Item) : Int := t1Excess l.clk l.fs i.kind (jobsOn (i :: is) l.now i.cluster i.kind)

/-- Place what fits nowhere where the unmet demand is smallest (R173), never beside its other half nor on a cluster that wakes too late
(R166). -/
def Parapet.force (p : Parapet) (regs : SMap Word) (l : Lim) (level : Nat) (x : Placed) : Placed :=
  x.left.foldl (fun (x : Placed) i =>
    let ok := (l.allowed x.all i).filter (fun c => !tooSleepy regs l { i with cluster := c })
    match byMost (fun c => -(l.unmet x.all (p.priced l.cal level c i))) ok with
    | [] => x
    | c :: _ => { x with all := p.priced l.cal level c i :: x.all, done := x.done ++ [p.priced l.cal level c i] }) { x with left := [] }

/-- Decoder caps of a shed level (R168): shed_extra and cap_standard. -/
def capsOf (level : Nat) : Nat × Nat := (b2n (decide (3 ≤ level)), if level < 4 then 0 else max 2 (10 - level))

/-- The tightest caps of some levels (R171). -/
def tightest (levels : List Nat) : Nat × Nat :=
  levels.foldl (fun (a : Nat × Nat) l =>
    let b := capsOf l
    (max a.1 b.1, if a.2 = 0 then b.2 else if b.2 = 0 then a.2 else min a.2 b.2)) (0, 0)

/-- Clusters that items may be placed on: the active ones and spares that have taken over and are still activating (R181). -/
def State.actives (s : State) : List Nat := (List.range 18).filter (holdsWork s.regs s.ppt.failing)

end Sys2Proof.Machine
end

