-- ==== Sys2Proof/Machine/Stores.lean ====
section
/-! DEFINITION. The stores of the processing chains (R97 to R102, R115 to R119, R127): their layouts, where units, blocks and records
lie (log entry 176), what the opening of a unit writes. -/
namespace Sys2Proof.Machine

/-- Carriers in use with their indices. -/
def Parapet.inUse (p : Parapet) : List (Nat × Carrier) := p.carriers.filterMap (fun e => e.2.map (fun c => (e.1, c)))

/-- Bases for areas of these sizes that lie in a store of `limit` bytes and do not meet. -/
def basesFit (limit : Nat) (sizes bases : List Nat) : Bool :=
  decide (bases.length = sizes.length) && (bases.zip sizes).all (fun e => decide (e.1 + e.2 ≤ limit)) &&
    decide ((bases.zip sizes).Pairwise (fun a b => a.1 + a.2 ≤ b.1 ∨ b.1 + b.2 ≤ a.1))

/-- One area after the other. -/
def stacked : Nat → List Nat → List Nat
  | _, [] => []
  | a, n :: l => a :: stacked (a + n) l

/-- Bases of areas in a store (log entries 28, 176): the free choice, in units of `unit` bytes, where it fits, else one after the other. -/
def placed (limit unit : Nat) (choice sizes : List Nat) : List Nat :=
  let b := choice.map (· * unit)
  if basesFit limit sizes b then b else stacked 0 sizes

/-- The next 64-byte boundary. -/
def up64 (n : Nat) : Nat := ceilDiv n 64 * 64

/-- Groups of 4 PRB of a carrier (R93). -/
def carGroups (p : List Byte) : Nat := ceilDiv (carPrb p) 4

/-- Where the beam-matrix groups and the PRB records of an uplink unit begin, and its size (R97). -/
def ulGroupsAt (p : List Byte) : Nat := up64 (42 * carLayersUl p * (12 * carPrb p))
def ulRecsAt (p : List Byte) : Nat := ulGroupsAt p + up64 (1600 * carGroups p)
def ulUnitSize (p : List Byte) : Nat := if carLayersUl p = 0 then 0 else ulRecsAt p + 512 * carPrb p

/-- Where the symbol records, the precoder groups and the beam record of a downlink unit begin, and its size (R115). -/
def dlSymsAt (p : List Byte) : Nat := up64 (672 * (12 * carPrb p))
def dlGroupsAt (p : List Byte) : Nat := dlSymsAt p + 896
def dlBeamAt (p : List Byte) : Nat := dlGroupsAt p + up64 (1600 * carGroups p)
def dlUnitSize (p : List Byte) : Nat := dlBeamAt p + 6272

/-- Offset of the resource elements of a row of beam data from subcarrier `k` on (R97): symbol-major, then port. -/
def beamAt (p : List Byte) (x port k : Nat) : Nat := ((x * carLayersUl p + port) * (12 * carPrb p) + k) * 3

/-- Offset of the resource elements of a row of layer data (R115): symbol-major, then layer. -/
def layerAt (p : List Byte) (x layer k : Nat) : Nat := ((x * 16 + layer) * (12 * carPrb p) + k) * 3

/-- Half of the stores that the units of a carrier slot lie in (R43, R96). -/
def State.slotHalf (s : State) (p : Plan) (slot : Word) : Nat := s.frameSlot slot / p.r % 2

/-- First address of the unit of a carrier and direction in a half of the slot store (R97, R115, R242). -/
def State.unitAddr (s : State) (downlink : Bool) (carrier half : Nat) : Nat :=
  let parts := s.ppt.inUse.flatMap (fun e => [(2 * e.1, ulUnitSize e.2.payload), (2 * e.1 + 1, dlUnitSize e.2.payload)])
  let bases := placed 0x4000000 64 (Config.slotParts parts) (parts.map (·.2))
  sramBase + 0x12000000 + half * 0x4000000 +
    ((((parts.map (·.1)).zip bases).find? (fun e => e.1 == 2 * carrier + b2n downlink)).map (·.2)).getD 0

/-- Index of the frame that a slot lies in, in frame ticks (R123), and its system frame number. -/
def State.frameAhead (s : State) (slot : Word) : Int :=
  ((s.getF Rg.DRM_POSITION Fd.DRM_POSITION_slot : Int) + sgn 28 (refSlot slot + 2 ^ 28 - refSlot s.curRef)) / (slotsPerFrame s.scs : Int)

def State.frameIndex (s : State) (slot : Word) : Nat := ((s.rd64 Rg.DRM_FRAME_COUNT_LO : Int) + s.frameAhead slot).toNat

def State.frameSfn (s : State) (slot : Word) : Nat :=
  (((s.getF Rg.DRM_POSITION Fd.DRM_POSITION_sfn : Int) + s.frameAhead slot) % 1024).toNat

/-- The frame of a slot carries the SSBs of a carrier (R82, R123). -/
def State.ssbFrame (s : State) (payload : List Byte) (slot : Word) : Bool :=
  carSsb payload && s.frameSfn slot % ssbFrames payload == 0

/-- Symbol of the frame of symbol `x` of a carrier slot. -/
def State.symInFrame (s : State) (p : Plan) (slot : Word) (x : Nat) : Nat := s.frameSlot slot / p.r * 14 + x

/-- An SSB overlaps a PRB block in a symbol of a carrier slot (R123). -/
def State.underSsb (s : State) (payload : List Byte) (p : Plan) (slot : Word) (x prb : Nat) : Bool :=
  s.ssbFrame payload slot && Config.ssbBlock payload (s.symInFrame p slot x) prb != 0

/-- Cell reference signals of LTE in a carrier that shares spectrum (R82): by antenna ports and v-shift (TS 36.211). -/
def crsRe (payload : List Byte) (x k : Nat) : Bool :=
  let ports := le payload 52 2 % 4
  let shift := le payload 52 2 / 4 % 8
  carRat payload == 2 &&
    (if ports = 0 then (x % 7 == 0 && k % 6 == shift % 6) || (x % 7 == 4 && k % 6 == (shift + 3) % 6)
     else (x % 7 == 0 || x % 7 == 4 || (ports == 2 && x % 7 == 1)) && k % 3 == shift % 3)

/-- Subcarriers of a symbol that carry data of a downlink grant: not under an SSB (R123), rate-matched around the LTE pattern. -/
def State.dlRes (s : State) (payload : List Byte) (p : Plan) (raw : List Byte) (x : Nat) : List Nat :=
  ((List.range (12 * le raw 14 2)).map (· + 12 * le raw 12 2)).filter (fun k =>
    !s.underSsb payload p (BitVec.ofNat 32 (le raw 4 4)) x (k / 12) && !crsRe payload x k)

/-- Coded bits of a downlink grant before symbol `x` (R119). -/
def State.dlBitsBefore (s : State) (payload : List Byte) (p : Plan) (raw : List Byte) (x : Nat) : Nat :=
  (((grantData p.lte raw).filter (fun y => decide (y < x))).map (fun y =>
    (s.dlRes payload p raw y).length * le raw 18 1 * le raw 20 1)).sum

/-- Coded bits of a downlink grant (R119). -/
def State.dlCoded (s : State) (payload : List Byte) (p : Plan) (raw : List Byte) : Nat := s.dlBitsBefore payload p raw 14

/-- Base graph of a transport block (TS 38.212), from its size and the code rate in 1,024ths. -/
def baseGraph (tbs rate : Nat) : Nat :=
  if tbs ≤ 292 ∨ rate * 4 ≤ 1024 ∨ (tbs ≤ 3824 ∧ rate * 100 ≤ 67 * 1024) then 2 else 1

/-- Coded bits of an uplink grant in one symbol (R101). -/
def ulPerSym (raw : List Byte) : Nat := 12 * le raw 14 2 * le raw 18 1 * le raw 20 1

/-- Code blocks of an uplink grant (R102). -/
def ulBlocks (lte : Bool) (raw : List Byte) : List Block :=
  blocks lte (le raw 28 4) ((grantData lte raw).length * ulPerSym raw) 0 (baseGraph (le raw 28 4) (le raw 26 2)) (le raw 20 1 * le raw 18 1)

/-- Bytes that the block of a grant takes (R102, R119). -/
def State.blockSize (s : State) (g : Grant) : Nat :=
  let payload := s.ppt.carPayload (le g.raw 8 2)
  let p := s.plan (le g.raw 8 2) payload
  if !g.downlink then 64 + ((ulBlocks p.lte g.raw).map (fun b => up64 b.e)).sum
  else if Config.isPdcch g.raw then 384 else 64 + up64 (ceilDiv (s.dlCoded payload p g.raw) 8)

/-- Slot of a grant. -/
def Grant.slot (g : Grant) : Word := BitVec.ofNat 32 (le g.raw 4 4)

/-- Carrier slots of a grant's carrier: their length in master symbols. -/
def State.grantPlan (s : State) (g : Grant) : Plan := s.plan (le g.raw 8 2) (s.ppt.carPayload (le g.raw 8 2))

/-- Where the unit of a grant's block opens (R43, R96, R115): held for two carrier slots. -/
def State.blockFrom (s : State) (g : Grant) : Word := refShift g.slot (if g.downlink then -2 * (s.grantPlan g).t else 0)

/-- The blocks of two grants are held in one half at one time. -/
def State.blocksMeet (s : State) (g h : Grant) : Bool :=
  s.slotHalf (s.grantPlan g) g.slot == s.slotHalf (s.grantPlan h) h.slot &&
    decide (refDiff (s.blockFrom g) (s.blockFrom h) < 2 * (s.grantPlan h).t) &&
    decide (refDiff (s.blockFrom h) (s.blockFrom g) < 2 * (s.grantPlan g).t)

/-- A place for a block beside those in use, as (begin, size): the free choice where it is free, else the first free one after another
block (log entry 176). -/
def freePlace (used : List (Nat × Nat)) (size limit choice : Nat) : Nat :=
  let ok := fun a => decide (a + size ≤ limit) && used.all (fun u => decide (a + size ≤ u.1) || decide (u.1 + u.2 ≤ a))
  let ends := used.map (fun u => u.1 + u.2)
  if ok (choice * 64) then choice * 64 else ((0 :: ends).find? ok).getD (ends.foldl max 0)

/-- Place the block of a grant in the code-block store; `rest` have no place yet. -/
def State.placeBlock (s : State) (rest : List Nat) (g : Grant) : Nat :=
  let used := (s.ppt.grants.filter (fun h => h.admitted.isSome && h.id != g.id && !rest.contains h.id && s.blocksMeet g h)).map
    (fun h => (h.place, s.blockSize h))
  freePlace used (s.blockSize g) 0x3000000 (Config.blockPlace used (s.blockSize g))

/-- Place the blocks of the grants that a batch admits. -/
def State.placeBlocks (s : State) : List Nat → State
  | [] => s
  | id :: rest =>
    State.placeBlocks (match s.ppt.grant id with
      | some g => { s with ppt := s.ppt.updGrant id (fun x => { x with place := s.placeBlock rest g }) }
      | none => s) rest

/-- First address of the block of a grant (R102, R119, R242). -/
def State.blockAt (s : State) (g : Grant) : Nat :=
  sramBase + 0x1A000000 + s.slotHalf (s.grantPlan g) g.slot * 0x3000000 + g.place

/-- SRS result record of a carrier in DRAM (R127): beam-matrix groups, precoder groups, beam record, and a word whose bit 0 is the valid
flag (log entry 176). -/
def srsRecord (carrier : Nat) : Nat := Config.srsRecord carrier % 2 ^ 30 * 64
def srsDlAt (p : List Byte) : Nat := 1600 * carGroups p
def srsBeamAt (p : List Byte) : Nat := 3200 * carGroups p
def srsFlagAt (p : List Byte) : Nat := 3200 * carGroups p + 6272

/-- Read memory: the state after, and the bytes. -/
def State.memTake (s : State) (agent a n : Nat) : State × List PByte := (s.memRead agent a n, s.memBytes agent a n)

/-- The core through which an item's software reaches memory, and the cluster's DMA engine. -/
def Item.core (i : Item) : Nat := 0x1000 + 8 * i.cluster
def Item.dma (i : Item) : Nat := 0x5000 + 32 * i.cluster

/-- A record after a copy: its age, a number of 4 bytes at `off`, is changed (R99, R117). -/
def aged (off : Nat) (age : Nat → Nat) (bs : List PByte) : List PByte :=
  splice bs off ((leBytes 4 (age (leNat (vals ((bs.drop off).take 4))))).map (fun b => ⟨b, anyP ((bs.drop off).take 4)⟩))

/-- Copy records of `size` bytes, each with its age. -/
def State.copyRecords (s : State) (agent src dst size n off : Nat) (age : Nat → Nat) : State :=
  (List.range n).foldl (fun s k =>
    let r := s.memTake agent (src + size * k) size
    r.1.memWrite agent (dst + size * k) (aged off age r.2)) s

/-- Count of the master slot that a reference names (R33, R49). -/
def State.slotCount (s : State) (ref : Word) : Nat :=
  ((s.rd64 Rg.DRM_SLOT_COUNT_LO : Int) + sgn 28 (refSlot ref + 2 ^ 28 - refSlot s.nowRef)).toNat

/-- Age in carrier slots, at a slot, of a carrier's newest valid SRS result (R127). -/
def State.srsAge (s : State) (carrier r : Nat) (slot : Word) : Nat := (s.slotCount slot + 1 - Map.get 0 s.ppt.srs carrier) / r

/-- A carrier's valid result is newer than the one that its last unit of a direction used (R127). -/
def State.srsNewer (s : State) (agent carrier : Nat) (payload : List Byte) (downlink : Bool) : Bool :=
  decide (Map.get 0 s.ppt.srsUsed (2 * carrier + b2n downlink) < Map.get 0 s.ppt.srs carrier) &&
    bit (leNat (vals (s.memBytes agent (srsRecord carrier + srsFlagAt payload) 4))) 0

/-- Half of the slot store that the unit of a carrier slot lies in (R96, R115): in the downlink that of the carrier slot before. -/
def State.unitHalf (s : State) (downlink : Bool) (p : Plan) (slot : Word) : Nat := (s.slotHalf p slot + b2n downlink) % 2

/-- The slot-store unit of a carrier slot opens (R93, R127): the newest valid result is copied into it with its age, or else what the unit
opened before it held, older by the carrier slots between them; by one across a start of Drum (log entry 176). The flags of PRB records,
with their reserved bytes, and of symbol records are cleared (R12; log entry 176). -/
def State.openUnit (s : State) (i : Item) (payload : List Byte) (downlink : Bool) : State :=
  let c := i.carrier
  let p := s.plan c payload
  let key := 2 * c + b2n downlink
  let h := s.unitHalf downlink p i.slot
  let a := i.dma
  let n := s.slotCount i.slot
  let last := Map.get 0 s.ppt.unitLast key
  let dst := s.unitAddr downlink c h
  let was := s.unitAddr downlink c (if last = 0 then 1 - h else (last - 1) % 2)
  let new := s.srsNewer a c payload downlink
  let older := if last = 0 ∨ 2 ^ 64 ≤ (last - 1) / 2 then 1 else (n - (last - 1) / 2) / p.r
  let age := fun k => if new then s.srsAge c p.r i.slot else k + older
  let s := { s.memRead a (srsRecord c + srsFlagAt payload) 4 with ppt := { s.ppt with
    unitLast := Map.set 0 s.ppt.unitLast key (h + 2 * n + 1)
    srsUsed := if new then Map.set 0 s.ppt.srsUsed (2 * c + b2n downlink) (Map.get 0 s.ppt.srs c) else s.ppt.srsUsed } }
  let clear := fun (s : State) (n at_ pitch size : Nat) =>
    (List.range n).foldl (fun s k => s.memWrite a (dst + at_ + pitch * k) (clean (leBytes size 0))) s
  let t := if downlink then
      let t := s.copyRecords a (if new then srsRecord c + srsDlAt payload else was + dlGroupsAt payload) (dst + dlGroupsAt payload) 1600
        (carGroups payload) 1568 age
      let t := t.copyRecords a (if new then srsRecord c + srsBeamAt payload else was + dlBeamAt payload) (dst + dlBeamAt payload) 6272 1 6208 age
      clear t 14 (dlSymsAt payload + 16) 64 48
    else
      let t := s.copyRecords a (if new then srsRecord c else was + ulGroupsAt payload) (dst + ulGroupsAt payload) 1600 (carGroups payload) 1544 age
      clear t (carPrb payload) (ulRecsAt payload + 464) 512 48
  t.memSync a

/-- Header and padding of an uplink block, as its unit opens (R102): zeros, so that the release word is unclaimed. -/
def State.openBlock (s : State) (i : Item) (g : Grant) : State :=
  let a := s.blockAt g
  let bs := ulBlocks (s.grantPlan g).lte g.raw
  let t := s.memWrite i.core a (clean (leBytes 64 0))
  let r := bs.foldl (fun (r : State × Nat) b =>
    (r.1.memWrite i.core (r.2 + b.e) (clean (leBytes (up64 b.e - b.e) 0)), r.2 + up64 b.e)) (t, a + 64)
  r.1.memSync i.core

/-- What an encoding item writes before it issues its commands (R119): header, or descriptor and DCI areas, reserved bytes as 0 (R12); the status is 0 until then. -/
def State.openCoded (s : State) (i : Item) (g : Grant) : State :=
  let a := s.blockAt g
  let payload := s.ppt.carPayload i.carrier
  let t := if Config.isPdcch g.raw then
      s.memWrite i.core a (clean (g.raw.take 22 ++ leBytes 2 0 ++ (g.raw.drop 24).take 20 ++ leBytes 4 0 ++ leBytes 16 0 ++ fit 0 64 ((g.raw.drop 24).take 20) ++ leBytes 256 0))
    else s.memWrite i.core a (clean (leBytes 4 (le g.raw 0 4) ++ leBytes 4 (s.dlCoded payload (s.grantPlan g) g.raw) ++ leBytes 56 0))
  t.memSync i.core

/-- What the release of an item writes before its work begins: `opens` says that it is the first to release into its output unit. -/
def State.opening (s : State) (i : Item) (opens : Bool) : State :=
  match s.ppt.carrier i.carrier with
  | none => s
  | some c =>
    match i.work with
    | .combining => if opens then s.openUnit i c.payload false else s
    | .mapping => if opens then s.openUnit i c.payload true else s
    | .demapping => if opens then (match s.ppt.grant i.grant with | some g => s.openBlock i g | none => s) else s
    | .encoding => match s.ppt.grant i.grant with
      | some g => s.openCoded i g
      | none => s
    | _ => s

end Sys2Proof.Machine
end

