-- ==== Sys2Proof/Machine/Admission.lean ====
section
/-! DEFINITION. What Parapet does at a slot tick (R88, R155 to R183): grants taken and answered, the thermal model, cadence, retirement
of failed clusters, the admission batch, decoder caps, power requests. -/
namespace Sys2Proof.Machine

/-- A result descriptor (R106). -/
def resultBytes (raw : List Byte) (status addr len iters cluster sinr : Nat) : List Byte :=
  leBytes 8 addr ++ leBytes 4 len ++ leBytes 4 (le raw 0 4) ++ leBytes 4 (le raw 4 4) ++ leBytes 2 (le raw 10 2) ++
    leBytes 1 (le raw 21 1) ++ leBytes 1 status ++ leBytes 1 iters ++ leBytes 1 cluster ++ leBytes 2 sinr ++ leBytes 2 (le raw 8 2) ++
    leBytes 2 0

/-- A transmission report (R126). -/
def reportBytes (raw : List Byte) (status muted cluster age : Nat) : List Byte :=
  leBytes 4 (le raw 0 4) ++ leBytes 4 (le raw 4 4) ++ leBytes 2 (le raw 8 2) ++ leBytes 2 (le raw 10 2) ++ leBytes 1 (le raw 21 1) ++
    leBytes 1 status ++ leBytes 2 muted ++ leBytes 4 (le raw 28 4) ++ leBytes 1 cluster ++ leBytes 1 age ++ leBytes 10 0

/-- Result or report queue of a grant (R89, R111). -/
def answerQueue (raw : List Byte) : Nat := le raw 48 4 % 2 ^ 20

/-- Bits of a grant's symbols. -/
def symMask (raw : List Byte) : Nat := (grantSyms raw).foldl (fun n s => n ||| 2 ^ s) 0

/-- Answer a grant that was not carried out: a result or a report with a status; all its symbols are muted (R88, R110, R170). A PDCCH
descriptor has no answer. DESIGN CHOICE (log entry 179): a block that was not decoded has cluster 0xFF, 0 iterations and SINR 0; a grant
that was not precoded has cluster 0xFF and age 0 (R106 and R126 give no values for them). -/
def State.answer (s : State) (downlink : Bool) (raw : List Byte) (status : Nat) : State :=
  if downlink then
    if Config.isPdcch raw then s
    else s.deliver s.ctrlUnit (answerQueue raw) (reportBytes raw status (symMask raw) 0xFF 0) (le raw 0 4) true
  else s.deliver s.ctrlUnit (answerQueue raw) (resultBytes raw status 0 0 0 0xFF 0) (le raw 0 4) false

/-- Refuse a grant (R170): counted and answered late. -/
def State.refuse (s : State) (downlink : Bool) (raw : List Byte) : State :=
  let s := (s.withRep (s.rep.bump Rg.PPT_GRANTS_REFUSED 1)).flowBump (le raw 0 4) 7 1
  s.answer downlink raw gLate

/-- A grant that was not queued at its admission tick (R88, R110): a downlink one is counted. -/
def State.grantLate (s : State) (carrier : Nat) (downlink : Bool) (raw : List Byte) : State :=
  if downlink then (s.fwBump (fwCarrier carrier 2) 1).answer true raw 0x20 else s.answer false raw gGrantLate

/-- Take one entry of a grant queue (R88): a poisoned one is discarded, counted and recorded. -/
def State.takeGrant (s : State) (carrier q : Nat) (downlink : Bool) : State :=
  let r := s.qx.dequeue s.ctrlUnit q
  let t := s.withQx r.1
  if r.2.1 ≠ qOk then t
  else if anyP r.2.2 then (t.fwBump (fwCarrier carrier 8) 1).record 0x0170 s.ctrlUnit [carrier, q]
  else
    let g : Grant := { id := t.ppt.nextGrant, downlink := downlink, raw := vals r.2.2, cls := 1, admitted := none, status := 0,
                       mutedSyms := 0, cluster := 0xFF, iterations := 0, answered := false }
    { t with ppt := { t.ppt with grants := t.ppt.grants ++ [g], nextGrant := t.ppt.nextGrant + 1 } }

/-- Take all entries of a queue. -/
def State.takeAll (s : State) (carrier q : Nat) (downlink : Bool) : State :=
  (List.range (s.queue q).fill).foldl (fun s _ => s.takeGrant carrier q downlink) s

/-- Take the entries of every grant queue (R88, R110). -/
def State.takeGrants (s : State) : State :=
  s.ppt.inUse.foldl (fun s e =>
    let s := if carLayersUl e.2.payload = 0 then s else s.takeAll e.1 e.2.ulq false
    s.takeAll e.1 e.2.dlq true) s

/-- The slot whose uplink grants are admitted at a slot tick, and that of downlink grants of a carrier of ratio `r` (R88, R110). -/
def ulSlot (now : Word) : Word := tickRef (refSlot now + 1) 0
def dlSlot (now : Word) (r : Nat) : Word := tickRef (refSlot now + 2 * r) 0

/-- The occasion of an SRS item: the index of its carrier slot (R168). -/
def State.occasion (s : State) (i : Item) : Nat := refSlot i.slot / (s.plan i.carrier (s.ppt.carPayload i.carrier)).r

/-- A reference is the start of a slot of a carrier of ratio `r` (R32). -/
def State.slotStart (s : State) (ref : Word) (r : Nat) : Bool := refSym ref == 0 && s.frameSlot ref % r == 0

/-- What becomes of a grant at a slot tick. -/
inductive GrantFate where
  | wait | due | late | refused
  deriving DecidableEq, Repr

/-- The fields of a grant are within the ranges of its layout (R89, R111), in its carrier. -/
def grantRanges (payload : List Byte) (downlink : Bool) (raw : List Byte) : Bool :=
  let qm := le raw 20 1
  let layers := le raw 18 1
  let f := le raw 24 1
  let cdm := le raw 25 1 / 2 % 8
  decide (1 ≤ le raw 14 2) && decide (le raw 14 2 ≤ 275) && decide (le raw 12 2 + le raw 14 2 ≤ carPrb payload) &&
    decide (le raw 16 1 ≤ 13) && decide (1 ≤ le raw 17 1) && decide (le raw 17 1 ≤ 14) && decide (1 ≤ layers) &&
    decide (le raw 21 1 ≤ 31) && (carRat payload == 1 || (decide (1 ≤ cdm) && decide (cdm ≤ 3))) && decide (le raw 32 2 ≤ 1023) && decide (le raw 36 1 ≤ 1) &&
    if downlink then
      decide (layers ≤ 8) && decide (le raw 19 1 ≤ 15) && decide (le raw 19 1 + layers ≤ carLayersDl payload) &&
        [2, 4, 6, 8, 10].contains qm && decide (-48 ≤ leS raw 37 1) && decide (leS raw 37 1 ≤ 24)
    else
      decide (layers ≤ 4) && decide (le raw 19 1 ≤ 7) && decide (le raw 19 1 + layers ≤ carLayersUl payload) &&
        [1, 2, 4, 6, 8].contains qm && (!bit f 3 || layers == 1)

/-- A grant fits its flow (R170, R186): carrier, direction and declared maxima. -/
def grantFits (f : Flow) (downlink : Bool) (raw : List Byte) : Bool :=
  le f.payload 4 2 == le raw 8 2 && (le f.payload 6 1 == 1) == downlink && decide (le raw 18 1 ≤ le f.payload 11 1) &&
    decide (le raw 14 2 ≤ le f.payload 12 2) && decide (le raw 20 1 ≤ le f.payload 14 1) && decide (le raw 28 4 ≤ le f.payload 16 4)

/-- The fate of a grant (R35, R88, R110, R170): an invalid reference, an unknown flow or carrier, a field outside its range (log entry
177) and a grant beyond its flow's maxima are refused. A grant taken from another carrier's queue is the grant of the carrier that it
names. DESIGN CHOICE (log entry 178): R88 is silent on it. A PDCCH descriptor is admitted whatever its fields and its `flow_id` hold.
DESIGN CHOICE (log entry 224): R112 gives fields and no check. -/
def State.fate (s : State) (now : Word) (g : Grant) : GrantFate :=
  let slot : Word := BitVec.ofNat 32 (le g.raw 4 4)
  match s.ppt.carrier (le g.raw 8 2) with
  | none => .refused
  | some c =>
    let r := (s.plan (le g.raw 8 2) c.payload).r
    let pd := g.downlink && Config.isPdcch g.raw
    let ok := pd || match s.flow (le g.raw 0 4) with
      | some f => grantFits f g.downlink g.raw && grantRanges c.payload g.downlink g.raw
      | none => false
    let at_ := if g.downlink then dlSlot now r else ulSlot now
    if !refOk slot || !s.slotStart slot r then .refused
    else if slot = at_ then (if ok then .due else .refused)
    else if refAfter slot at_ then .wait else .late

/-- The reservation of a bound flow in a slot (R178). -/
def Parapet.reserved (p : Parapet) (flow : Nat) (slot : Word) : Bool := p.reserves.any (fun r => r.flow == flow && r.slotRef == slot)

/-- The binding of a flow. -/
def Parapet.binding (p : Parapet) (flow : Nat) : Option Binding := p.bindings.find? (fun b => b.flow == flow)

/-- Class of a grant (R112, R167, R178): its flow's, standard for a bound flow outside its reserved slots. -/
def State.grantClass (s : State) (g : Grant) : Nat :=
  if g.downlink && Config.isPdcch g.raw then 0
  else
    let id := le g.raw 0 4
    let cls := ((s.flow id).map (fun f => le f.payload 7 1)).getD 1
    if (s.ppt.binding id).isSome ∧ !s.ppt.reserved id (BitVec.ofNat 32 (le g.raw 4 4)) then 1 else cls

/-- Template of a bound flow (R185): cycles of core pool, matrix engine, decoder and cluster DMA, and energy. -/
structure Template where
  core : Nat
  matrix : Nat
  decoder : Nat
  dma : Nat
  energy : Nat
  deriving DecidableEq, Repr

def templateOf (p : List Byte) : Template := ⟨le p 16 4, le p 20 4, le p 24 4, le p 28 4, le p 12 4⟩

/-- Cycles left of a template for an engine. -/
def Template.get (t : Template) (x : Nat) : Nat :=
  match x with | 0 => t.core | 1 => t.matrix | 2 => t.decoder | 4 => t.dma | _ => 0

/-- A template less what an item takes. -/
def Template.less (t : Template) (i : Item) : Template :=
  { core := if i.kind = 0 then t.core - i.cycles else t.core
    matrix := if i.kind = 1 then t.matrix - i.cycles else t.matrix
    decoder := if i.kind = 2 then t.decoder - i.cycles else t.decoder
    dma := if i.kind = 4 then t.dma - i.cycles else t.dma
    energy := t.energy - i.energy }

/-- Items of a bound flow's grants are protected up to the template and standard beyond it (R178). -/
def capTemplate (price : Item → Item) : Template → List Item → List Item
  | _, [] => []
  | t, i :: is =>
    let k := price i
    if k.cycles ≤ t.get k.kind ∧ k.energy ≤ t.energy then i :: capTemplate price (t.less k) is
    else { i with cls := 1 } :: capTemplate price t is

/-- The four reservations of a cadence template in a slot (R176): from the first symbol's end to the decoding deadline. -/
def State.reserveItems (s : State) (r : Reserve) : List Item :=
  match s.flow r.flow, s.ppt.binding r.flow with
  | some f, some b =>
    let c := le f.payload 4 2
    let p := s.plan c (s.ppt.carPayload c)
    let t := templateOf b.payload
    let home := ((s.ppt.carrier c).map (·.home)).getD 0
    let it := fun (x energy : Nat) =>
      { mkItem r.slotRef ⟨p.r, 2 * p.t - p.g 4, 2 * p.t⟩ .control 0 c 0 0 0 0 0 with
        stage := templateStage, kind := x, cycles := t.get x, energy := energy, cluster := home }
    [it 0 t.energy, it 1 0, it 2 0, it 4 0]
  | _, _ => []

/-- The calendar (R156): items neither complete nor expired, with a cluster, and reservations. -/
def State.calendar (s : State) : List Item :=
  s.drum.items.filter (fun i => !i.ended && decide (i.cluster < 18)) ++ s.ppt.reserves.flatMap s.reserveItems

/-- Class of a carrier slot's common items for the grants that need them: the lowest. -/
def lowestClass (d : Nat) (cs : List Nat) : Nat := cs.foldl min d

/-- Symbols of the grants. -/
def symsOf (gs : List Grant) : List Nat := (List.range 14).filter (fun s => gs.any (fun g => (grantSyms g.raw).contains s))

/-- SRS items are deferrable while the newest valid result is younger than the limit (R127, R167). -/
def State.srsClass (s : State) (carrier r : Nat) (payload : List Byte) (slot : Word) : Nat :=
  let last := Map.get 0 s.ppt.srs carrier
  if last ≠ 0 ∧ s.srsAge carrier r slot < carAgeLimit payload then 2 else 1

/-- Items of an uplink carrier slot with the grants admitted in it (R94, R105, R155, R167). The grants of a bound flow in one slot share its
template, in the order in which they came (R178). -/
def State.ulBatch (s : State) (slot : Word) (e : Nat × Carrier) (gs : List Grant) : List Item :=
  let c := e.1
  let p := s.plan c e.2.payload
  let j := s.frameSlot slot / p.r
  let work := Config.slotWork e.2.payload j
  let kindSyms := fun k => (List.range 14).filter (fun x => work.contains (k, x))
  let ctl := kindSyms 1
  let mea := kindSyms 2
  let used := (List.range 14).filter (fun x => (symsOf gs).contains x || ctl.contains x || mea.contains x)
  let clsAt := fun x => if ctl.contains x then 0 else
    lowestClass 2 ((gs.filter (fun g => (grantSyms g.raw).contains x)).map (·.cls))
  let slotItems := (ulSlotItems p slot c j 0 used).map (fun i => if i.work = .combining then { i with cls := clsAt i.symbol } else i)
  let paired := fun (g : Grant) => ((s.flow (le g.raw 0 4)).map (fun f => le f.payload 7 1 == 0)).getD false
  let itemsOf := fun (g : Grant) => ulItems p slot c j g.cls g.id (paired g) g.raw
  let grantItems := gs.flatMap (fun g =>
    match s.ppt.binding (le g.raw 0 4) with
    | some b =>
      if g.cls = 0 then
        let before := ((gs.takeWhile (fun x => x.id != g.id)).filter (fun x => x.cls == 0 && le x.raw 0 4 == b.flow)).flatMap itemsOf
        (capTemplate (s.ppt.priced s.cal 0 e.2.home) (templateOf b.payload) (before ++ itemsOf g)).drop before.length
      else itemsOf g
    | none => itemsOf g)
  slotItems ++ grantItems ++ srsItems p slot c j (s.srsClass c p.r e.2.payload slot) (kindSyms 0) ++
    ctl.map (slotWorkItem p slot c j true) ++ mea.map (slotWorkItem p slot c j false)

/-- Items of a downlink carrier slot (R114, R155). -/
def State.dlBatch (s : State) (slot : Word) (e : Nat × Carrier) (gs : List Grant) : List Item :=
  let c := e.1
  let p := s.plan c e.2.payload
  let j := s.frameSlot slot / p.r
  let data := gs.filter (fun g => !Config.isPdcch g.raw)
  let cls := if gs = [] then 0 else lowestClass 1 (gs.map (·.cls))
  gs.map (fun g => encodeItem p slot c g.cls g.id) ++
    (List.range 14).map (fun x =>
      let mine := data.filter (fun g => (grantSyms g.raw).contains x)
      mapItem p slot c j (if mine = [] then cls else lowestClass 1 (mine.map (·.cls))) (((mine.head?).map (·.id)).getD 0) x) ++
    dlSlotItems p slot c j cls

/-- SSB build items of a frame tick (R123, R155): for the next frame, where its SSB falls due. -/
def State.ssbBatch (s : State) (t : Tick) : List Item :=
  if !t.frame then []
  else s.ppt.inUse.flatMap (fun e =>
    if carSsb e.2.payload ∧ (s.getF Rg.DRM_POSITION Fd.DRM_POSITION_sfn + 1) % ssbFrames e.2.payload = 0 then
      buildItems (s.plan e.1 e.2.payload) (s.refOf t) e.1 t.frameC (symsPerFrame s.scs) e.2.payload
    else [])

/-- The batch of a slot tick with the grants that are left in it (R155). -/
def State.batch (s : State) (t : Tick) (gs : List Grant) : List Item :=
  let now := s.refOf t
  s.ppt.inUse.flatMap (fun e =>
    let r := (s.plan e.1 e.2.payload).r
    let mine := fun (dl : Bool) => gs.filter (fun g => g.downlink == dl && le g.raw 8 2 == e.1)
    (if carLayersUl e.2.payload ≠ 0 ∧ s.slotStart (ulSlot now) r then s.ulBatch (ulSlot now) e (mine false) else []) ++
    (if s.slotStart (dlSlot now r) r then s.dlBatch (dlSlot now r) e (mine true) else [])) ++ s.ssbBatch t

/-- Items of a list numbered from `n` (R35). -/
def numbered (n : Nat) (is : List Item) : List Item := ((List.range is.length).zip is).map (fun e => { e.2 with id := n + e.1 })

/-- Gates (R95): combining and SRS covariance wait for the ingress item of their symbol. -/
def gated (is : List Item) : List Item :=
  is.map (fun i => if i.work = .combining ∨ i.work = .srs then
    { i with gate := (is.find? (fun x => x.work == .ingress && x.carrier == i.carrier && x.symbol == i.symbol &&
      x.issue == i.issue)).map (·.id) } else i)

/-- The limits of a test at a slot tick (R158, R160). -/
def State.lim (s : State) (now : Word) : Lim :=
  { cal := s.cal, clk := s.clk, now := now, fill := s.getF Rg.PPT_CTRL Fd.PPT_CTRL_time_fill, scale := 256,
    budget := (s.rd Rg.PPT_SLOT_BUDGET).toNat,
    heat := (List.range 18).map (fun c => (c, (s.rd (Rg.PPT_HEADROOM c)).toNat)), active := s.actives,
    heated := s.actives.filter (fun c => role s.regs c == rActive),
    pass := s.drum.items.filter (fun i => i.phase == .admitted && decide (i.stage ≤ 1)) }

/-- The items of a batch that are valid (R34, R35), with those that are placed again (R182): an item placed again of a grant that is
refused with the batch goes with it. -/
def State.batchItems (s : State) (t : Tick) (extra : List Item) (gs : List Grant) : List Item :=
  extra.filter (fun i => i.grant = 0 || gs.any (fun g => g.id == i.grant)) ++
    (gated (numbered s.drum.nextItem (s.batch t (gs.filter (fun g => g.admitted.isNone))))).filter (fun i => pairOk i.issue i.deadline)

/-- The calendar without what goes with a refused grant whose items are placed again (R170, R182): its items not yet released. -/
def State.standing (s : State) (extra : List Item) (gs : List Grant) : List Item :=
  s.calendar.filter (fun i => !(i.phase == .admitted && i.grant != 0 && extra.any (fun x => x.grant == i.grant) &&
    !gs.any (fun g => g.id == i.grant)))

/-- An attempt at a level: the items of the batch that the level admits, placed. -/
def State.attempt (s : State) (t : Tick) (extra : List Item) (gs : List Grant) (level scale : Nat) : Placed :=
  s.ppt.placeAll s.regs { s.lim (s.refOf t) with scale := scale } level (s.standing extra gs)
    (shed level s.occasion (s.batchItems t extra gs))

/-- Order in which standard grants are removed (R170). -/
def State.removeKey (s : State) (g : Grant) : List Int :=
  let id := le g.raw 0 4
  let i := s.ppt.flows.findIdx (fun f => f.id == id)
  [((s.flow id).map (fun f => (le f.payload 8 1 : Int))).getD 0, -(i : Int), -(le g.raw 8 2 : Int)]

/-- Remove standard grants until the batch fits (R170): the grants that stay. -/
def removeUntil (fits : List Grant → Bool) : List Grant → List Grant → List Grant
  | [], gs => gs
  | g :: rest, gs => if fits gs then gs else removeUntil fits rest (gs.filter (fun x => x.id != g.id))

/-- What a batch comes to (R169, R170, R173): level, grants kept, items placed, whether R173 applied. -/
structure Verdict where
  level : Nat
  kept : List Grant
  placed : Placed
  exceeds : Bool
  deriving DecidableEq, Repr

/-- The ladder over a batch (R169, R170, R173): `gs` are the grants of the batch and those whose items are placed again (R182). Where
protected work does not fit at level 13, every standard grant is refused, every deferrable item is shed, and protected items that have
no place are forced (R173); where it does, what has no place beside it is not admitted. DESIGN CHOICE (log entry 201): a batch that fits
under the limits scaled down while relaxing is admitted with the placement made under them. -/
def State.ladder (s : State) (t : Tick) (extra : List Item) (gs : List Grant) : Verdict :=
  let l := s.lim (s.refOf t)
  let fits := fun (gs : List Grant) (level scale : Nat) =>
    (s.attempt t extra gs level scale).fits { l with scale := scale }
  let prev := s.getF Rg.PPT_STATUS Fd.PPT_STATUS_shed_level
  let level := chooseLevel (fits gs) prev (s.getF Rg.PPT_CTRL Fd.PPT_CTRL_relax_margin) 15 (prev - 1)
  let std := sortBy s.removeKey (gs.filter (fun g => g.cls ≠ 0))
  let kept := if level = 13 then removeUntil (fun gs => fits gs 13 256) std gs else gs
  let scale := if level < prev then s.getF Rg.PPT_CTRL Fd.PPT_CTRL_relax_margin else 256
  let p := s.attempt t extra kept level scale
  let only := fun (keep : Item → Bool) => s.ppt.placeAll s.regs l 13 (s.standing extra kept)
    ((shed 13 s.occasion (s.batchItems t extra kept)).filter keep)
  let prot := only (fun i => i.cls == 0)
  let excess := level == 13 && !p.fits l
  let exceeds := excess && !prot.fits l
  let q := only (fun i => i.cls != 2)
  ⟨level, kept,
    if exceeds then s.ppt.force s.regs l 13 { q with left := q.left.filter (fun i => i.cls == 0) }
    else if excess && !l.fitsAll p.all then prot
    else { p with left := [] }, exceeds⟩

/-- Write the decoder caps of the active clusters (R171). -/
def State.writeCaps (s : State) (level : Nat) : State :=
  let ls := level :: (s.drum.items.filter (fun i => !i.ended && i.work == .decoding)).map (·.level)
  let k := tightest ls
  let put := fun (m : SMap Word) (c : Nat) =>
    putR (putR m (Rg.ZCL_DEC_ITER_CAP c) Fd.ZCL_DEC_ITER_CAP_shed_extra k.1) (Rg.ZCL_DEC_ITER_CAP c) Fd.ZCL_DEC_ITER_CAP_cap_standard k.2
  { s with regs := s.actives.foldl put s.regs }

/-- Count the SRS items of a batch that were not admitted, by carrier (R127, R168). -/
def State.countShed (s : State) (is done : List Item) : State :=
  (is.filter (fun i => (i.work == .srs || i.work == .derive) && !done.any (fun d => d.id == i.id))).foldl
    (fun s i => s.fwBump (fwCarrier i.carrier 7) 1) s

/-- Reservations of the slots that are admitted now are released; those that no grant uses are counted (R178). -/
def State.releaseReserves (s : State) (due : List Grant) (now : Word) : State :=
  let gone := s.ppt.reserves.filter (fun r => !refAfter r.slotRef (ulSlot now))
  let s := (gone.filter (fun r => !due.any (fun g => le g.raw 0 4 == r.flow && le g.raw 4 4 == r.slotRef.toNat))).foldl
    (fun s r => s.flowBump r.flow 8 1) s
  { s with ppt := { s.ppt with reserves := s.ppt.reserves.filter (fun r => refAfter r.slotRef (ulSlot now)) } }

/-- Parapet as an agent (R368). -/
def pptAgent : Nat := 2

/-- Parapet reads the calibration rows by which a batch is priced (R154, R164). -/
def State.readCalRows (s : State) (is : List Item) : State :=
  ((is.flatMap s.ppt.rowsOf).eraseDups).foldl (fun s r => s.memRead pptAgent (calAddr r) 64) s

/-- Admission of a slot tick (R155 to R173): grants are taken, answered or admitted; the batch is placed. -/
def State.admission (s : State) (t : Tick) : State :=
  let now := s.refOf t
  let s := s.takeGrants
  let s := s.readCalRows (s.batch t (s.ppt.grants.filter (fun g => g.admitted.isNone && s.fate now g == .due)))
  let open_ := s.ppt.grants.filter (fun g => g.admitted.isNone)
  let of := fun (f : GrantFate) => open_.filter (fun g => s.fate now g == f)
  let off := s.getF Rg.PPT_CTRL Fd.PPT_CTRL_enable == 0 || s.ppt.rebuilding
  let due := (of .due).map (fun g => { g with cls := s.grantClass g })
  let extra := s.drum.items.filter (fun i => i.phase == .admitted && i.cluster == 0xFF && decide (2 ≤ i.stage))
  let base := { s with
    drum := { s.drum with items := s.drum.items.filter (fun i => !extra.contains i) }
    ppt := { s.ppt with
      reserves := s.ppt.reserves.filter (fun r => refAfter r.slotRef (ulSlot now))
      grants := s.ppt.grants.map (fun (g : Grant) => ((due.find? (fun (d : Grant) => d.id == g.id)).getD g)) } }
  let again := s.ppt.grants.filter (fun g => g.admitted.isSome && extra.any (fun i => i.grant == g.id))
  let v : Verdict := if off then ⟨0, [], ⟨[], [], []⟩, false⟩ else base.ladder t extra (due ++ again)
  let out := (due ++ again).filter (fun g => !v.kept.any (fun k => k.id == g.id))
  let refused := of .refused ++ out.filter (fun g => !g.answered)
  let gone := refused ++ out ++ of .late
  let regs := putR s.regs Rg.PPT_STATUS Fd.PPT_STATUS_shed_level v.level
  let demand := (v.placed.done.filter (fun i => decide (2 ≤ i.stage))).foldl (fun n i => n + i.energy) 0
  let regs := wrR regs Rg.PPT_LAST_DEMAND (BitVec.ofNat 32 (min 0xFFFFFFFF demand))
  let u := { s with
    regs := regs
    drum := { base.drum with
      items := base.drum.items.filter (fun (i : Item) => !(i.phase == Phase.admitted && out.any (fun (g : Grant) => i.grant == g.id))) ++
        v.placed.done
      nextItem := (s.drum.nextItem + (s.batch t due).length) % 2 ^ 32 }
    ppt := { s.ppt with grants := (s.ppt.grants.filter (fun (g : Grant) => !gone.any (fun x => x.id == g.id))).map (fun (g : Grant) =>
      match v.kept.find? (fun (k : Grant) => k.id == g.id) with
      | some k => if k.admitted.isSome then k else { k with admitted := some v.level, answered := k.downlink && Config.isPdcch k.raw }
      | none => g) } }
  let u := u.placeBlocks ((v.kept.filter (·.admitted.isNone)).map (·.id))
  let u := u.releaseReserves due now
  let u := u.countShed (base.batchItems t extra (due ++ again)) v.placed.done
  let u := if v.level = 0 then u else u.bump Rg.PPT_SHED_SLOTS 1
  let u := if v.exceeds then
      let r := u.rep.bump Rg.PPT_PROTECTED_OVER 1
      u.withRep ({ r with regs := putR r.regs Rg.PPT_STATUS Fd.PPT_STATUS_protected_over 1 }.fire 33 2 [])
    else u
  let u := refused.foldl (fun u g => u.refuse g.downlink g.raw) u
  let u := (of .late).foldl (fun u g => u.grantLate (le g.raw 8 2) g.downlink g.raw) u
  u.writeCaps v.level

/-- Hottest valid sensor of a list of numbers; an unlisted sensor reads as at reset, valid at 0 degrees (log entry 3). -/
def hottest (m : SMap Sensor) (ids : List Nat) : Option Int :=
  (ids.filterMap (fun i => let r := Map.get ⟨0, 0, true⟩ m i; if r.valid then some r.temp else none)).foldl
    (fun (a : Option Int) t => match a with | some b => some (max b t) | none => some t) none

/-- Limit temperature in 1/256 degrees (PPT_THERMAL). -/
def tLim (regs : SMap Word) : Int := sgn 16 (getR regs Rg.PPT_THERMAL ⟨16, 16⟩)

/-- Headroom of a cluster in uJ per slot (R162): temperatures in 1/256 degrees, beta and theta in 1/65,536, idle power in mW. -/
def headroom (lim tc tref : Int) (beta theta idle units : Nat) : Nat :=
  let num : Int := (lim - tc) * 65536 + (tc - tref) * beta
  let den : Int := 256 * beta * theta
  ((num * 65536 * 1000 - idle * den) * units / (den * 983040)).toNat

/-- Temperature that the model predicts for a power in mW (R162). -/
def predicted (tc tref : Int) (beta theta mw : Nat) : Int :=
  tc + (beta : Int) * (tref + (theta : Int) * mw * 256 / (65536 * 1000) - tc) / 65536

/-- Calibration band of a temperature (R164). -/
def bandOf (t : Int) : Nat := (min 7 (max 0 ((t + 40 * 256) / (20 * 256)))).toNat

/-- The thermal model at a slot tick (R162, R163): T_ref, the headrooms, a sensor fault where a cluster has no valid sensor, the
bands by each cluster's measured power, which is a free value. Without a valid corner sensor T_ref is T_lim (log entry 44). -/
def State.thermal (s : State) : State :=
  let lim := tLim s.regs
  let tref := (hottest s.thm.sensors [54, 55, 56, 57]).getD lim
  let tc := fun c => hottest s.thm.sensors [3 * c, 3 * c + 1, 3 * c + 2]
  let head := fun c => if role s.regs c = rActive then
    headroom lim ((tc c).getD lim) tref (Config.beta c) (Config.theta c) (Config.pIdle c ((tc c).getD lim)) (slotUnits s.scs) else 0
  let regs := putR s.regs Rg.PPT_THERMAL ⟨0, 16⟩ (twos 16 tref)
  let regs := (List.range 18).foldl (fun m c => wrR m (Rg.PPT_HEADROOM c) (BitVec.ofNat 32 (min 0xFFFFFFFF (head c)))) regs
  let u := { s with
    regs := regs
    free := s.free + 18
    ppt := { s.ppt with bands := (List.range 18).foldl (fun m c =>
      Map.set 0 m c (bandOf (predicted ((tc c).getD lim) tref (Config.beta c) (Config.theta c) (s.peek c)))) s.ppt.bands } }
  ((List.range 18).filter (fun c => (tc c).isNone)).foldl (fun (u : State) _ => u.raise 34 2 []) u

/-- Rates in use, in order of their first binding. -/
def Parapet.rates (p : Parapet) : List Nat := (p.bindings.map (fun b => le b.payload 4 1)).foldl (fun l r => if l.contains r then l else l ++ [r]) []

/-- The accumulators after a slot tick (R175): set where a rate comes into use or the studio base has been reacquired, else
advanced. -/
def accumStep (p : Parapet) (studio delta : Nat) (reset : Bool) : List Accum :=
  p.rates.map (fun r =>
    let fresh := studio * rateN r % rateM r
    match p.accums.find? (fun a => a.rate == r) with
    | some a =>
      let n := a.phase + delta * rateN r
      if reset then { a with phase := fresh } else { a with phase := n % rateM r, index := a.index + n / rateM r }
    | none => ⟨r, fresh, 0⟩)

/-- Place the reservation of a bound flow from a slot on, and enqueue its descriptor (R176, R177); slots held already are merged. DESIGN
CHOICE (log entry 201): a burst that is merged whole brings no descriptor. -/
def State.reserve (s : State) (b : Binding) (frame : Nat) (slot : Word) (burst r : Nat) (freeRun : Bool) : State :=
  let slots := (List.range burst).map (fun i => tickRef (refSlot slot + i * r) 0)
  let new := slots.filter (fun x => !s.ppt.reserved b.flow x)
  let t := { s with ppt := { s.ppt with reserves := s.ppt.reserves ++ new.map (fun x => ⟨b.flow, x, false, freeRun⟩) } }
  if new = [] then t
  else t.deliver s.ctrlUnit (le b.payload 32 4 % 2 ^ 20)
    (leBytes 4 b.flow ++ leBytes 4 frame ++ leBytes 4 slot.toNat ++ leBytes 1 burst ++ leBytes 1 (b2n freeRun) ++ leBytes 2 0) b.flow false

/-- First slot of a carrier of ratio `r`, of those 1 to `ahead` master slots on, that begins at or after a radio time. -/
def State.targetSlot (s : State) (now : Word) (r ahead : Nat) (x : Int) : Option Nat :=
  ((List.range ahead).map (· + 1)).find? (fun k =>
    s.slotStart (tickRef (refSlot now + k) 0) r && decide (x ≤ (s.clk.time (14 * (k : Int)) : Nat)))

/-- Project the frames of a binding that are not placed yet (R176), from the first whose burst can still lie ahead: a boundary goes back no
more than the encode delay. -/
def State.project (now : Word) (tick u delta : Nat) : Nat → State → Binding → State
  | 0, s, _ => s
  | n + 1, s, b =>
    match s.flow b.flow, s.ppt.accums.find? (fun a => a.rate == le b.payload 4 1) with
    | some f, some a =>
      let c := le f.payload 4 2
      let r := (s.plan c (s.ppt.carPayload c)).r
      let rate := le b.payload 4 1
      let late := ceilDiv (le b.payload 8 4 * 65536 * rateN rate) (rateM rate)
      let frame := max (b.placed + 1) (a.index - late)
      let j : Int := (frame : Int) - a.index
      let d := ceilDivI ((j * rateM rate - a.phase) * u) ((rateN rate * delta : Nat) : Int)
      let e := ceilDiv (le b.payload 8 4 * 65536 * u) delta
      let x : Int := (tick : Int) + d + e
      let next : Binding := { b with placed := frame }
      let keep := fun (s : State) => { s with ppt := { s.ppt with
        bindings := s.ppt.bindings.map (fun y => if y.flow = b.flow then next else y) } }
      if x ≤ tick then State.project now tick u delta n (keep s) next
      else match s.targetSlot now r (le b.payload 6 1) x with
        | some k => State.project now tick u delta n
            (keep (s.reserve b (frame % 2 ^ 32) (tickRef (refSlot now + k) 0) (le b.payload 5 1) r false)) next
        | none => s
    | _, _ => s

/-- Free-run reservation (R179): the template in every carrier slot up to the lookahead. -/
def State.freeRun (s : State) (now : Word) (b : Binding) : State :=
  match s.flow b.flow with
  | none => s
  | some f =>
    let c := le f.payload 4 2
    let r := (s.plan c (s.ppt.carPayload c)).r
    let a := s.ppt.accums.find? (fun a => a.rate == le b.payload 4 1)
    (List.range (le b.payload 6 1)).foldl (fun s k =>
      let slot := tickRef (refSlot now + k + 1) 0
      if s.slotStart slot r then s.reserve b (((a.map (·.index)).getD 0) % 2 ^ 32) slot 1 r true else s) s

/-- Cadence at a slot tick (R175, R176, R179): studio and radio time as latched at the tick, accumulators advance, reservations are
placed. -/
def State.cadence (s : State) (t : Tick) : State :=
  let now := s.refOf t
  let studio := t.studio
  let free := tbUnsync s.regs 1
  let was := s.flag Rg.PPT_STATUS Fd.PPT_STATUS_cadence_suspended
  let delta := match s.ppt.latched with | some l => studio - l.1 | none => 0
  let u := match s.ppt.latched with | some l => t.time - l.2 | none => 0
  let accs := accumStep s.ppt studio delta ((was && !free) || s.ppt.latched.isNone)
  let regs := putR s.regs Rg.PPT_STATUS Fd.PPT_STATUS_cadence_suspended (b2n free)
  let regs := putR regs Rg.PPT_CADENCE_STATUS Fd.PPT_CADENCE_STATUS_accumulators (2 ^ accs.length - 1)
  let v := { s with regs := regs, ppt := { s.ppt with accums := accs, latched := some (studio, t.time) } }
  if free then v.ppt.bindings.foldl (fun v b => v.freeRun now b) v
  else if delta = 0 ∨ u = 0 then v
  else v.ppt.bindings.foldl (fun v b => State.project now t.time u delta 16 v b) v

end Sys2Proof.Machine
end

