-- ==== Sys2Proof/Machine/DmaOps.lean ====
section
/-! DEFINITION. What a DMA channel does with its descriptors (R263 to R270): taking one, its checks, the five operations, the end of a
descriptor. -/
namespace Sys2Proof.Machine

/-- Operations of a descriptor (R263). -/
def opCopy : Nat := 0
def opFill : Nat := 1
def opCompare : Nat := 2
def opEnqueue : Nat := 3
def opDequeue : Nat := 4

/-- Fields of a descriptor (R263). -/
def dOp (d : List Byte) : Nat := le d 0 1
def dFlagged (d : List Byte) : Bool := bit (le d 1 1) 0
def dTwo (d : List Byte) : Bool := bit (le d 1 1) 2
def dLen (d : List Byte) : Nat := le d 4 4
def dSrc (d : List Byte) : Nat := le d 8 8
def dDst (d : List Byte) : Nat := le d 16 8
def dStat (d : List Byte) : Nat := le d 24 8
def dQueue (d : List Byte) : Nat := le d 32 4 % 1048576
def dRows (d : List Byte) : Nat := if dTwo d then le d 36 2 else 1
def dSrcRow (d : List Byte) (i : Nat) : Nat := dSrc d + i * le d 40 4
def dDstRow (d : List Byte) (i : Nat) : Nat := dDst d + i * le d 44 4
def dNext (d : List Byte) : Nat := le d 56 8

/-- Halt a channel (R268, R269) and write the status word of a flagged descriptor, with the bytes that it came to (R264). -/
def State.dmaHalt (s : State) (e ch code addr : Nat) (d : List Byte) (bytes : Nat) : State :=
  let t := s.withQx (s.qx.halt e ch code addr [])
  if dFlagged d then t.busWrite (chUnit e ch) (dStat d) (clean (statusWord 3 0 code bytes addr)) else t

/-- Channels at work that are paced by a queue (R270, R282). -/
def pacedBy (regs : SMap Word) (q : Nat) : List (Nat × Nat) :=
  ((List.range 22).flatMap (fun e => (List.range 32).map (fun ch => (e, ch)))).filter (fun c =>
    hasChan c.1 c.2 && isPaced regs c.1 c.2 && chQueue regs c.1 c.2 == q &&
      (chState regs c.1 c.2 == chRunning || chState regs c.1 c.2 == chPaused))

/-- Delete a queue (R282): channels paced by it halt with PACE_QUEUE_GONE. -/
def State.queueGone (s : State) (q : Nat) : State :=
  (pacedBy s.regs q).foldl (fun t c =>
    let k := t.chan c.1 c.2
    t.dmaHalt c.1 c.2 0x06 0 k.desc (if k.ran then k.bytes else 0)) (s.withQx (s.qx.delete q))

/-- A descriptor breaks R263 (BAD_DESC, R269); the entry size is that of a valid queue. -/
def badDesc (d : List Byte) (t : QState) : Bool :=
  decide (4 < dOp d) || le d 2 1 % 8 == 7 || le d 2 1 / 16 % 8 == 7 || dLen d == 0 || (dTwo d && le d 36 2 == 0) ||
    (decide (3 ≤ dOp d) && t.valid && !t.broken && dLen d % t.esz != 0)

/-- The strict check (R268): the first failure, with its code and offending address; a length or pitch has the descriptor's. -/
def strictBad (d : List Byte) (addr : Nat) : Option (Nat × Nat) :=
  let sw := 2 ^ (le d 2 1 % 8)
  let dw := 2 ^ (le d 2 1 / 16 % 8)
  let w := max sw dw
  if dSrc d % sw ≠ 0 then some (0x01, dSrc d)
  else if dDst d % dw ≠ 0 then some (0x01, dDst d)
  else if dStat d % 16 ≠ 0 then some (0x01, dStat d)
  else if dLen d % w ≠ 0 then some (0x02, addr)
  else if dTwo d ∧ (le d 40 4 % w ≠ 0 ∨ le d 44 4 % w ≠ 0) then some (0x02, addr)
  else none

/-- A channel of a powered engine that runs and has no abort pending. -/
def State.chGoes (s : State) (e ch : Nat) : Bool :=
  engPowered s.regs e && chState s.regs e ch == chRunning && !(s.chan e ch).aborting

/-- Pause a channel (R270). -/
def State.chPause (s : State) (e ch : Nat) : State := { s with regs := putCh s.regs e ch chPaused }

/-- What taking a descriptor comes to: it is in hand, or the channel has halted or paused. -/
inductive Took where
  | desc (s : State) (d : List Byte)
  | stopped (s : State)

/-- A descriptor has been taken: its index since the start shows in DMA_CH_STATUS. -/
def State.countDesc (s : State) (e ch : Nat) : State :=
  let c := s.chan e ch
  { s with
    regs := putR s.regs (Rg.DMA_CH_STATUS e ch) Fd.DMA_CH_STATUS_desc_index c.taken
    dma := setChan s.dma e ch { c with taken := c.taken + 1 } }

/-- Take the next descriptor (R270, R269): from the pacing queue of a consumer, else from memory; a producer looks at the fill
first. -/
def State.takeDesc (s : State) (e ch : Nat) : Took :=
  let c := s.chan e ch
  let q := chQueue s.regs e ch
  if c.desc ≠ [] then .desc s c.desc
  else if chPace s.regs e ch = 1 then
    let r := s.qx.dequeue (chUnit e ch) q
    let t := s.withQx r.1
    let k := s.queueSeen q
    if r.2.1 = qEmpty then
      .stopped { t.chPause e ch with dma := setChan t.dma e ch { t.chan e ch with flushing := false } }
    else if r.2.1 = qFault then
      .stopped (t.dmaHalt e ch 0x03 ((firstBad s.regs qmAgent (k.slot k.head) k.esz).getD (k.slot k.head)) [] 0)
    else if r.2.1 ≠ qOk then .stopped (t.dmaHalt e ch 0x06 0 [] 0)
    else if anyP r.2.2 then .stopped ((t.countDesc e ch).dmaHalt e ch 0x05 0 [] 0)
    else .desc (t.countDesc e ch) (vals r.2.2)
  else if chPace s.regs e ch = 2 ∧ chHigh s.regs e ch ≤ (s.queue q).fill then .stopped (s.chPause e ch)
  else
    let a := c.addr
    match s.decodeBad (chUnit e ch) a 64 with
    | some b => .stopped (((s.busRead (chUnit e ch) a 64).countDesc e ch).dmaHalt e ch 0x03 b [] 0)
    | none =>
      let bs := s.busBytes (chUnit e ch) a 64
      let t := s.busRead (chUnit e ch) a 64
      if anyP bs then .stopped ((t.countDesc e ch).dmaHalt e ch 0x05 a [] 0) else .desc (t.countDesc e ch) (vals bs)

/-- What an operation comes to: result, bytes and offset of the status word, and bytes written; or a decode error, after so many bytes
passed and written. -/
inductive Ran where
  | done (s : State) (result bytes offset written : Nat)
  | bad (s : State) (addr bytes written : Nat)
  /-- Accesses wait for another device; the operation runs again. -/
  | wait (s : State)

/-- An operation whose accesses wait for another device (log entry 171): `h` has the descriptor in hand; only its requests are kept. -/
def Ran.settled (r : Ran) (h : State) (u : Nat) : Ran :=
  match r with
  | .done t result bytes offset written =>
    if t.span.outstanding u then .wait { h with span := t.span }
    else .done { t with span := t.span.settle u } result bytes offset written
  | .bad t a b w => if t.span.outstanding u then .wait { h with span := t.span } else .bad { t with span := t.span.settle u } a b w
  | .wait t => .wait t

/-- The accesses to `n` bytes at an address at a width of `w` bytes (R266): aligned to their sizes, narrower at the ends. -/
def widthCuts (w : Nat) : Nat → Nat → Nat → List (Nat × Nat)
  | 0, _, _ => []
  | fuel + 1, a, n =>
    if n = 0 then []
    else
      let k := ((List.range 7).map (fun i => 2 ^ i)).foldl (fun m i => if i ≤ w ∧ a % i = 0 ∧ i ≤ n then i else m) 1
      (a, k) :: widthCuts w fuel (a + k) (n - k)

/-- The accesses of one row. The register blocks see the accesses of R266; in memories and beyond they come to the same as the whole row
(log entry 207). -/
def rowCuts (regs : SMap Word) (w a n : Nat) : List (Nat × Nat) :=
  match placeOf regs a with
  | .here x => if isReg x then widthCuts w n a n else [(a, n)]
  | .there _ _ _ => [(a, n)]
  | .nowhere => [(a, n)]

/-- Read a row at a width: the state after, and the bytes. -/
def State.dmaRead (s : State) (u w a n : Nat) : State × List PByte :=
  (rowCuts s.regs w a n).foldl (fun r c => (r.1.busRead u c.1 c.2, r.2 ++ r.1.busBytes u c.1 c.2)) (s, [])

/-- Write a row at a width. -/
def State.dmaWrite (s : State) (u w a : Nat) (bs : List PByte) : State :=
  (rowCuts s.regs w a bs.length).foldl (fun s c => s.busWrite u c.1 ((bs.drop (c.1 - a)).take c.2)) s

/-- Widths of a descriptor in bytes (R263). -/
def dSrcW (d : List Byte) : Nat := 2 ^ (le d 2 1 % 8)
def dDstW (d : List Byte) : Nat := 2 ^ (le d 2 1 / 16 % 8)

/-- One row of a COPY (R263, R266): what lies before a faulting byte is written. -/
def State.copyRow (s : State) (u sw dw src dst n : Nat) : Ran :=
  let bs := s.decodeBad u src n
  let bd := s.decodeBad u dst n
  let os := (bs.map (· - src)).getD n
  let od := (bd.map (· - dst)).getD n
  let k := min os od
  let r := s.dmaRead u sw src k
  let t := r.1.dmaWrite u dw dst r.2
  if k = n then .done t 0 n 0 n
  else if os ≤ od then .bad (t.decodeMet (src + os)) (src + os) k k
  else .bad (t.decodeMet (dst + od)) (dst + od) k k

/-- Rows one after the other, until a decode error. -/
def rowsRun (row : State → Nat → Ran) (s : State) (n : Nat) : Ran :=
  (List.range n).foldl (fun (r : Ran) i => match r with
    | .bad s a b w => .bad s a b w
    | .wait s => .wait s
    | .done s _ b _ w =>
      match row s i with
      | .bad s a b' w' => .bad s a (b + b') (w + w')
      | .wait s => .wait s
      | .done s _ b' _ w' => .done s 0 (b + b') 0 (w + w')) (.done s 0 0 0 0)

/-- One row of a FILL (R263, R266). -/
def State.fillRow (s : State) (u dw dst n : Nat) (pattern : List Byte) : Ran :=
  let k := ((s.decodeBad u dst n).map (· - dst)).getD n
  let t := s.dmaWrite u dw dst (clean ((List.range k).map (fun i => nth 0 pattern (i % 8))))
  if k = n then .done t 0 n 0 n else .bad (t.decodeMet (dst + k)) (dst + k) k k

/-- First byte at which two rows differ or are poisoned: its offset and the result. -/
def compareAt (a b : List PByte) : Option (Nat × Nat) :=
  ((List.range a.length).zip (a.zip b)).findSome? (fun x =>
    if x.2.1.p || x.2.2.p then some (x.1, 2) else if x.2.1.v != x.2.2.v then some (x.1, 1) else none)

/-- What a COMPARE has come to: still equal, decided, or a decode error. -/
inductive Cmp where
  | equal (s : State)
  | decided (s : State) (offset result : Nat)
  | bad (s : State) (addr bytes : Nat)

/-- A COMPARE (R263, R264). -/
def State.compareRows (s : State) (u : Nat) (d : List Byte) : Ran :=
  let n := dLen d
  let r := (List.range (dRows d)).foldl (fun (r : Cmp) i => match r with
    | .equal s =>
      let a := dSrcRow d i
      let b := dDstRow d i
      let ka := ((s.decodeBad u a n).map (· - a)).getD n
      let kb := ((s.decodeBad u b n).map (· - b)).getD n
      let k := min ka kb
      let x := s.dmaRead u (dSrcW d) a k
      let y := x.1.dmaRead u (dDstW d) b k
      let t := y.1
      match compareAt x.2 y.2 with
      | some (o, q) => .decided t (i * n + o) q
      | none =>
        if k = n then .equal t
        else if ka ≤ kb then .bad (t.decodeMet (a + ka)) (a + ka) (i * n + k) else .bad (t.decodeMet (b + kb)) (b + kb) (i * n + k)
    | x => x) (.equal s)
  match r with
  | .equal s => .done s 0 (dRows d * n) (dRows d * n) 0
  | .decided s o q => .done s q (o + 1) o 0
  | .bad s a b => .bad s a b 0

/-- Addresses of the entries that an ENQUEUE or DEQUEUE passes over. -/
def entryAddrs (d : List Byte) (esz : Nat) (row : Nat → Nat) : List Nat :=
  (List.range (dRows d)).flatMap (fun i => (List.range (dLen d / esz)).map (fun j => row i + j * esz))

/-- An ENQUEUE (R263) of the first `most` entries: in order until one is not accepted. On a queue that is not valid, or broken, the first
operation says so (R275). -/
def State.enqueueRun (s : State) (u : Nat) (d : List Byte) (most : Nat) : Ran :=
  let t := s.queueSeen (dQueue d)
  let esz := t.esz
  if !t.valid || t.broken then
    let q := s.qx.enqueue u (dQueue d) []
    .done (s.withQx q.1) q.2 0 0 0
  else ((entryAddrs d esz (dSrcRow d)).take most).foldl (fun (r : Ran) a => match r with
    | .done s 0 b o w =>
      match s.decodeBad u a esz with
      | some x => .bad (s.decodeMet x) x b w
      | none =>
        let bs := s.busBytes u a esz
        let q := (s.busRead u a esz).qx.enqueue u (dQueue d) bs
        let t := (s.busRead u a esz).withQx q.1
        if q.2 = qOk then .done t 0 (b + esz) o (w + esz) else .done t q.2 b o w
    | x => x) (.done s 0 0 0 0)

/-- A DEQUEUE (R263) of the first `most` entries: in order until none is given; on a queue that is not valid, or broken, as an ENQUEUE. -/
def State.dequeueRun (s : State) (u : Nat) (d : List Byte) (most : Nat) : Ran :=
  let t := s.queueSeen (dQueue d)
  let esz := t.esz
  if !t.valid || t.broken then
    let q := s.qx.dequeue u (dQueue d)
    .done (s.withQx q.1) q.2.1 0 0 0
  else ((entryAddrs d esz (dDstRow d)).take most).foldl (fun (r : Ran) a => match r with
    | .done s 0 b o w =>
      let q := s.qx.dequeue u (dQueue d)
      let t := s.withQx q.1
      if q.2.1 ≠ qOk then .done t q.2.1 b o w
      else
        match t.decodeBad u a esz with
        | some x => .bad (t.busWrite u a q.2.2) x b w
        | none => .done (t.busWrite u a q.2.2) 0 (b + esz) o (w + esz)
    | x => x) (.done s 0 0 0 0)

/-- Run the operation of a descriptor. -/
def State.dmaOp (s : State) (u : Nat) (d : List Byte) : Ran :=
  match dOp d with
  | 0 => rowsRun (fun s i => s.copyRow u (dSrcW d) (dDstW d) (dSrcRow d i) (dDstRow d i) (dLen d)) s (dRows d)
  | 1 => rowsRun (fun s i => s.fillRow u (dDstW d) (dDstRow d i) (dLen d) ((d.drop 48).take 8)) s (dRows d)
  | 2 => s.compareRows u d
  | 3 => s.enqueueRun u d (dRows d * dLen d)
  | _ => s.dequeueRun u d (dRows d * dLen d)

/-- What a descriptor has done where an abort leaves it with `w` bytes written: the prefix of R272. -/
def State.dmaPrefix (s : State) (u : Nat) (d : List Byte) (w : Nat) : Ran :=
  let n := fun i => min (dLen d) (w - i * dLen d)
  let esz := (s.queueSeen (dQueue d)).esz
  match dOp d with
  | 0 => rowsRun (fun s i => s.copyRow u (dSrcW d) (dDstW d) (dSrcRow d i) (dDstRow d i) (n i)) s (dRows d)
  | 1 => rowsRun (fun s i => s.fillRow u (dDstW d) (dDstRow d i) (n i) ((d.drop 48).take 8)) s (dRows d)
  | 2 => .done s 0 0 0 0
  | 3 => s.enqueueRun u d (w / esz)
  | _ => s.dequeueRun u d (w / esz)

/-- Set DMA_CH_BYTES. -/
def State.chBytes (s : State) (e ch n : Nat) : State := { s with regs := wrR s.regs (Rg.DMA_CH_BYTES e ch) (BitVec.ofNat 32 n) }

/-- The current descriptor of a channel at its abort (R272): the whole of one that has run; of one under way the bytes that were written,
in the order of R266. One that would halt has written nothing. -/
def State.abortPrefix (s : State) (e ch written : Nat) : State :=
  if (s.chan e ch).ran then s
  else if written = 0 ∨ chState s.regs e ch ≠ chRunning then s.chBytes e ch 0
  else match s.takeDesc e ch with
    | .stopped _ => s.chBytes e ch 0
    | .desc t d =>
      if badDesc d (t.queueSeen (dQueue d)) then t.chBytes e ch 0
      else match (t.dmaPrefix (chUnit e ch) d written).settled t (chUnit e ch) with
        | .done u _ _ _ w => u.chBytes e ch w
        | .bad u _ _ w => u.chBytes e ch w
        | .wait _ => t.chBytes e ch 0

/-- DMA_ABORT_COMPLETE (R272): the last response has returned, those of other devices too; `written` bytes of a descriptor under way were
written. Outcome ABORTED; the status word is not written. -/
def execDmaAbortComplete (e : Fin 22) (ch : Fin 32) (written : Nat) (s : State) : Res :=
  let t := (s.abortPrefix e ch written).memSync (chUnit e ch)
  .next (if (s.chan e ch).aborting && !s.span.reqs.any (fun r => r.agent == chUnit e ch && r.held && r.isWrite) then
      { t with
        regs := putR (putCh t.regs e ch chAborted) (Rg.DMA_CH_ABORT_RESULT e ch) Fd.DMA_CH_ABORT_RESULT_result 3
        dma := setChan t.dma e ch { t.chan e ch with aborting := false, desc := [], ran := false } }
    else s)

/-- Run a descriptor that has been taken: its checks (R268, R269), then its operation, whose outcome waits for the responses. -/
def State.dmaRun (s : State) (e ch : Nat) (d : List Byte) : State :=
  let c := s.chan e ch
  let strict := s.flag (Rg.DMA_ENG_STATUS e) Fd.DMA_ENG_STATUS_strict
  if badDesc d (s.queueSeen (dQueue d)) then (s.chBytes e ch 0).dmaHalt e ch 0x04 c.addr d 0
  else match (if strict then strictBad d c.addr else none) with
    | some x => (s.chBytes e ch 0).dmaHalt e ch x.1 x.2 d 0
    | none =>
      match (s.dmaOp (chUnit e ch) d).settled { s with dma := setChan s.dma e ch { c with desc := d } } (chUnit e ch) with
      | .wait t => t
      | .bad t a bytes written => (t.chBytes e ch written).dmaHalt e ch 0x03 a d bytes
      | .done t result bytes offset written =>
        { t.chBytes e ch written with
          dma := setChan t.dma e ch { t.chan e ch with
            desc := d, ran := true, result := result, bytes := bytes, offset := offset
            interrupt := (t.chan e ch).interrupt || bit (le d 1 1) 1 } }

/-- A row of the table: the channel takes its next descriptor and runs it, where it has the row's operation. -/
def State.dmaRow (s : State) (e ch : Nat) (mine : Nat → Bool) : State :=
  if !hasChan e ch || !s.chGoes e ch || (s.chan e ch).ran then s
  else match s.takeDesc e ch with
    | .stopped t => s.settled t (chUnit e ch)
    | .desc t d =>
      if t.span.outstanding (chUnit e ch) then { s with span := t.span }
      else if mine (dOp d) then t.dmaRun e ch d else s

/-- DMA_COPY (R263); a reserved operation halts the channel here. -/
def execDmaCopy (e : Fin 22) (ch : Fin 32) (s : State) : Res := .next (s.dmaRow e ch (fun o => o == 0 || decide (4 < o)))

/-- DMA_FILL (R263). -/
def execDmaFill (e : Fin 22) (ch : Fin 32) (s : State) : Res := .next (s.dmaRow e ch (· == 1))

/-- DMA_COMPARE (R263). -/
def execDmaCompare (e : Fin 22) (ch : Fin 32) (s : State) : Res := .next (s.dmaRow e ch (· == 2))

/-- DMA_ENQUEUE (R263). -/
def execDmaEnqueue (e : Fin 22) (ch : Fin 32) (s : State) : Res := .next (s.dmaRow e ch (· == 3))

/-- DMA_DEQUEUE (R263). -/
def execDmaDequeue (e : Fin 22) (ch : Fin 32) (s : State) : Res := .next (s.dmaRow e ch (· == 4))

/-- The chain has ended (R265): DONE, with the interrupt that a descriptor asked for. -/
def State.chainDone (s : State) (e ch : Nat) : State :=
  let c := s.chan e ch
  let t := { s with
    regs := putCh s.regs e ch chDone
    dma := setChan s.dma e ch { c with desc := [], ran := false, interrupt := false } }
  if !c.interrupt then t
  else if e < 18 then t.intr (8 * e + getR t.regs (Rg.DMA_CH_CTRL e ch) Fd.DMA_CH_CTRL_core) 2
  else t.raise (192 + (e - 18)) (chUnit e ch) []

/-- The descriptor is complete (R265, R270): the status word, then the next descriptor, a pause, or the end of the chain. -/
def State.descDone (s : State) (e ch : Nat) : State :=
  let c := s.chan e ch
  let d := c.desc
  let u := chUnit e ch
  let bad := if dFlagged d then s.decodeBad u (dStat d) 16 else none
  let t := if dFlagged d then s.busWrite u (dStat d) (clean (statusWord 1 c.result 0 c.bytes c.offset)) else s
  let t := t.memSync u
  match bad with
  | some a => t.dmaHalt e ch 0x03 a [] 0
  | none =>
    let free := { t with dma := setChan t.dma e ch { c with desc := [], ran := false, addr := dNext d } }
    if chPace s.regs e ch = 1 then
      let fill := (t.queue (chQueue s.regs e ch)).fill
      let stop := if c.flushing then fill == 0 else decide (fill ≤ chLow s.regs e ch)
      if stop then
        { free with
          regs := putCh t.regs e ch chPaused
          dma := setChan t.dma e ch { c with desc := [], ran := false, flushing := false } }
      else free
    else if dNext d = 0 then t.chainDone e ch
    else free

/-- DMA_DESCRIPTOR_COMPLETE (R265): every write of the descriptor has its response, its status word included. -/
def execDmaDescriptorComplete (e : Fin 22) (ch : Fin 32) (s : State) : Res :=
  .next (if s.chGoes e ch && (s.chan e ch).ran then s.settled (s.descDone e ch) (chUnit e ch) else s)

end Sys2Proof.Machine
end

