-- ==== Sys2Proof/Machine/Commit.lean ====
section
/-! DEFINITION. Configuration that commits at ticks (R65): carriers, flows, budgets, cadence, retirement, ports and flow maps; the
configuration that will stand; the check of protected work (R172). -/
namespace Sys2Proof.Machine

/-- Fronthaul lanes in use (R311): those of the enabled ports, four where the quad runs 400GBASE-KR4. -/
def lanesUsed (regs : SMap Word) : Nat :=
  (List.range 32).foldl (fun n p => n + getR regs (Rg.ETH_PORT_CTRL p) Fd.ETH_PORT_CTRL_enable *
    (if getR regs (Rg.ETH_PORT_CTRL (p / 4 * 4)) Fd.ETH_PORT_CTRL_mode = 2 then 4 else 1)) 0

/-- Span links in use. -/
def linksUsed (regs : SMap Word) : Nat :=
  (List.range 4).foldl (fun n l => n + getR regs (Rg.SPN_LINK_CTRL l) Fd.SPN_LINK_CTRL_enable) 0

/-- Power in mW of a part of R20's table with `n` of its `all` units in use: the table's figure with all of them, else that of the boot
calibration, which is free (log entry 26). -/
def partPower (part n all full : Nat) : Nat := if all ≤ n then full else Config.partPower part n

/-- P_fixed in mW (R20, R161): the parts of R20's table that are not matrix engines, cores, decoders or encoders. The SRAM stack, the
network-on-chip and control complex, PCIe, the DDR5 channels and the last row are always in use: 60,600 mW with all lanes and
links. -/
def pFixed (regs : SMap Word) : Nat :=
  13500 + 9000 + partPower 0 (lanesUsed regs) 32 17600 + partPower 1 (lanesUsed regs) 32 3000 +
    partPower 2 (linksUsed regs) 4 4400 + 2000 + 9600 + 1500

/-- The slot budgets (R161). -/
def budgetRegs (regs : SMap Word) (limit guard scs : Nat) : SMap Word :=
  let u := slotUnits scs
  wrR (wrR regs Rg.PPT_SLOT_BUDGET (BitVec.ofNat 32 ((limit - guard - pFixed regs) * u / 983040)))
    Rg.PPT_GUARD_BUDGET (BitVec.ofNat 32 (guard * u / 983040))

/-- Reckon the budgets anew (R161). -/
def State.rebudget (s : State) : State := { s with regs := budgetRegs s.regs s.ppt.powerLimit s.ppt.guardMw s.planScs }

/-- Remove firmware counters of a record and set its first word (R386). -/
def zeroRecord (live : SMap Word) (off : Nat) (first : Word) : SMap Word := Map.set 0 (Map.clear off (off + 64) live) off first

/-- State of a grant queue (R273, R279, R280): entries of 64 bytes, pinned, shared with the host as its producer; ring and host slot are
Psiwyn's choice (log entry 28). -/
def grantQueue (q slot owner : Nat) : QState :=
  { base := Config.sysRing q * 4096, sizeLog := 4 + Config.sysRing (q + 2 ^ 20) % 17, esize := 2, head := 0, tail := 0, stuck := 0,
    threshold := 0, owner := owner, hostSlot := slot, flags := 0x15 }

/-- A number of a range that Psiwyn chooses among those not in use (log entry 28); the low end where all are. -/
def chooseFree (lo hi : Nat) (used : List Nat) : Nat :=
  let free := (List.range' lo (hi + 1 - lo)).filter (fun q => !used.contains q)
  nth lo free (Config.chooseQueue lo hi used % max 1 free.length)

/-- Pinned queues (R279). -/
def State.pins (s : State) : List Nat := (s.qm.created.map (·.1)).filter (fun q => (s.queue q).pinned)

/-- Create a grant queue. -/
def State.newGrantQueue (s : State) (q : Nat) : State :=
  let slot := chooseFree 0 8191 (s.qm.created.filterMap (·.2))
  if q = 0 then s else s.withQx (s.qx.create q (grantQueue q slot s.ctrlUnit) (some slot))

/-- The active control core reads the SSB weight table of a CARRIER_ADD payload (R83): the state after, and the bytes. -/
def State.readWeights (s : State) (p : List Byte) : State × List PByte :=
  let a := le p 56 8
  if a = 0 then (s, []) else (s.memRead s.ctrlUnit a 16384, s.memBytes s.ctrlUnit a 16384)

/-- CARRIER_ADD commits (R82, R83, R386): `p` is its payload followed by its response. A poisoned byte of the weight table is a machine
check (R255). DESIGN CHOICE (log entry 203): the carrier comes all the same, with the poison in its copy. -/
def State.commitCarrier (s : State) (p : List Byte) : State :=
  let c := le p 0 2
  let r := p.drop 256
  let w := s.readWeights p
  let t := (w.1.newGrantQueue (le r 0 4)).newGrantQueue (le r 4 4)
  let t := ({ t with
    ppt := { t.ppt with carriers := Map.set none t.ppt.carriers c (some ⟨p.take 256, le r 0 4, le r 4 4, le r 8 1, w.2⟩) }
    evt := { t.evt with live := zeroRecord t.evt.live (64 * c) 0 } }).rebudget
  if anyP w.2 then t.machineCheck (activePair t.regs) (le p 56 8 + w.2.findIdx (·.p)) else t

/-- Show how many flows are bound (PPT_CADENCE_STATUS). -/
def State.boundCount (s : State) : State :=
  { s with regs := putR s.regs Rg.PPT_CADENCE_STATUS Fd.PPT_CADENCE_STATUS_bound_flows s.ppt.bindings.length }

/-- End the cadence binding of a flow. -/
def Parapet.unbind (p : Parapet) (flow : Nat) : Parapet := { p with bindings := p.bindings.filter (fun b => b.flow != flow) }

/-- FLOW_ADD commits (R186, R386): the lowest free record slot, zeroed. -/
def State.commitFlow (s : State) (p : List Byte) : State :=
  let used := s.ppt.flows.map (·.slot) ++ s.evt.freeing.map (·.1)
  let slot := ((List.range (used.length + 1)).find? (fun i => !used.contains i)).getD 0
  { s with
    ppt := { s.ppt with flows := s.ppt.flows ++ [⟨le p 0 4, p, slot⟩] }
    evt := { s.evt with live := zeroRecord s.evt.live (0x8000 + 64 * slot) (BitVec.ofNat 32 (le p 0 4)) } }

/-- FLOW_REMOVE commits (R86): grants of the flow still queued are refused, its binding and its retries end, its record is freed at the
next snapshot. -/
def State.commitFlowGone (s : State) (id : Nat) : State :=
  match s.flow id with
  | none => s
  | some f =>
    let s := s.takeGrants
    let mine := s.ppt.grants.filter (fun g => g.admitted.isNone && le g.raw 0 4 == id && !(g.downlink && Config.isPdcch g.raw))
    let t := mine.foldl (fun t g => t.refuse g.downlink g.raw) s
    let p := t.ppt.unbind id
    ({ t with
      ppt := { p with
        flows := t.ppt.flows.filter (fun f => f.id != id)
        grants := t.ppt.grants.filter (fun g => !mine.contains g)
        retries := t.ppt.retries.filter (fun r => r.flow != id)
        reserves := t.ppt.reserves.filter (fun r => r.flow != id) }
      evt := { t.evt with freeing := t.evt.freeing ++ [(f.slot, false)] } }).boundCount

/-- CARRIER_REMOVE commits (R84): its flows go, grants still queued are refused, the grant queues are deleted. -/
def State.commitCarrierGone (s : State) (c : Nat) : State :=
  match s.ppt.carrier c with
  | none => s
  | some k =>
    let s := (s.ppt.flows.filter (fun f => le f.payload 4 2 == c)).foldl (fun s f => s.commitFlowGone f.id) s.takeGrants
    let mine := s.ppt.grants.filter (fun g => g.admitted.isNone && le g.raw 8 2 == c)
    let t := mine.foldl (fun t g => t.refuse g.downlink g.raw) s
    let t := (if k.ulq = 0 then t else t.queueGone k.ulq).queueGone k.dlq
    ({ t with ppt := { t.ppt with
      carriers := Map.erase c t.ppt.carriers
      grants := t.ppt.grants.filter (fun g => !mine.contains g) } }).rebudget

/-- BUDGET_SET commits (R161, R184). -/
def State.commitBudget (s : State) (p : List Byte) : State :=
  let regs := putR s.regs Rg.PPT_CTRL Fd.PPT_CTRL_protect_clusters (le p 10 1)
  let regs := putR regs Rg.PPT_CTRL Fd.PPT_CTRL_time_fill (le p 11 1)
  let regs := putR regs Rg.PPT_CTRL Fd.PPT_CTRL_relax_margin (le p 12 1)
  let regs := putR regs Rg.PPT_THERMAL ⟨16, 16⟩ (le p 8 2)
  let regs := putR regs Rg.PPT_ECC_THRESHOLD ⟨0, 16⟩ (le p 16 4)
  ({ s with
    regs := regs
    ppt := { s.ppt with powerLimit := le p 0 4, guardMw := le p 4 4, dozeSlots := le p 14 2 } }).rebudget

/-- CADENCE_BIND commits (R174): a second bind replaces the binding; with flags bit 0 it ends. -/
def State.commitCadence (s : State) (p : List Byte) : State :=
  let id := le p 0 4
  let at_ := ((s.ppt.accums.find? (fun a => a.rate == le p 4 1)).map (·.index)).getD 0
  let q : Parapet := s.ppt.unbind id
  let new : Parapet := { q with bindings := q.bindings ++ [⟨id, p, at_⟩] }
  ({ s with ppt := if bit (le p 7 1) 0 then q else new }).boundCount

/-- First port of the quad of a port (R311). -/
def quadFirst (p : Nat) : Nat := p / 4 * 4

/-- ETH_PORT_CONFIG commits (R322). -/
def portRegs (regs : SMap Word) (p : List Byte) : SMap Word :=
  let n := le p 0 1
  let a := Rg.ETH_PORT_CTRL n
  let t := Rg.ETH_PORT_TIMING n
  let regs := putR regs a Fd.ETH_PORT_CTRL_enable (le p 1 1 % 2)
  let regs := if n = 32 then putR regs a Fd.ETH_PORT_CTRL_fec (le p 1 1 / 2 % 2)
    else if n = quadFirst n then putR regs a Fd.ETH_PORT_CTRL_mode (le p 2 1) else regs
  let regs := putR regs a Fd.ETH_PORT_CTRL_mtu (le p 6 2)
  putR (putR (putR regs t Fd.ETH_PORT_TIMING_t_lead (le p 3 1)) t Fd.ETH_PORT_TIMING_rx_window_end (le p 4 1))
    t Fd.ETH_PORT_TIMING_cp_adv (le p 5 1)

/-- ETH_PORT_CONFIG takes effect (R322): a SerDes group is On where a port of it is enabled (R361). -/
def State.commitPort (s : State) (p : List Byte) : State :=
  let n := le p 0 1
  let t := { s with
    regs := portRegs s.regs p
    eth := { s.eth with
      mgmtTx := Map.set 0 s.eth.mgmtTx n (le p 8 4 % 2 ^ 20)
      mgmtRx := Map.set 0 s.eth.mgmtRx n (le p 12 4 % 2 ^ 20) } }
  (t.when (n < 32) (t.domFollow (20 + n / 8) (groupPort t.regs (n / 8)).isSome)).rebudget

/-- An entry of a flow map (R316). -/
def eflowOf (b : List Byte) : EFlow :=
  { eaxc := le b 0 2, port := le b 2 1, dir := le b 3 1, carrier := le b 4 2, stream := le b 6 1, mantissa := le b 7 1,
    category := le b 8 1, flags := le b 9 1, vlan := le b 10 2 }

/-- Entries of an ECPRI_FLOW_MAP payload (R316). -/
def eflowsOf (p : List Byte) : List EFlow := (List.range (le p 0 4)).map (fun i => eflowOf ((p.drop (8 + 16 * i)).take 16))

/-- The map after a change (R316): flags bit 0 replaces the whole map of the named carriers. -/
def mapAfter (old : List EFlow) (p : List Byte) : List EFlow :=
  let new := eflowsOf p
  (if bit (le p 4 4) 0 then old.filter (fun e => !new.any (fun n => n.carrier == e.carrier)) else old) ++ new

/-- The effect of a command at its commit (R65), but for a retirement. -/
def State.effect (s : State) (c : Cmd) : State :=
  match c.code with
  | 0x0101 => s.commitCarrier c.payload
  | 0x0102 => s.commitCarrierGone (le c.payload 0 2)
  | 0x0201 => s.commitFlow c.payload
  | 0x0202 => s.commitFlowGone (le c.payload 0 4)
  | 0x0203 => s.commitBudget c.payload
  | 0x0204 => s.commitCadence c.payload
  | 0x0401 => s.commitPort c.payload
  | 0x0402 => { s with eth := { s.eth with flows := mapAfter s.eth.flows c.payload } }
  | _ => s

/-- Codes whose effect comes at a frame tick and at a slot tick (R65). -/
def atFrame (code : Nat) : Bool := [0x0101, 0x0102, 0x0401, 0x0402].contains code
def atSlot (code : Nat) : Bool := [0x0201, 0x0202, 0x0203, 0x0204, 0x0302].contains code

/-- A pending command that waits for a tick (R65). -/
def waits (frame : Bool) (c : Cmd) : Bool := c.phase == .pending && c.dev == 0 && (if frame then atFrame c.code else atSlot c.code)

/-- The configuration that will stand once all earlier accepted changes have been applied (R65). -/
def State.planned (s : State) : State := (s.host.cmds.filter (fun c => waits true c || waits false c)).foldl State.effect s

/-- Note a commit in the journal (R73). -/
def State.journalled (s : State) (c : Cmd) : State :=
  { s with host := { s.host with journal := s.host.journal ++ [c.tag + 65536 * c.dev] } }

/-- Commit a pending command at a tick (R65, R73): journalled, applied, completed. -/
def State.commitAt (s : State) (tick : Word) (c : Cmd) : State :=
  let t := (s.journalled c).effect c
  t.withRep (t.rep.completeOne c stOk 0 tick)

/-- The objects that a command touches (R64; log entry 154). -/
def objectsOf (c : Cmd) : List (Nat × Nat) :=
  let p := c.payload
  match c.code with
  | 0x0101 => [(1, le p 0 2)]
  | 0x0102 => [(1, le p 0 2)]
  | 0x0103 => [(1, le p 0 2)]
  | 0x0104 => [(2, 0)]
  | 0x0105 => [(2, 0)]
  | 0x0201 => [(3, le p 0 4), (1, le p 4 2)]
  | 0x0202 => [(3, le p 0 4)]
  | 0x0204 => [(3, le p 0 4)]
  | 0x0302 => [(4, le p 0 1)]
  | 0x0303 => [(4, le p 0 1)]
  | 0x0402 => (0x0402, 0) :: (eflowsOf p).map (fun f => (1, f.carrier))
  | 0x0501 => [(5, le p 0 1)]
  | 0x0502 => [(6, le p 0 1)]
  | 0x0504 => [(7, le p 0 4 % 4)]
  | 0x0601 => [(8, le p 0 1)]
  | 0x0603 => [(8, le p 0 1)]
  | 0x0702 => [(9, le p 0 4)]
  | 0x0801 => [(10, if le p 0 1 = 1 then le p 2 2 else 96)]
  | 0x0A01 => [(11, le p 0 1)]
  | 0x0002 => []
  | 0x0701 => []
  | k => [(k, 0)]

/-- Two commands touch one object of one device. -/
def sameObject (c d : Cmd) : Bool := c.dev == d.dev && (objectsOf c).any (objectsOf d).contains

/-- What falls due at a tick, in the order in which it was accepted (R64, R65): a command waits behind one that came before it, touches
an object of it and waits for a frame tick still. -/
def dueAt (frame : Bool) (cs : List Cmd) : List Cmd :=
  cs.filter (fun c => (waits false c || (frame && waits true c)) &&
    (frame || !(cs.takeWhile (fun x => x != c)).any (fun x => waits true x && sameObject x c)))

/-- Commit what falls due at a slot tick, which may be a frame tick; retirements complete later (R87). -/
def State.commits (s : State) (frame : Bool) (tick : Word) : State :=
  ((dueAt frame s.host.cmds).filter (fun c => c.code != 0x0302)).foldl (fun s c => s.commitAt tick c) s

/-- A grant at the declared maxima of a flow (R172, R186), with a clock slot. -/
def maxGrant (f : Flow) (slot : Word) : List Byte :=
  let p := f.payload
  leBytes 4 f.id ++ leBytes 4 slot.toNat ++ leBytes 2 (le p 4 2) ++ leBytes 2 0 ++ leBytes 2 0 ++ leBytes 2 (le p 12 2) ++ leBytes 1 0 ++
    leBytes 1 14 ++ leBytes 1 (le p 11 1) ++ leBytes 1 0 ++ leBytes 1 (le p 14 1) ++ leBytes 1 0 ++ leBytes 2 4 ++ leBytes 4 0 ++
    leBytes 4 (le p 16 4) ++ leBytes 32 0

/-- A slot reference that stands for the frame tick in the check of R172. -/
def protBase : Nat := 2 ^ 20

/-- Frames that the check of R172 lays out: the one that it evaluates, and one on each side of it, whose work reaches into it. -/
def protFrames : Nat := 3

/-- Protected grants of the frames at their maxima (R172): those of bound flows are their templates. -/
def State.protGrants (s : State) : List Grant :=
  let gs := s.ppt.inUse.flatMap (fun e =>
    let r := (s.plan e.1 e.2.payload).r
    let fs := s.ppt.flows.filter (fun f => le f.payload 4 2 == e.1 && le f.payload 7 1 == 0 && (s.ppt.binding f.id).isNone)
    (List.range (protFrames * slotsPerFrame s.planScs / r)).flatMap (fun j => fs.map (fun f =>
      (le f.payload 6 1 == 1, maxGrant f (tickRef (protBase + j * r) 0)))))
  ((List.range gs.length).zip gs).map (fun e =>
    { id := e.1 + 1, downlink := e.2.1, raw := e.2.2, cls := 0, admitted := none, status := 0, mutedSyms := 0, cluster := 0xFF,
      iterations := 0, answered := false })

/-- Protected items of the frames (R167, R172): grants, templates in every slot, control channels, SSB builds: in every frame, or, where the
SSB comes more seldom, in the frame that is evaluated. -/
def State.protItems (s : State) (gs : List Grant) : List Item :=
  let frame := slotsPerFrame s.planScs
  let perSlot := s.ppt.inUse.flatMap (fun e =>
    let p := s.plan e.1 e.2.payload
    (List.range (protFrames * frame / p.r)).flatMap (fun k =>
      let j := k % (frame / p.r)
      let slot := tickRef (protBase + k * p.r) 0
      let mine := gs.filter (fun g => le g.raw 8 2 == e.1 && le g.raw 4 4 == slot.toNat)
      let ul := mine.filter (fun g => !g.downlink)
      let dl := mine.filter (fun g => g.downlink)
      let ctl := (List.range 14).filter (fun x => (Config.slotWork e.2.payload j).contains (1, x))
      let syms := if ul = [] then ctl else List.range 14
      (if carLayersUl e.2.payload = 0 then [] else
        (ulSlotItems p slot e.1 j 0 syms).filter (fun i => decide (2 ≤ i.stage))) ++
      ul.flatMap (fun g => ulItems p slot e.1 j 0 g.id true g.raw) ++ ctl.map (slotWorkItem p slot e.1 j true) ++
      (if dl = [] then [] else
        dl.map (fun g => encodeItem p slot e.1 0 g.id) ++
        (List.range 14).map (mapItem p slot e.1 j 0 (((dl.head?).map (·.id)).getD 0)) ++
        (dlSlotItems p slot e.1 j 0).filter (fun i => decide (2 ≤ i.stage)))))
  let ssb := s.ppt.inUse.flatMap (fun e =>
    if carSsb e.2.payload then
      ((List.range protFrames).filter (fun k => k == 1 || ssbFrames e.2.payload == 1)).flatMap (fun k =>
        buildItems (s.plan e.1 e.2.payload) (tickRef (protBase + k * frame) 0) e.1 k (symsPerFrame s.planScs) e.2.payload)
    else [])
  numbered 1 (perSlot ++ ssb)

/-- The check of protected work (R172): the first slot within the frame that fails, none where all fits. The frame stands between two like
it, so that the work of the slots before and after it counts in it. -/
def State.protectedFails (s : State) : Option Nat :=
  let gs := s.protGrants
  let frame := slotsPerFrame s.planScs
  let n := s.getF Rg.PPT_CTRL Fd.PPT_CTRL_protect_clusters
  let budget := (s.rd Rg.PPT_SLOT_BUDGET).toNat
  let ppt := { s.ppt with grants := gs, bands := (List.range 18).map (fun c => (c, 7)) }
  let tpl := s.ppt.bindings.flatMap (fun b =>
    match s.flow b.flow with
    | some f =>
      let r := (s.plan (le f.payload 4 2) (s.ppt.carPayload (le f.payload 4 2))).r
      (List.range (protFrames * frame / r)).flatMap (fun j => s.reserveItems ⟨b.flow, tickRef (protBase + j * r) 0, false, false⟩)
    | none => [])
  let l : Lim := {
    cal := s.cal, clk := ⟨s.planScs, s.offset, 8 * symsPerFrame s.planScs⟩, now := tickRef protBase 0,
    fill := s.getF Rg.PPT_CTRL Fd.PPT_CTRL_time_fill, scale := 256, budget := budget,
    heat := (List.range n).map (fun c => (c, budget / n)), active := List.range n, heated := List.range n, pass := [] }
  let x := ppt.placeAll State.reset.regs l 0 (tpl.map (fun i => { i with cluster := i.cluster % max 1 n })) (s.protItems gs)
  (List.range frame).find? (fun (m : Nat) =>
    x.left.any (fun i => (i.job l.now).slot == ((frame + m : Nat) : Int)) || l.slotFails x.all (frame + m))

end Sys2Proof.Machine
end

