-- ==== Sys2Proof/Machine/Retire.lean ====
section
/-! DEFINITION. Failed clusters at a slot tick (R108, R125, R180 to R182): the test of corrected errors, commands to retire, the
retirement itself; spares that end their activation, and retired clusters that have drained. -/
namespace Sys2Proof.Machine

/-- Corrected errors of a cluster within the last second: of its tile and shared memory and of its engine buffers (R135, R180, R254). -/
def State.corrected (s : State) (c : Nat) : Nat :=
  ((Map.get [] s.mec.ceLog c).filter (fun t => decide (s.now < t + secUnits))).length

/-- The ECC test of a cluster at a slot tick (R180, cause 1). -/
def State.eccCheck (s : State) (c : Nat) : State :=
  if decide (s.getF Rg.PPT_ECC_THRESHOLD Fd.PPT_ECC_THRESHOLD_threshold < s.corrected c) && holdsWork s.regs s.ppt.failing c then
    s.failCluster c causeEcc
  else s

/-- A pending CLUSTER_RETIRE of a cluster (R87). -/
def retireCmd (c : Nat) (k : Cmd) : Bool := isCmd 0x0302 k && le k.payload 0 1 == c

/-- A CLUSTER_RETIRE commits (R87, R180): cause 4; it completes with the retirement, at once where the cluster is active no longer. -/
def State.commitRetire (s : State) (tick : Word) (k : Cmd) : State :=
  let c := le k.payload 0 1
  let s := s.journalled k
  if role s.regs c = rActive then
    let x := s.fx.fail c causeRetire (some k.tag)
    s.withFx { x with ppt := { x.ppt with failing := x.ppt.failing.map (fun f => if f.cluster = c then { f with cmd := some k.tag } else f) } }
  else s.withRep (s.rep.completeOne k stOk 0 tick)

/-- Commit every pending CLUSTER_RETIRE at a slot tick. -/
def State.commitRetires (s : State) (tick : Word) : State :=
  (s.host.cmds.filter (fun k => waits false k && k.code == 0x0302)).foldl (fun s k => s.commitRetire tick k) s

/-- Failed clusters in ascending order, paired with the spares being activated for them in ascending order (R181). -/
def pairUp (fs : List Failing) : List (Nat × Option Nat × Option Nat) :=
  let cs := sortBy (fun (f : Failing) => [(f.cluster : Int)]) fs
  let sp := sortBy (fun (n : Nat) => [(n : Int)]) (fs.filterMap (·.spare))
  ((List.range cs.length).zip cs).map (fun e => (e.2.cluster, sp[e.1]?, e.2.cmd))

/-- The unit that an item reads stays held until its watchdog edge (R108); an item that names its own unit reads no store. -/
def Drum.heldTo (d : Drum) (i : Item) : Bool :=
  i.unitRef == i.outUnit || match (d.unit i.unitRef).freeTick with
    | none => false
    | some f => refFrom f i.edge

/-- An item of a retired cluster that is replayed (R108): in flight, its watchdog ahead, its input held. -/
def Drum.replayable (d : Drum) (now : Word) (c : Nat) (i : Item) : Bool :=
  i.cluster == c && i.inFlight && refAfter i.edge now && d.heldTo i

/-- What becomes of an item of a retired cluster (R108, R182): unreleased it migrates, or is placed again; a replayable one is
replayed; any other is left to its watchdog. -/
def Drum.moved (d : Drum) (now : Word) (c : Nat) (sp : Option Nat) (i : Item) : Item :=
  if i.cluster ≠ c then i
  else match sp with
    | some k =>
      if i.phase = .admitted then { i with cluster := k }
      else if d.replayable now c i then { i with cluster := k, flags := i.flags ||| 2, phase := .admitted, outcome := none, begun := false, done := false }
      else i
    | none => if i.phase = .admitted then { i with cluster := 0xFF } else i

/-- Advance the writer generation of units (R44). -/
def Drum.advance (d : Drum) (us : List Nat) : Drum :=
  us.foldl (fun (d : Drum) u => d.setUnit u { d.unit u with gen := ((d.unit u).gen + 1) % 16 }) d

/-- Output units that a cluster has open (R44): those of its items in flight, and of its items that run on after their watchdog, as
long as the unit is held. -/
def Drum.opened (d : Drum) (c : Nat) : List Nat :=
  ((d.items.filter (fun i => i.cluster == c && (i.inFlight || (i.runs && d.holds i)))).map (·.outUnit)).foldl
    (fun l u => if l.contains u then l else l ++ [u]) []

/-- Carriers whose home is a cluster. -/
def Parapet.homed (p : Parapet) (c : Nat) : Nat := (p.inUse.filter (fun e => e.2.home == c)).length

/-- Give a carrier a new home. -/
def Parapet.setHome (p : Parapet) (carrier home : Nat) : Parapet :=
  { p with carriers := Map.upd none p.carriers carrier (fun e => e.map (fun k => { k with home := home })) }

/-- Home carriers of a retired cluster move to its spare, or one by one to the active cluster with the fewest (R181, R182). -/
def Parapet.rehome (p : Parapet) (actives : List Nat) (c : Nat) (sp : Option Nat) : Parapet :=
  (p.inUse.filter (fun e => e.2.home == c)).foldl (fun (p : Parapet) e =>
    match sp with
    | some k => p.setHome e.1 k
    | none => p.setHome e.1 (((byMost (fun k => -(p.homed k : Int)) actives).head?).getD 0)) p

/-- Registers after a retirement: the roles, the spare active where its activation is complete. -/
def retireRegs (regs : SMap Word) (ready : List Nat) (c : Nat) (sp : Option Nat) : SMap Word :=
  let regs := putRole regs c rRetired
  match sp with
  | some k => if ready.contains k then putRole regs k rActive else regs
  | none => regs

/-- Retire a failed cluster at a slot tick (R44, R108, R181, R182). -/
def State.retire (s : State) (now : Word) (e : Nat × Option Nat × Option Nat) : State :=
  let c := e.1
  let sp := e.2.1
  let again := if sp.isSome then s.drum.items.filter (s.drum.replayable now c) else []
  let regs := retireRegs s.regs s.ppt.ready c sp
  let t := { s with
    regs := regs
    drum := { s.drum.advance (s.drum.opened c) with items := s.drum.items.map (s.drum.moved now c sp) }
    ppt := s.ppt }
  let p := s.ppt.rehome t.actives c sp
  let p : Parapet := { p with
    failing := p.failing.filter (fun f => f.cluster != c)
    ready := p.ready.filter (fun k => some k != sp)
    grants := p.grants.map (fun g => if again.any (fun i => i.serves g) then g.mark gReplayed else g)

    idle := Map.erase c p.idle }
  let r := if again = [] then t.rep else t.rep.bump Rg.PPT_REPLAYS again.length
  let x : Fx := again.foldl (fun (x : Fx) i => x.charge i.energy) ⟨r, p⟩
  let t := (t.withFx x).notify 5 0 0 0 c (sp.getD 0xFF)
  t.withRep (t.rep.complete (fun k => e.2.2.isSome && retireCmd c k) stOk 0 now)

/-- Retire a spare that failed before it took over (R180 to R182): it has no work to hand on. DESIGN CHOICE (log entry 202): its
notification names the spare that was activated in its place. -/
def State.retireSpare (s : State) (f : Failing) : State :=
  ({ s with
    regs := putRole s.regs f.cluster rRetired
    ppt := { s.ppt with failing := s.ppt.failing.filter (fun x => x.cluster != f.cluster) } }).notify 5 0 0 0 f.cluster (f.spare.getD 0xFF)

/-- Retire every failed cluster, in ascending order (R181). -/
def State.retireAll (s : State) (now : Word) : State :=
  let fs := s.ppt.failing
  let pairs := pairUp (fs.filter (fun f => !f.waiting))
  (List.range 18).foldl (fun s c => match pairs.find? (fun e => e.1 == c) with
    | some e => s.retire now e
    | none => match fs.find? (fun f => f.waiting && f.cluster == c) with
      | some f => s.retireSpare f
      | none => s) s

/-- An activation ends well (R180, R181): the cluster runs; it is active where it has taken over, else ready to. -/
def State.activated (s : State) (c : Nat) : State :=
  let t := s.clusterUp c
  if s.ppt.failing.any (fun f => f.spare == some c) then { t with ppt := { t.ppt with ready := t.ppt.ready ++ [c] } }
  else { t with regs := putRole t.regs c rActive }

/-- The activation of a spare that waits to take over fails: the next spare is activated in its place, and it waits for its retirement at
the next slot tick (R180, R181). -/
def Fx.replaceSpare (x : Fx) (c : Nat) : Fx :=
  let a := Rg.PPT_CLUSTER c
  let regs := wrR x.rep.regs a (rdR x.rep.regs a ||| bitW causeActivation)
  let sp := lowestSpare regs
  let regs := match sp with
    | some k => putRole regs k rActivating
    | none => regs
  let y : Fx := ⟨{ x.rep with regs := regs }.fire 32 2 [],
    { x.ppt with failing := x.ppt.failing.map (fun f => if f.spare = some c then { f with spare := sp } else f) ++ [⟨c, sp, none, true⟩] }⟩
  match sp with
  | some k => y.charge (Config.activation k)
  | none => y

/-- An activation fails (R180, cause 5): the event, and the activation of the next spare; the retirement comes at the next slot tick. -/
def State.activationFails (s : State) (c : Nat) : State :=
  s.withFx (if s.ppt.failing.any (fun f => f.spare == some c) then s.fx.replaceSpare c else s.fx.fail c causeActivation none)

/-- SPARE_ACTIVATION_DONE (R180). -/
def execSpareActivationDone (c : Fin 18) (pass : Bool) (s : State) : Res :=
  .next (if role s.regs c = rActivating ∧ !s.ppt.failing.any (fun f => f.waiting && f.cluster == c.val) then
      (if pass then s.activated c else s.activationFails c)
    else s)

/-- No item runs on a cluster any more (R181). -/
def Drum.drained (d : Drum) (c : Nat) : Drum :=
  { d with items := d.items.map (fun i => if i.cluster = c then { i with done := i.done || i.phase != .admitted } else i) }

/-- RETIRED_CLUSTER_DRAINED (R181): the retired cluster is reset and will be held Off; what ran on it is gone. -/
def execRetiredClusterDrained (c : Fin 18) (s : State) : Res :=
  .next (if role s.regs c = rRetired then { s with drum := s.drum.drained c }.funcReset (0x2000 + c) true 2 else s)

end Sys2Proof.Machine
end

