-- ==== Sys2Proof/Machine/Ticks.lean ====
section
/-! DEFINITION. Drum's handling of a tick (R36 to R51): arrival and queue, watchdogs, freed units, positions and counts, the work of
a slot tick and of a frame tick, C-plane messages, releases. -/
namespace Sys2Proof.Machine

/-- The tick that follows another (R29, R30, R49); its studio time is latched as it is issued. -/
def Tick.next (scs : Nat) (off : Int) (t : Tick) : Tick :=
  let n := symNo scs off t.time + 1
  let slot := n % 14 == 0
  let frame := n % symsPerFrame scs == 0
  ⟨symTime scs off n, slot, frame, t.symC + 1, t.slotC + b2n slot, t.frameC + b2n frame, 0⟩

/-- DRM_STATUS with a queue depth: the greatest since the last read stays (R47). -/
def depthRegs (regs : SMap Word) (n : Nat) : SMap Word :=
  let regs := putR regs Rg.DRM_STATUS Fd.DRM_STATUS_tickq_depth n
  putR regs Rg.DRM_STATUS Fd.DRM_STATUS_tickq_hwm (max n (getR regs Rg.DRM_STATUS Fd.DRM_STATUS_tickq_hwm))

/-- A tick is issued: handled at once, or placed in the queue while the sequencer is busy (R47). Belfry latches the studio time with
it (R175). -/
def State.issue (s : State) (t : Tick) : State :=
  let t := { t with studio := s.phase 1 }
  let busy := s.drum.cur.isSome
  let q := if busy then s.drum.queue ++ [t] else s.drum.queue
  let r := if busy then s.rep.bump Rg.DRM_TICKQ_QUEUED 1 else s.rep
  let u := s.withRep r
  { u with
    regs := depthRegs u.regs q.length
    host := { u.host with lastTick := s.refOf t, lastTickTime := t.time }
    drum := { u.drum with cur := if busy then u.drum.cur else some t, queue := q, last := some t } }

/-- A tick that arrives while two are queued (R48): the event with its record, and the reset of Drum. -/
def State.fatalTick (s : State) (t : Tick) : State :=
  (s.raise 2 1 [1, t.symC, t.slotC, t.frameC]).funcReset 1 false 1

/-- Ticks are being issued: Drum runs, and neither a fault nor a step has ended the sequence (R48, R49). -/
def State.ticking (s : State) : Bool :=
  s.flag Rg.DRM_STATUS Fd.DRM_STATUS_running && s.drum.stepAt.isNone && s.drum.faultAt.isNone

/-- A tick arrives (R47). -/
def State.arrive (s : State) (k : Tick) : State :=
  let u := s.passTo k.time
  if s.drum.cur.isSome ∧ 2 ≤ s.drum.queue.length then u.fatalTick k else u.issue k

/-- TICK_ARRIVAL (R29, R30, R47): the next tick of the master numerology. -/
def execTickArrival (t : Nat) (s : State) : Res :=
  .next (match s.drum.last with
    | some l =>
      let k := l.next s.scs s.offset
      if s.ticking ∧ k.time = t then s.arrive k else s
    | none => s)

/-- PRB blocks of an ingress item that are missing. -/
def Eth.missing (e : Eth) (item : Nat) : Nat := (e.blocks.filter (fun b => b.item == item && !b.written && !b.erased)).length

/-- Mark the grants that an item works for. -/
def Parapet.markServed (p : Parapet) (i : Item) (bits : Nat) : Parapet :=
  { p with grants := p.grants.map (fun g => if i.serves g then g.mark bits else g) }

/-- An item is late (R39), with what that brings for its kind (R91, R92, R122): the missing blocks of an ingress symbol are counted, and the
grants that an ingress or egress item works for are marked. -/
def State.lateItem (s : State) (i : Item) (charge : Bool) : State :=
  let n := s.eth.missing i.id
  let t := s.late i charge
  match i.work with
  | .ingress =>
    let t := t.fwBump (fwCarrier i.carrier 1) n
    if n = 0 then t else { t with ppt := t.ppt.markServed i gErased }
  | .egress => { t with ppt := t.ppt.markServed i gLate }
  | _ => t

/-- The watchdog of an item fires (R37 to R40, R95). An expiry is charged to the cluster unless the unit that the item reads was late when
it was released or when the item read it; a gated item that has not started reads it now. -/
def State.expire (s : State) (i : Item) : State :=
  s.lateItem i (i.charged && !(i.gate.isSome && !i.begun && s.drum.inputLate i))

/-- The watchdogs of a tick: those of ingress items first (R45, R91). -/
def State.watchdogs (s : State) (now : Word) : State :=
  let due := s.drum.items.filter (fun i => i.inFlight && refFrom now i.edge)
  (due.filter (fun i => i.work == .ingress) ++ due.filter (fun i => i.work != .ingress)).foldl (fun s i => s.expire i) s

/-- Free the units whose free tick has come (R43); an egress symbol's generation advances (R121). -/
def Drum.freeUnits (d : Drum) (now : Word) : Drum :=
  (d.units.filter (fun e => match e.2.freeTick with | some f => refFrom now f | none => false)).foldl (fun (d : Drum) e =>
    d.setUnit e.1 { e.2 with gen := if e.2.egress then (e.2.gen + 1) % 16 else e.2.gen, late := false, freeTick := none }) d

/-- DRM_POSITION of a tick (R31): system frame number, slot, symbol. -/
def positionOf (scs : Nat) (off : Int) (t : Nat) : Nat :=
  let n := symNo scs off t % symsPerFrame scs
  (framed off t / frameUnits + 1023) % 1024 * 2 ^ 22 + n / 14 * 2 ^ 15 + n % 14

/-- A count passes its end with a tick (R385). -/
def countWraps (regs : SMap Word) (a n : Nat) : Bool := decide (2 ^ 64 ≤ n) && decide (n % 2 ^ 64 < rd64R regs a)

/-- Toggle an epoch bit of DRM_STATUS where its count wraps. -/
def toggleR (regs : SMap Word) (f : Fld) (wraps : Bool) : SMap Word :=
  if wraps then putR regs Rg.DRM_STATUS f (1 - getR regs Rg.DRM_STATUS f) else regs

/-- Registers after step 3 of R45: position, counts, epoch bits. -/
def countRegs (regs : SMap Word) (scs : Nat) (off : Int) (t : Tick) : SMap Word :=
  let r := toggleR regs Fd.DRM_STATUS_sym_epoch (countWraps regs Rg.DRM_SYM_COUNT_LO t.symC)
  let r := toggleR r Fd.DRM_STATUS_slot_epoch (countWraps regs Rg.DRM_SLOT_COUNT_LO t.slotC)
  let r := toggleR r Fd.DRM_STATUS_frame_epoch (countWraps regs Rg.DRM_FRAME_COUNT_LO t.frameC)
  let r := wrR r Rg.DRM_POSITION (BitVec.ofNat 32 (positionOf scs off t.time))
  wr64R (wr64R (wr64R r Rg.DRM_SYM_COUNT_LO t.symC) Rg.DRM_SLOT_COUNT_LO t.slotC) Rg.DRM_FRAME_COUNT_LO t.frameC

/-- Step 3 of R45. -/
def State.position (s : State) (t : Tick) : State :=
  let e := toggleEpoch s.evt.epochs 1 0 (countWraps s.regs Rg.DRM_SYM_COUNT_LO t.symC)
  let e := toggleEpoch e 1 1 (countWraps s.regs Rg.DRM_SLOT_COUNT_LO t.slotC)
  let e := toggleEpoch e 1 2 (countWraps s.regs Rg.DRM_FRAME_COUNT_LO t.frameC)
  { s with
    regs := countRegs s.regs s.scs s.offset t
    evt := { s.evt with epochs := e } }

/-- A calibration coefficient after a frame (R165): 17/16 of the measured mean `num` / `den`, or at most 1/64 less than before. -/
def calNext (old num den : Nat) : Nat :=
  let top := min 65535 (ceilDiv (17 * num) (16 * den))
  if old < top then top else max (old - old / 64) top

/-- Bands of a calibration row after a frame with its measurements (R165). The start energy that was measured is a free value: the
meters give whole commands. -/
def bandsAfter (old : List (Nat × Nat)) (ms : List (Nat × Nat × Nat)) (start : Nat → Nat) : List (Nat × Nat) :=
  (List.range 8).map (fun b =>
    let e := nth (0, 0) old b
    let mine := ms.filter (fun m => m.1 == b)
    if mine = [] then e
    else (calNext e.1 (start b % 65536) 1,
      calNext e.2 (mine.foldl (fun n m => n + m.2.2 * 1000) 0) (max 1 (mine.foldl (fun n m => n + m.2.1) 0))))

/-- A calibration row is brought up to date (R164, R165): read and written by the control pair, under the strong code. An invalid row
stays; a poisoned one is a machine check (R255). A row that the frame did not use has no samples. -/
def State.recalRow (s : State) (row : Nat) (ms : List (Nat × Nat × Nat)) (start : Nat → Nat) : State :=
  let a := calAddr row
  let r := s.memBytes s.ctrlUnit a 64
  let bs := vals r
  let t := s.memRead s.ctrlUnit a 64
  if anyP r then t.machineCheck (activePair t.regs) (a + r.findIdx (·.p))
  else if bit (le bs 1 1) 0 then
    t.memWrite s.ctrlUnit a (clean (fit 0 64 (calBytes (le bs 0 1) (min 65535 ms.length) (bandsAfter (calBands bs) ms start))))
  else t

/-- The calibration table after a frame (R165). -/
def State.recalibrate (s : State) : State :=
  let rows := s.ppt.measured.map (·.1) ++ s.ppt.sampled.filter (fun r => !s.ppt.measured.any (fun e => e.1 == r))
  let t := rows.foldl (fun t r => t.recalRow r (Map.get [] s.ppt.measured r) (fun b => s.peek (8 * r + b))) s
  { t with
    free := s.free + 8192
    ppt := { t.ppt with measured := [], sampled := s.ppt.measured.map (·.1) } }

/-- A cluster is in Doze or on its way there: its entry is in quiesce, or a request for it is in flight or waits (R359, R366). -/
def towardsDoze (regs : SMap Word) (c : Nat) : Bool :=
  clusterState regs c == dDoze || domFlight regs (2 + c) == dDoze || domPending regs (2 + c) == dDoze

/-- Parapet's power requests for an active cluster (R183, R369): Run for a cluster in Doze, or on its way there, that receives an item,
Doze after doze_slots slots without one, else Nap for a slot without releases. `fresh` says that an item was admitted to it, or placed on
it again (R182). -/
def State.powerOne (s : State) (now : Word) (c : Nat) (fresh : Bool) : State :=
  let idle := if fresh then 0 else Map.get 0 s.ppt.idle c + 1
  let mine := s.drum.items.filter (fun i => i.cluster == c && !i.ended)
  let busy := mine.any (fun i => i.inFlight || decide (refDiff i.issue now < 14))
  let st := clusterState s.regs c
  let t := { s with ppt := { s.ppt with idle := Map.set 0 s.ppt.idle c idle } }
  if fresh ∧ towardsDoze s.regs c then t.powerRequest (2 + c) dOn
  else if busy then t
  else if s.ppt.dozeSlots ≤ idle then (if st = dDoze then t else t.powerRequest (2 + c) dDoze)
  else if st = dOn then t.powerRequest (2 + c) dNap
  else t

/-- Parapet's power requests of a slot tick; `old` are the items that stood placed before its batch. -/
def State.powerStep (s : State) (now : Word) (old : List Item) : State :=
  ((List.range 18).filter (fun c => role s.regs c == rActive)).foldl (fun s c =>
    s.powerOne now c (s.drum.items.any (fun i => i.cluster == c && i.phase == .admitted &&
      !old.any (fun x => x.id == i.id && x.cluster == c)))) s

/-- Drop items that have ended and whose grant is answered, but for those that run on after their watchdog and those that gate one which has
not ended; grants that are answered and have no items, a PDCCH's only with the precoding of its slot; and blocks of symbols that are
gone. -/
def State.prune (s : State) : State :=
  let open_ := fun (i : Item) => (s.ppt.grants.any (fun g => g.id == i.grant && !g.answered))
  let live := fun (i : Item) => !i.ended || i.runs
  let gates := fun (i : Item) => s.drum.items.any (fun x => live x && x.gate == some i.id)
  let items := s.drum.items.filter (fun i => live i || open_ i || gates i)
  let reads := fun (g : Grant) => items.any (fun i => i.grant == g.id ||
    (g.downlink && i.work == .precoding && i.carrier == le g.raw 8 2 && i.slot.toNat == le g.raw 4 4))
  { s with
    drum := { s.drum with items := items }
    ppt := { s.ppt with grants := s.ppt.grants.filter (fun g => !g.answered || reads g) }
    eth := { s.eth with blocks := s.eth.blocks.filter (fun b => items.any (fun i => i.id == b.item)) } }

/-- Cross-device work is planned anew where the width of a link has changed (R301): with the widths as they are now. DEDUCED (log entry
213): no rule gives an item a demand on a link, so admission has none to hold against the plan. -/
def Drum.newPlan (d : Drum) (widths : List Nat) : Drum :=
  { d with replan := false, spanPlan := if d.replan then widths else d.spanPlan }

/-- Step 4 of R45, at a slot tick. -/
def State.slotStep (s : State) (t : Tick) (sensors : List Sensor) : State :=
  let now := s.refOf t
  let s := s.prune.commits t.frame now
  let s := (List.range 18).foldl (fun s c => s.eccCheck c) s
  let s := (s.commitRetires now).retireAll now
  let s := { s with thm := s.thm.read sensors }.thermal
  let s := if t.frame then s.recalibrate else s
  let old := s.drum.items
  let s := { s with drum := s.drum.newPlan (linkWidths s.regs) }
  let s := ((s.cadence t).admission t).powerStep now old
  let s := s.withFw s.fw.snapStep
  (s.withLx s.lx.retry).pacingFlush

/-- Tick interrupts of the cores that are clocked (R205): input 5 a symbol tick, input 6 a slot tick. -/
def tickInts (regs : SMap Word) (slot : Bool) : SMap Word :=
  ((List.range 144).filter (fun k => clusterState regs (k / 8) == dOn)).foldl (fun m k =>
    wrR m (Rg.ZCR_INT_PENDING k) (rdR m (Rg.ZCR_INT_PENDING k) ||| (if slot then 0x60 else 0x20))) regs

/-- The ingress item of a symbol of a carrier slot. -/
def Drum.ingressOf (d : Drum) (p : Plan) (slot : Word) (carrier x : Nat) : Option Item :=
  d.items.find? (fun i => i.work == .ingress && i.carrier == carrier && i.symbol == x && i.issue == refShift slot (p.ingress x).issue)

/-- PRB of a symbol that the C-plane announces in the uplink: those of the admitted grants; all of them where the slot has SRS, PUCCH,
PRACH or measurement work in it. -/
def State.announced (s : State) (carrier : Nat) (k : Carrier) (slot : Word) (j x : Nat) : List Nat :=
  let all := List.range (carPrb k.payload)
  if (Config.slotWork k.payload j).any (fun e => e.2 == x) then all
  else
    let gs := s.ppt.grants.filter (fun g => !g.downlink && g.admitted.isSome && le g.raw 8 2 == carrier && le g.raw 4 4 == slot.toNat &&
      (grantSyms g.raw).contains x)
    all.filter (fun b => gs.any (fun g => decide (le g.raw 12 2 ≤ b) && decide (b < le g.raw 12 2 + le g.raw 14 2)))

/-- The 802.1Q tag of a flow's frames (R312, R316). -/
def EFlow.tag (f : EFlow) : Option Nat := if bit f.flags 0 then some f.vlan else none

/-- The beam identifier in a flow's sections (R315). DEDUCED (log entry 215): a Category B stream is a beam port, which names its beam. -/
def EFlow.beam (f : EFlow) : Option Nat := if f.category = 1 then some f.stream else none

/-- The C-plane messages of a flow for a carrier slot (R314): section type 1, or 3 at a spacing other than the master numerology; one of type
3 more in the uplink for PRACH. -/
def cplaneMsgs (same prach : Bool) (slot : Word) (f : EFlow) : List Out :=
  .cplane f.port f.tag f.eaxc (if same then 1 else 3) f.beam slot ::
    (if prach && f.dir == 0 then [.cplane f.port f.tag f.eaxc 3 f.beam slot] else [])

/-- The C-plane messages of a carrier slot (R318, R91): those of each flow, in ascending order of eaxc_id, and the blocks that they
announce. -/
def State.cplaneOf (s : State) (e : Nat × Carrier) (p : Plan) (slot : Word) : State :=
  let j := s.frameSlot slot / p.r
  let fs := s.eth.flows.filter (fun f => f.carrier == e.1 && s.flag (Rg.ETH_PORT_CTRL f.port) Fd.ETH_PORT_CTRL_enable)
  let prach := (Config.slotWork e.2.payload j).any (fun w => w.1 == 3)
  let msgs := (sortBy (fun (f : EFlow) => [(f.port : Int), (f.eaxc : Int)]) fs).flatMap (cplaneMsgs (p.r == 1) prach slot)
  let streams := (fs.filter (fun f => f.dir == 0)).map (·.stream)
  let blks := (List.range 14).flatMap (fun x => match s.drum.ingressOf p slot e.1 x with
    | some i => (s.announced e.1 e.2 slot j x).flatMap (fun b => streams.map (fun a => (⟨i.id, a, b, false, false⟩ : Blk)))
    | none => [])
  { s with
    out := msgs.reverse ++ s.out
    eth := { s.eth with blocks := s.eth.blocks ++ blks } }

/-- C-plane messages due at a tick (R318). -/
def State.cplaneStep (s : State) (now : Word) : State :=
  s.ppt.inUse.foldl (fun s e =>
    let p := s.plan e.1 e.2.payload
    let slot := refShift now (-p.cplane)
    if s.slotStart slot p.r then s.cplaneOf e p slot else s) s

/-- A block that a mapping or precoding item reads is late: its encoding was (R40, R124). -/
def Parapet.blockLate (p : Parapet) (i : Item) : Bool :=
  p.grants.any (fun g => g.downlink && bit g.status 8 && le g.raw 8 2 == i.carrier && le g.raw 4 4 == i.slot.toNat &&
    ((i.work == .mapping && i.serves g) || (i.work == .precoding && Config.isPdcch g.raw)))

/-- Release an item (R36, R37, R40, R44): its watchdog edge, its output unit opened with what that writes (R93, R127), its generation,
whether its input is late; a cluster in Nap wakes. A symbol whose slot-store unit is late, by its mapping, is muted (R39, R124). An ingress item of which nothing is announced is complete (R91); the first SSB build
clears its copy (R123). -/
def State.releaseItem (s : State) (i : Item) : State :=
  let u := s.drum.unit i.outUnit
  let opens := u.freeTick != some i.outFree
  let u : OutUnit := if u.freeTick = some i.outFree then u else { u with late := false, freeTick := some i.outFree, egress := i.work == .egress || i.work == .precoding }
  let lateIn := i.lateInput || s.drum.inputLate i || s.ppt.blockLate i
  let d := s.drum.setUnit i.outUnit { u with late := u.late || (i.work == .precoding && s.drum.inputLate i) }
  let empty := i.work == .ingress && !(s.eth.blocks.any (fun b => b.item == i.id))
  let d := d.updItem i.id (fun i => { i with
    phase := if empty then .complete else .released
    edge := refPlus i.deadline (nth 0 (graces s.regs) i.stage)
    gen := u.gen
    lateInput := lateIn })
  let d := if i.work = .ssb then { d with guards := d.guards.filter (· != 4 * i.carrier + i.outUnit % 256) } else d
  let t := { s.opening i opens with drum := d }
  if i.cluster < 18 then t.wakeCluster i.cluster else t

/-- Items whose issue tick has come, in the order of their release: replays first (R45). -/
def Drum.dueItems (d : Drum) (now : Word) : List Item :=
  let due := d.items.filter (fun i => i.phase == .admitted && refFrom now i.issue && (i.cluster != 0xFF || decide (i.stage ≤ 1)))
  due.filter (fun i => bit i.flags 1) ++ due.filter (fun i => !bit i.flags 1)

/-- Step 6 of R45: at most 4,096 items are released (R46); replays could bring more, and the rest follow at the next tick. -/
def State.release (s : State) (now : Word) : State :=
  ((s.drum.dueItems now).take releaseLimit).foldl (fun s i => s.releaseItem i) s

/-- Items admitted but not released are dropped, and their grants answered as refused ones (R50, R170). -/
def State.dropUnreleased (s : State) : State :=
  let gone := s.drum.items.filter (fun i => i.phase == .admitted)
  let gs := s.ppt.grants.filter (fun g => g.admitted.isSome && !g.answered && gone.any (fun i => i.grant == g.id))
  let t := { s with
    drum := { s.drum with items := s.drum.items.filter (fun i => i.phase != .admitted) }
    ppt := { s.ppt with grants := s.ppt.grants.map (fun g => if gs.any (fun x => x.id == g.id) then { g with answered := true } else g) } }
  gs.foldl (fun t g => t.refuse g.downlink g.raw) t

/-- Drum stops at a frame tick (R51): DRUM_STOP completes. -/
def State.drumStops (s : State) (now : Word) : State :=
  let t := s.dropUnreleased
  let t := { t with
    regs := depthRegs (putR t.regs Rg.DRM_STATUS Fd.DRM_STATUS_running 0) 0
    drum := { t.drum with queue := [] } }
  t.withRep (t.rep.complete (isCmd 0x0105) stOk 0 now)

/-- A port as an agent (R368). -/
def portAgent (p : Nat) : Nat := 0xA000 + p

/-- Mode of the quad of a port (R311). -/
def portMode (regs : SMap Word) (p : Nat) : Nat := getR regs (Rg.ETH_PORT_CTRL (quadFirst p)) Fd.ETH_PORT_CTRL_mode

/-- A port takes and sends frames (R311); in the 400GBASE-KR4 mode only the first lane of a quad names a port. -/
def portUp (regs : SMap Word) (p : Nat) : Bool :=
  getR regs (Rg.ETH_PORT_CTRL p) Fd.ETH_PORT_CTRL_enable == 1 && getR regs (Rg.ETH_PORT_STATUS p) Fd.ETH_PORT_STATUS_link_up == 1 &&
    (p == 32 || p % 4 == 0 || portMode regs p != 2)

/-- Attention event of a port (R382). -/
def portEvent (p : Nat) : Nat := if p < 30 then 256 + p else 288 + (p - 30)

/-- A frame with a poisoned byte is dropped at a port (R255, R319): counted, with the port's attention event. -/
def State.poisonDrop (s : State) (p : Nat) : State := (s.bump (Rg.ETH_CNT_TX_POISON p) 1).raise (portEvent p) (portAgent p) []

/-- A port sends the frames of its management transmit queue (R313, R321), at most `n`; one with a poisoned byte is dropped (R319). -/
def State.mgmtSend : Nat → State → Nat → State
  | 0, s, _ => s
  | n + 1, s, p =>
    let r := s.qx.dequeue (portAgent p) (Map.get 0 s.eth.mgmtTx p)
    let t := s.withQx r.1
    if r.2.1 ≠ qOk then t
    else State.mgmtSend n (if anyP r.2.2 then t.poisonDrop p else t.emit (.mgmt p (vals r.2.2))) p

/-- Every port that is up sends its management frames (log entry 193: at each symbol tick, and while the block idles). -/
def State.mgmtStep (s : State) : State :=
  (List.range 33).foldl (fun s p =>
    let q := Map.get 0 s.eth.mgmtTx p
    if q = 0 ∨ !portUp s.regs p then s else s.mgmtSend (s.queue q).fill p) s

/-- A step without a command (log entries 7, 193): a cycle of the clock passes, and the ports send their management frames. -/
def State.idle (s : State) : State := (s.pass 1).mgmtStep

/-- Step 5 of R45, at a frame tick: a takeover that waits for it (R413). Frames that are past can fall back no more (R124). -/
def State.frameStep (s : State) : State :=
  { s with drum := { s.drum with fell := s.drum.fell.filter (fun e => decide (s.rd64 Rg.DRM_FRAME_COUNT_LO ≤ e.2 + 1)) } }.activation

/-- Handle a tick from step 1 to step 6 (R45). -/
def State.handle (s : State) (t : Tick) (sensors : List Sensor) : State :=
  let now := s.refOf t
  let s := ({ s with ppt := { s.ppt with guardUsed := if t.slot then 0 else s.ppt.guardUsed } }).watchdogs now
  let s := { s with drum := s.drum.freeUnits now }.position t
  let s := (s.withQx s.qx.hostReads).mgmtStep
  let s := if t.slot then s.slotStep t sensors else s
  let s := { s with regs := tickInts s.regs t.slot }.cplaneStep now
  let s := if t.frame then s.frameStep else s
  if t.frame ∧ s.getF Rg.DRM_CTRL Fd.DRM_CTRL_enable = 0 then s.drumStops now else s.release now

/-- The sequencer has finished a tick and takes the next of the queue (R46, R47). -/
def State.takeNext (s : State) : State :=
  { s with
    regs := putR s.regs Rg.DRM_STATUS Fd.DRM_STATUS_tickq_depth (s.drum.queue.length - 1)
    drum := { s.drum with cur := s.drum.queue.head?, queue := s.drum.queue.tail } }

/-- TICK_HANDLING (R45, R46): the tick in hand; at a slot tick the die sensors are read (R162). -/
def execTickHandling (sensors : List Sensor) (s : State) : Res :=
  .next (match s.drum.cur with
    | some t => (s.handle t sensors).takeNext
    | none => s)

end Sys2Proof.Machine
end

