-- ==== Sys2Proof/Machine/Fronthaul.lean ====
section
/-! DEFINITION. Fronthaul ports (R90, R124, R311 to R322): received frames, the U-plane of a symbol, link changes, synchronous
Ethernet outputs. -/
namespace Sys2Proof.Machine

/-- Bytes of a PRB block by mantissa (R90). -/
def prbBytes (mantissa : Nat) : Nat :=
  match mantissa with | 8 => 25 | 9 => 28 | 12 => 37 | _ => 43

/-- Streams of a carrier in a direction (R90): antennas, or beam ports of a Category B carrier, as mapped. -/
def streamsOf (payload : List Byte) (flows : List EFlow) (carrier : Nat) (downlink : Bool) : Nat :=
  if flows.any (fun f => f.carrier == carrier && f.category == 1) then (if downlink then 32 else carLayersUl payload)
  else if downlink then carAntDl payload else carAntUl payload

/-- Bytes of the ring partition of a carrier (R41): the mantissa of its flows of that direction, 9 bits where none is mapped. -/
def partition (p : List Byte) (flows : List EFlow) (k : Nat) (downlink : Bool) : Nat :=
  let m := ((flows.find? (fun f => f.carrier == k && (f.dir == 1) == downlink)).map (·.mantissa)).getD 9
  (2 * 2 ^ carScs p * streamsOf p flows k downlink * carPrb p * prbBytes m + 4095) / 4096 * 4096

/-- The partitions of the ring of a direction (R41): carrier and bytes. A carrier without uplink has none in the uplink. -/
def ringSizes (cs : List (Nat × List Byte)) (flows : List EFlow) (downlink : Bool) : List (Nat × Nat) :=
  cs.map (fun e => (e.1, if downlink || carLayersUl e.2 != 0 then partition e.2 flows e.1 downlink else 0))

/-- Bytes of the ring of a direction (R41). -/
def symbolRing : Nat := 33554432

/-- Bases of the partitions of a ring (R41; log entry 28): any that fit. -/
def ringBases (downlink : Bool) (parts : List (Nat × Nat)) : List Nat :=
  placed symbolRing 4096 (Config.ringParts downlink parts) (parts.map (·.2))

/-- First address of a carrier's partition of the ring of a direction (R41, R242). -/
def State.ringAddr (s : State) (downlink : Bool) (carrier : Nat) : Nat :=
  let parts := ringSizes (s.ppt.inUse.map (fun e => (e.1, e.2.payload))) s.eth.flows downlink
  sramBase + (if downlink then 0x10000000 else 0x0E000000) +
    ((((parts.map (·.1)).zip (ringBases downlink parts)).find? (fun e => e.1 == carrier)).map (·.2)).getD 0

/-- Address of a PRB block (R90) in the partition that starts at `base`: `sym` is the symbol of the frame. -/
def blockAddr (base d streams prbs b sym stream prb : Nat) : Nat :=
  base + sym % d * streams * prbs * b + stream * prbs * b + prb * b

/-- Symbol of the frame of a carrier that begins at a reference. -/
def State.carrierSym (s : State) (p : Plan) (ref : Word) : Nat := (s.frameSlot ref * 14 + refSym ref) / p.r

/-- The block of an ingress item. -/
def isBlk (item stream prb : Nat) (b : Blk) : Bool := b.item == item && b.stream == stream && b.prb == prb

/-- One received PRB block (R317): unannounced, a duplicate, or written into the ring. -/
def State.rxBlock (s : State) (port : Nat) (f : EFlow) (payload : List Byte) (p : Plan) (ref : Word) (item : Nat) (b : PrbBlock) :
    State :=
  match s.eth.blocks.find? (isBlk item f.stream b.prb) with
  | none => s.bump (Rg.ETH_CNT_UNANNOUNCED port) 1
  | some k =>
    if k.written then s.bump (Rg.ETH_CNT_DUPLICATE port) 1
    else
      let n := prbBytes f.mantissa
      let a := blockAddr (s.ringAddr false f.carrier) p.d (streamsOf payload s.eth.flows f.carrier false) (carPrb payload) n (s.carrierSym p ref)
        f.stream b.prb
      let t := s.busWrite (portAgent port) a (clean (fit 0 n b.bytes))
      { t with eth := { t.eth with blocks := t.eth.blocks.map (fun x =>
          if isBlk item f.stream b.prb x then { x with written := true, erased := false } else x) } }

/-- A U-plane frame of a symbol (R317): early, late, or taken block by block. -/
def State.rxUplane (s : State) (port : Nat) (eaxc : Nat) (ref : Word) (blocks : List PrbBlock) : State :=
  match s.eth.flows.find? (fun f => f.port == port && f.eaxc == eaxc && f.dir == 0) with
  | none => s.bump (Rg.ETH_CNT_UNKNOWN port) 1
  | some f =>
    let payload := s.ppt.carPayload f.carrier
    let p := s.plan f.carrier payload
    let edge := refShift ref (p.ingress 0).edge
    if refAfter ref s.nowRef then s.bump (Rg.ETH_CNT_EARLY port) 1
    else if refFrom s.nowRef edge then s.bump (Rg.ETH_CNT_LATE port) 1
    else
      let item := (s.drum.items.find? (fun i => i.work == .ingress && i.carrier == f.carrier && i.issue == refShift ref p.r)).map (·.id)
      blocks.foldl (fun s b => s.rxBlock port f payload p ref (item.getD 0) b) s

/-- A C-plane frame announces the PRB blocks of a symbol (R91, R317). -/
def State.rxCplane (s : State) (port : Nat) (eaxc : Nat) (ref : Word) (start count : Nat) : State :=
  match s.eth.flows.find? (fun f => f.port == port && f.eaxc == eaxc) with
  | none => s.bump (Rg.ETH_CNT_UNKNOWN port) 1
  | some f =>
    let p := s.plan f.carrier (s.ppt.carPayload f.carrier)
    match s.drum.items.find? (fun i => i.work == .ingress && i.carrier == f.carrier && i.issue == refShift ref p.r) with
    | none => s
    | some i =>
      let new := ((List.range count).map (· + start)).filter (fun b => !s.eth.blocks.any (isBlk i.id f.stream b))
      { s with eth := { s.eth with blocks := s.eth.blocks ++ new.map (fun b => ⟨i.id, f.stream, b, false, false⟩) } }

/-- A management frame goes to the port's receive queue, padded to its entries (R313, R321). -/
def State.rxMgmt (s : State) (port : Nat) (body : List Byte) : State :=
  let q := Map.get 0 s.eth.mgmtRx port
  if q = 0 then s else s.enqueue (portAgent port) q (clean (fit 0 (s.queue q).esz body))

/-- A one-way delay measurement (R314), by the action type in its body (log entry 214): a Request, or the Follow_Up of one, is answered; a
Remote Request makes this device the initiator; a Response ends what this device initiated. -/
def State.rxDelay (s : State) (port : Nat) (body : List Byte) : State :=
  match le body 1 1 with
  | 0 => s.emit (.delayResponse port body)
  | 3 => s.emit (.delayRequest port false body)
  | 4 => s.emit (.delayRequest port true body)
  | 5 => s.emit (.delayResponse port body)
  | _ => s

/-- What a frame that passed its checks does (R314, R317, R321). -/
def State.rxKind (s : State) (port : Nat) (k : FrameKind) : State :=
  match k with
  | .mgmt body => s.rxMgmt port body
  | .uplane eaxc ref blocks => if port = 32 then s.bump (Rg.ETH_CNT_UNKNOWN port) 1 else s.rxUplane port eaxc ref blocks
  | .cplane eaxc ref start count => if port = 32 then s.bump (Rg.ETH_CNT_UNKNOWN port) 1 else s.rxCplane port eaxc ref start count
  | .delay body => if port = 32 then s.bump (Rg.ETH_CNT_UNKNOWN port) 1 else s.rxDelay port body
  | .other => s.bump (Rg.ETH_CNT_UNKNOWN port) 1

/-- FRONTHAUL_RX_FRAME (R317). -/
def execFronthaulRxFrame (port : Fin 33) (f : RxFrame) (s : State) : Res :=
  .next (if !portUp s.regs port then s
    else
      let t := if f.fcsOk then s else s.bump (Rg.ETH_CNT_FCS port) 1
      let t := if f.fecOk then t else t.bump (Rg.ETH_CNT_FEC_UNCORR port) 1
      if f.fcsOk && f.fecOk then t.rxKind port f.kind else t)

/-- A symbol to be sent: carrier, plan, symbol of the frame, frame index, whether its frame carries SSBs, whether its unit is late. -/
structure Sending where
  carrier : Nat
  payload : List Byte
  plan : Plan
  sym : Nat
  frame : Nat
  ssb : Bool
  late : Bool
  deriving DecidableEq, Repr

/-- Where a PRB block is taken from at egress (R124). -/
inductive Source where
  | copy (n : Nat) | fallback (n : Nat) | ring | muted
  deriving DecidableEq, Repr

/-- A guard copy is valid (R123). -/
def Drum.guardValid (d : Drum) (carrier n : Nat) : Bool := d.guards.contains (4 * carrier + n)

/-- The first source that applies (R124). -/
def Drum.sourceOf (d : Drum) (x : Sending) (prb : Nat) : Source :=
  let o := if x.ssb then Config.ssbBlock x.payload x.sym prb else 0
  let f := x.frame % 3
  let b := (x.frame + 2) % 3
  if o ≠ 0 ∧ d.guardValid x.carrier f then .copy f
  else if o = 2 ∧ d.guardValid x.carrier b then .fallback b
  else if o ≠ 0 then .muted
  else if x.late then .muted else .ring

/-- Address of a PRB block that is sent; none where it is muted. -/
def State.sourceAddr (s : State) (x : Sending) (f : EFlow) (prb : Nat) : Option Nat :=
  let guard := fun (n : Nat) => some (Config.guardBlock x.carrier n x.sym f.stream prb % 2 ^ 38)
  match s.drum.sourceOf x prb with
  | .copy n => guard n
  | .fallback n => guard n
  | .ring => some (blockAddr (s.ringAddr true x.carrier) x.plan.d (streamsOf x.payload s.eth.flows x.carrier true) (carPrb x.payload)
      (prbBytes f.mantissa) x.sym f.stream prb)
  | .muted => none

/-- Read the PRB blocks of a packet. -/
def State.readBlocks (s : State) (x : Sending) (f : EFlow) (prbs : List Nat) : State × List PByte :=
  prbs.foldl (fun (r : State × List PByte) prb =>
    let n := prbBytes f.mantissa
    match s.sourceAddr x f prb with
    | some a => (r.1.busRead (portAgent f.port) a n, r.2 ++ r.1.busBytes (portAgent f.port) a n)
    | none => (r.1, r.2 ++ clean (fit 0 n []))) (s, [])

/-- A frame that holds a poisoned byte is dropped (R122, R319): counted, the port's attention event, the grants in it marked. -/
def State.dropFrame (s : State) (x : Sending) (slot : Word) (sym : Nat) (f : EFlow) (prbs : List Nat) : State :=
  let s := (s.fwBump (fwCarrier x.carrier 5) 1).poisonDrop f.port
  { s with ppt := { s.ppt with grants := s.ppt.grants.map (fun g =>
      if g.covers true x.carrier slot sym ∧ prbs.any (fun b => decide (le g.raw 12 2 ≤ b) && decide (b < le g.raw 12 2 + le g.raw 14 2)) then g.mark 0x08 else g) } }

/-- PRB of the packets of a section (R320): the largest whole number that fits the MTU, the last packet with the rest. -/
def packets (per : Nat) : Nat → List Nat → List (List Nat)
  | 0, _ => []
  | n + 1, l => if l = [] then [] else l.take per :: packets per n (l.drop per)

/-- Send a packet, or drop its frame. -/
def State.sendPacket (s : State) (x : Sending) (slot : Word) (sym : Nat) (f : EFlow) (prbs : List Nat) : State :=
  let r := s.readBlocks x f prbs
  if anyP r.2 then r.1.dropFrame x slot sym f prbs
  else r.1.emit (.uplane f.port f.tag f.eaxc f.beam (refShift slot ((sym : Int) * x.plan.r)) ((prbs.head?).getD 0) (vals r.2))

/-- Send the packets of one flow. -/
def State.sendFlow (s : State) (x : Sending) (slot : Word) (sym : Nat) (f : EFlow) : State :=
  let per := max 1 ((s.getF (Rg.ETH_PORT_CTRL f.port) Fd.ETH_PORT_CTRL_mtu - 18) / prbBytes f.mantissa)
  (packets per (carPrb x.payload) (List.range (carPrb x.payload))).foldl (fun s prbs => s.sendPacket x slot sym f prbs) s

/-- A carrier falls back on the copy of the frame before in this symbol (R124): counted once a frame. -/
def State.fallBack (s : State) (x : Sending) : State :=
  let falls := (List.range (carPrb x.payload)).any (fun b => match s.drum.sourceOf x b with | .fallback _ => true | _ => false)
  if falls ∧ !s.drum.fell.contains (x.carrier, x.frame) then
    let t := s.fwBump (fwCarrier x.carrier 6) 1
    { t with drum := { t.drum with fell := (x.carrier, x.frame) :: t.drum.fell } }
  else s

/-- Mark a symbol that is sent muted in the grants that cover it (R126). -/
def Parapet.muteSym (p : Parapet) (slot : Word) (carrier sym : Nat) : Parapet :=
  { p with grants := p.grants.map (fun g =>
      if g.covers true carrier slot sym then { g with mutedSyms := g.mutedSyms ||| 2 ^ sym } else g) }

/-- What an egress item sends. -/
def State.sending (s : State) (i : Item) : Sending :=
  let payload := s.ppt.carPayload i.carrier
  let p := s.plan i.carrier payload
  let slot := i.slot
  { carrier := i.carrier, payload := payload, plan := p, sym := s.symInFrame p slot i.symbol, frame := s.frameIndex slot,
    ssb := s.ssbFrame payload slot, late := (s.drum.unit i.unitRef).late }

/-- The U-plane of a symbol (R124, R318, R320): flows in ascending order of carrier and eaxc_id on each port. -/
def State.uplane (s : State) (i : Item) : State :=
  let slot := i.slot
  let x := s.sending i
  let fs := s.eth.flows.filter (fun f => f.carrier == i.carrier && f.dir == 1 && portUp s.regs f.port)
  let t := s.fallBack x
  let t := (sortBy (fun (f : EFlow) => [(f.port : Int), (f.eaxc : Int)]) fs).foldl (fun t f => t.sendFlow x slot i.symbol f) t
  let t := if x.late then { t with ppt := t.ppt.muteSym slot i.carrier i.symbol } else t
  t.updItem i.id (fun i => { i with phase := .started })

/-- Ports on which a carrier's U-plane goes out. -/
def State.portsOf (s : State) (carrier : Nat) : List Nat := (s.eth.flows.filter (fun f => f.carrier == carrier && f.dir == 1)).map (·.port)

/-- Tick at which the symbol of an egress item begins. -/
def State.symbolOf (s : State) (i : Item) : Word := refShift i.slot ((i.symbol : Int) * (s.plan i.carrier (s.ppt.carPayload i.carrier)).r)

/-- Egress items in flight that a port sends before another of the same symbol (R318): those of lower carriers, in order. -/
def State.sendsFirst (s : State) (i : Item) : List Item :=
  sortBy (fun (k : Item) => [(k.carrier : Int)]) (s.drum.items.filter (fun k => k.work == .egress && k.phase == .released &&
    decide (k.carrier < i.carrier) && s.symbolOf k == s.symbolOf i && (s.portsOf k.carrier).any (s.portsOf i.carrier).contains))

/-- UPLANE_TX (R318): an egress item in flight sends its symbol, once, after those that the order of its port puts before it. -/
def execUplaneTx (item : Nat) (s : State) : Res :=
  .next (match s.drum.item item with
    | some i => if i.work = .egress ∧ i.phase = .released then ((s.sendsFirst i).foldl (fun s k => s.uplane k) s).uplane i else s
    | none => s)

/-- SYNCE_SQUELCH (R313): the chosen lane loses lock. -/
def execSynceSquelch (o : Fin 2) (s : State) : Res :=
  let t := (s.setF Rg.ETH_SYNCE_CTRL (synceSquelched o) 1).emit (.pin (if o.val = 0 then .synceOut0 else .synceOut1) false)
  .next (if s.getF Rg.ETH_SYNCE_CTRL (synceEnable o) = 1 then
      t.raise (291 + o) (portAgent (s.getF Rg.ETH_SYNCE_CTRL (synceLane o))) []
    else s)

/-- Lanes of a port (R311, R321). -/
def portLanes (regs : SMap Word) (p : Nat) : Nat := if p < 32 ∧ portMode regs p = 2 then 4 else 1

/-- ETH_PORT_STATUS after a change: the lock of each lane that the port has; auto-negotiation in the KR modes (R312), RS-FEC always or, on
port 32, as ETH_PORT_CTRL.fec selects (R311, R321). -/
def linkRegs (regs : SMap Word) (port : Nat) (up : Bool) (lock : BitVec 4) (an : Bool) : SMap Word :=
  let a := Rg.ETH_PORT_STATUS port
  let m := putR regs a Fd.ETH_PORT_STATUS_link_up (b2n up)
  let m := putR m a Fd.ETH_PORT_STATUS_an_done (b2n (an && decide (port < 32) && portMode regs port != 1))
  let m := putR m a Fd.ETH_PORT_STATUS_fec_lock (b2n (up && (decide (port < 32) || getR regs (Rg.ETH_PORT_CTRL port) Fd.ETH_PORT_CTRL_fec == 1)))
  let lock := lock.toNat % 2 ^ portLanes regs port
  let m := putR m a Fd.ETH_PORT_STATUS_lane_lock lock
  (List.range 2).foldl (fun m o =>
    let lane := getR m Rg.ETH_SYNCE_CTRL (synceLane o)
    if port ≤ lane ∧ lane < port + 4 ∧ lock.testBit (lane - port) then putR m Rg.ETH_SYNCE_CTRL (synceSquelched o) 0 else m) m

/-- PORT_LINK_CHANGE (R311, R322, R382): the status, and the attention event where the link state changes. A disabled port has no
link. -/
def execPortLinkChange (port : Fin 33) (up : Bool) (lock : BitVec 4) (an : Bool) (s : State) : Res :=
  let was := s.flag (Rg.ETH_PORT_STATUS port) Fd.ETH_PORT_STATUS_link_up
  let t := { s with regs := linkRegs s.regs port up lock an }
  let t := { t with out := synceChanges s.regs t.regs ++ t.out }
  .next (if up && !s.flag (Rg.ETH_PORT_CTRL port) Fd.ETH_PORT_CTRL_enable then s
    else if was = up then t else t.raise (portEvent port) (portAgent port) [])

end Sys2Proof.Machine
end

