-- ==== Sys2Proof/Machine/Access.lean ====
section
/-! DEFINITION. The host's own access to the device: register classes and expert accesses (R71, R72, R81), the expert window, BAR2
(R324, R325). -/
namespace Sys2Proof.Machine

/-- Classes that EXPERT_CLASS returns (R72, R81). -/
def kFree : Nat := 0
def kStopped : Nat := 1
def kFirmware : Nat := 2
def kNone : Nat := 3

/-- Class of a register by window and offset where the spec names it (R72 and the register sections of the chapters). -/
def namedClass (w o : Nat) : Option Nat :=
  match w with
  | 1 => some kFirmware
  | 2 => some (if o % 0x1000 = 0 ∨ o % 0x1000 = 0x68 then kFree else kStopped)
  | 3 => if o % 0x8000 = 0x1000 then some kFirmware else none
  | 5 => if 0x1000 ≤ o then some kFirmware else none
  | 6 => some (if o / 0x8000 = 21 ∧ 0x800 ≤ o % 0x8000 then kFree else kFirmware)
  | 7 => some (if o = 0x30 then kFree else kFirmware)
  | 9 => some (if o = 0x84000 then kFree else kFirmware)
  | 11 => some (if o = 0x20 ∨ o = 0x24 then kFree else kFirmware)
  | 12 => some (if 0x300 ≤ o then kFree else kFirmware)
  | 13 => some kFirmware
  | 14 => some (if o = 0x24 ∨ o = 0x28 then kFree else kFirmware)
  | 15 => some kFirmware
  | 16 => some (if o = 0x30 then kFree else kFirmware)
  | 17 => some kFirmware
  | _ => none

/-- Class of an address (R72): where the spec puts a register in no class, Psiwyn's choice (log entry 40). -/
def regClassOf (a : Nat) : Nat :=
  match findReg a with
  | none => kNone
  | some _ => (namedClass (winOf a) (winOff a)).getD (Config.regClass a % 3)

/-- The function that owns a register of class Stopped is stopped (R72): Drum, a core, the cores of a cluster, span links. -/
def State.ownerStopped (s : State) (a : Nat) : Bool :=
  let o := winOff a
  match winOf a with
  | 0 => !s.drumLive && !s.flag Rg.DRM_STATUS Fd.DRM_STATUS_waiting
  | 2 => !coreRuns s.regs (o / 0x1000)
  | 3 => (List.range 8).all (fun i => !coreRuns s.regs (8 * (o / 0x8000) + i))
  | 4 => (List.range 8).all (fun i => !coreRuns s.regs (8 * (o / 0x1000) + i))
  | 8 => if o < 0x1000 then linksOff s.regs else getR s.regs (Rg.SPN_LINK_CTRL (o / 0x1000 - 1)) Fd.SPN_LINK_CTRL_enable == 0
  | _ => false

/-- An expert write to an address is discarded under R72. -/
def State.denies (s : State) (a : Nat) : Bool :=
  let k := regClassOf a
  k == kFirmware || (k == kStopped && !s.ownerStopped a)

/-- The books of a discarded expert write (R71, R72). -/
def State.denied (s : State) : State := (s.bump Rg.PCE_EXPERT_DENIED 1).raise 384 hostAgent []

/-- An expert write under the classes (R7, R71, R72). -/
def State.expertWrite (s : State) (a : Nat) (bs : List PByte) : State :=
  if s.denies a then s.denied else s.busWrite hostAgent a bs

/-- A host read of the device's address space (R71, R325): poison comes as EP, a decode error as Unsupported Request. Posted writes come
before it. A read that another device answers is completed by its answer. -/
def State.hostRead (s : State) (a n : Nat) : State :=
  let s := s.memSync hostAgent
  let t := s.busRead hostAgent a n
  match placeOf s.regs a with
  | .there _ _ _ => t
  | _ =>
    if (s.decodeBad hostAgent a n).isSome then { t with out := .unsupported :: t.out }
    else { t with out := completions a (s.busBytes hostAgent a n) ++ t.out }

/-- A read completion of zeros (R71). -/
def State.readsZero (s : State) (n : Nat) : State := { s with out := .completion (leBytes n 0) false :: s.out }

/-- A host read of BAR0 below the expert window (R52, R54): mailboxes, MSI-X table and pending bits as they stand, the doorbell page and
the event block as registers, reserved space as zero. -/
def State.bar0Read (s : State) (off n : Nat) : State :=
  if off < 0x80000 ∨ (0x90000 ≤ off ∧ off < 0xA0000) then { s with out := .completion (s.host.bytes off n) false :: s.out }
  else if off < 0x90000 then s.hostRead (winBase 10 + off) n
  else if 0x200000 ≤ off ∧ off < 0x300000 then s.hostRead (winBase 15 + (off - 0x200000)) n
  else s.readsZero n

/-- EXPERT_WINDOW_ACCESS (R71, R72, R325): a read of `size` bytes or a write through the window at a BAR0 offset. A read below the window is
one of BAR0's other areas. DESIGN CHOICE (log entry 175): the table has no row of its own for it. -/
def execExpertWindowAccess (off size : Nat) (wr : Option (List Byte)) (ep : Bool) (s : State) : Res :=
  .next (if 0x1000000 < off + size then s
    else if off < 0x800000 then (if wr.isSome then s else s.bar0Read off size)
    else match s.host.lease, wr with
    | none, none => s.readsZero size
    | some l, none => s.hostRead (l.base + (off - 0x800000)) size
    | none, some _ => { s with regs := if ep then discardRegs s.regs else s.regs }
    | some l, some bs =>
      if ep then
        let a := l.base + (off - 0x800000)
        let t := { s with regs := discardRegs s.regs }
        if l.rw && isReg a then t.accessError a else t
      else if l.rw then s.expertWrite (l.base + (off - 0x800000)) (clean bs)
      else s.denied)

/-- Device address of an offset of BAR2 (R324). -/
def bar2Addr (regs : SMap Word) (off : Nat) : Nat := getR regs Rg.PCE_BAR2_BASE Fd.PCE_BAR2_BASE_window * 0x1000000000 + off

/-- BAR2_READ (R324, R325). -/
def execBar2Read (off len : Nat) (s : State) : Res :=
  .next (if 0x1000000000 < off + len then s else s.hostRead (bar2Addr s.regs off) len)

/-- An advisory non-fatal error is logged (R323, R325): of a poisoned TLP, or else of an Unsupported Request. -/
def State.advise (s : State) (poisoned_ : Bool) : State :=
  { s with
    out := .advisory poisoned_ :: s.out
    host := { s.host with aer := [nth false s.host.aer 0 || poisoned_, nth false s.host.aer 1 || !poisoned_] } }

/-- BAR2_WRITE (R251, R324, R325). -/
def execBar2Write (off : Nat) (data : List Byte) (ep : Bool) (s : State) : Res :=
  let a := bar2Addr s.regs off
  .next (if 0x1000000000 < off + data.length then s
    else
      let t := s.busWrite hostAgent a (if ep then poisoned data else clean data)
      if (s.decodeBad hostAgent a data.length).isSome then t.advise false
      else if ep then t.advise true
      else t)

end Sys2Proof.Machine
end

