-- ==== Sys2Proof/Machine/Flags.lean ====
section
/-! DEFINITION. Flags and status of a Ziliend core, which live in its ZCR frame: F, level, saturation, accumulator overflow, block
exponent, vector status (R199 to R201, R205, R218, R222). -/
namespace Sys2Proof.Machine

/-- The condition flag F. -/
def flagF (regs : SMap Word) (k : Nat) : Bool := getR regs (Rg.ZCR_STATUS k) Fd.ZCR_STATUS_f == 1

/-- Set F. -/
def putFlag (regs : SMap Word) (k : Nat) (f : Bool) : SMap Word := putR regs (Rg.ZCR_STATUS k) Fd.ZCR_STATUS_f (b2n f)

/-- The level of a core: 0 thread, 1 level 1, 2 level 0 (ZCR_STATUS). -/
def coreLevel (regs : SMap Word) (k : Nat) : Nat := getR regs (Rg.ZCR_STATUS k) Fd.ZCR_STATUS_level

/-- Set the level. -/
def putLevel (regs : SMap Word) (k l : Nat) : SMap Word := putR regs (Rg.ZCR_STATUS k) Fd.ZCR_STATUS_level l

/-- Set a sticky status bit where `b` holds. -/
def stick1 (regs : SMap Word) (a : Nat) (f : Fld) (b : Bool) : SMap Word := if b then putR regs a f 1 else regs

/-- An accumulation wrapped (R199). -/
def noteOvf (regs : SMap Word) (k : Nat) (b : Bool) : SMap Word := stick1 regs (Rg.ZCR_STATUS k) Fd.ZCR_STATUS_acc_ovf b

/-- A move saturated (R200). -/
def noteSat (regs : SMap Word) (k : Nat) (b : Bool) : SMap Word := stick1 regs (Rg.ZCR_STATUS k) Fd.ZCR_STATUS_sat b

/-- A vector result saturated (R218). -/
def noteVsat (regs : SMap Word) (k : Nat) (b : Bool) : SMap Word := stick1 regs (Rg.ZCR_VSTATUS k) Fd.ZCR_VSTATUS_vsat b

/-- Leading bits of an accumulator that equal its sign bit, less one (R201). -/
def leadCount (v : BitVec 72) : Nat :=
  ((List.range 72).find? (fun i => v.getMsbD i != v.msb)).getD 72 - 1

/-- Every accumulator move lowers the block exponent to the value's lead count while tracking is on (R201). -/
def noteBexp (regs : SMap Word) (k : Nat) (v : BitVec 72) : SMap Word :=
  if getR regs (Rg.ZCR_MODE k) Fd.ZCR_MODE_bexp_en = 1 then
    putR regs (Rg.ZCR_BEXP k) Fd.ZCR_BEXP_lead (min (getR regs (Rg.ZCR_BEXP k) Fd.ZCR_BEXP_lead) (leadCount v))
  else regs

/-- ZCR_MODE.acc_scale as a number from -2 to 2 (R200). -/
def accScale (regs : SMap Word) (k : Nat) : Int := sgn 3 (getR regs (Rg.ZCR_MODE k) Fd.ZCR_MODE_acc_scale)

/-- A sum wrapped into 72 bits, and whether it left their range (R199). -/
def acc72 (x : Int) : BitVec 72 × Bool := (BitVec.ofInt 72 x, decide (satS 72 x ≠ x))

/-- The field of an accumulator move (R200): the value scaled without loss, in quarters; bits below the field rounded; saturated to
the destination. Answers the result and whether it saturated. -/
def accField (regs : SMap Word) (k : Nat) (form : AccForm) (v : BitVec 72) : Int × Bool :=
  let y : Int := v.toInt * 2 ^ (accScale regs k + 2).toNat
  let trunc := getR regs (Rg.ZCR_MODE k) Fd.ZCR_MODE_rnd == 1
  let rnd := fun (n : Nat) => if trunc then rndDown y n else rndEven y n
  let r : Int × Nat := match form with
    | .h => (rnd 18, 16)
    | .w => (rnd 34, 32)
    | .l => (rndDown y 2, 32)
  (satS r.2 r.1, decide (satS r.2 r.1 ≠ r.1))

end Sys2Proof.Machine
end

