-- ==== Sys2Proof/Machine/Operands.lean ====
section
/-! DEFINITION. Operand forms of the Ziliend core: register files, immediates, the addressing modes (R193 to R195), and where a core
address leads (R187). -/
namespace Sys2Proof.Machine

/-- A register with its poison, unwritten (R188; log entry 3). -/
abbrev SReg.zero : SReg := ⟨0, false⟩
abbrev AReg.zero : AReg := ⟨0, false⟩
abbrev VReg.zero : VReg := ⟨0, 0⟩

/-- A register of a file. -/
def Core.reg (c : Core) (f : RegFile) (i : Nat) : SReg :=
  Map.get SReg.zero (match f with | .g => c.g | .a => c.a | .s => c.s | .w => c.w | .o => c.o) i

/-- Replace a register of a file. -/
def Core.setReg (c : Core) (f : RegFile) (i : Nat) (r : SReg) : Core :=
  match f with
  | .g => { c with g := Map.set SReg.zero c.g i r }
  | .a => { c with a := Map.set SReg.zero c.a i r }
  | .s => { c with s := Map.set SReg.zero c.s i r }
  | .w => { c with w := Map.set SReg.zero c.w i r }
  | .o => { c with o := Map.set SReg.zero c.o i r }

/-- An accumulator. -/
def Core.accu (c : Core) (i : Nat) : AReg := Map.get AReg.zero c.acc i

/-- Replace an accumulator. -/
def Core.setAcc (c : Core) (i : Nat) (r : AReg) : Core := { c with acc := Map.set AReg.zero c.acc i r }

/-- Registers of a file. -/
def fileSize (f : RegFile) : Nat := match f with | .g => 32 | _ => 16

/-- A general register, or an immediate, which carries no poison. -/
def Core.gimm (c : Core) (x : GImm) : SReg :=
  match x with
  | .reg r => c.reg .g r
  | .imm v => ⟨v, false⟩

/-- Exception causes (R209, R227). -/
def xIllegal : Nat := 0x01
def xAlign : Nat := 0x02
def xDecode : Nat := 0x03
def xPoison : Nat := 0x04
def xLoop : Nat := 0x05
def xMode : Nat := 0x06
def xvDecode : Nat := 0x08
def xvAlign : Nat := 0x09
def xvPoison : Nat := 0x0A
def xvStart : Nat := 0x0B

/-- What an address operand comes to: the effective address and the new address register, or an exception. -/
inductive EA where
  | at (ea new : Word)
  | bad (cause : Nat)
  deriving DecidableEq, Repr

/-- The bits of a field in the other order: `n` bits of `v`. -/
def revBits (n v : Nat) : Nat := (List.range n).foldl (fun r i => r + (if v.testBit i then 2 ^ (n - 1 - i) else 0)) 0

/-- Bit-reversed step of an offset `d` by `step` in a field from bit `lo` to below bit `hi` (R195): the carry runs towards the low
end. -/
def revStep (lo hi d step : Nat) : Nat :=
  let n := hi - lo
  let f := revBits n ((revBits n (d / 2 ^ lo % 2 ^ n) + revBits n (step / 2 ^ lo % 2 ^ n)) % 2 ^ n)
  d % 2 ^ lo + f * 2 ^ lo + d / 2 ^ hi * 2 ^ hi

/-- Circular step (R194). -/
def circStep (a o w : Word) (step : Int) : Word :=
  o + BitVec.ofInt 32 (((a.toNat : Int) - o.toNat + step) % (w.toNat : Int))

/-- The power of two that a word is, if one. -/
def log2Of (w : Word) : Option Nat := (List.range 25).find? (fun i => w.toNat == 2 ^ i)

/-- Effective address and post-modify (R193 to R195) for an access of `e` bytes with offsets in units of `u` bytes. Address registers
that carry poison raise POISON (R198). -/
def Core.ea (c : Core) (m : AMode) (e u : Nat) : EA :=
  let a := c.reg .a m.a
  let s := c.reg .s m.a
  let w := c.reg .w m.a
  let o := c.reg .o m.a
  let off : Int := m.off * u
  let step : Int := sgn 32 s.v.toNat
  let circ := w.v != 0
  let bad := a.p || (decide (2 ≤ m.mode.val) && m.mode.val != 4 && s.p) || (decide (3 ≤ m.mode.val) && w.p) ||
    (decide (3 ≤ m.mode.val) && circ && o.p)
  if 6 ≤ m.mode.val then .bad xIllegal
  else if bad then .bad xPoison
  else match m.mode.val with
    | 0 => .at (a.v + BitVec.ofInt 32 off) a.v
    | 1 => .at a.v (a.v + BitVec.ofInt 32 off)
    | 2 => .at a.v (a.v + s.v)
    | 3 => .at a.v (if circ then circStep a.v o.v w.v step else a.v + s.v)
    | 4 => .at a.v (if circ then circStep a.v o.v w.v off else a.v + BitVec.ofInt 32 off)
    | _ =>
      match log2Of w.v with
      | some hi =>
        if 2 * e ≤ w.v.toNat ∧ s.v.toNat % e = 0 then
          let lo := Nat.log2 e
          .at a.v (o.v + BitVec.ofNat 32 (revStep lo hi (a.v - o.v).toNat s.v.toNat))
        else .bad xMode
      | none => .bad xMode

/-- Where a core address leads (R187). -/
inductive Target where
  /-- The core's own tile memory, at an offset. -/
  | tile (off : Nat)
  /-- Its own ZCR frame. -/
  | zcr (off : Nat)
  /-- A device address. -/
  | dev (a : Nat)
  | unmapped
  deriving DecidableEq, Repr

/-- Resolve a core address of core `k` (R187). -/
def coreTarget (regs : SMap Word) (k : Nat) (ca : Nat) : Target :=
  let c := k / 8
  let j := k % 8
  if ca < 0x80000 then .tile ca
  else if 0x400000 ≤ ca ∧ ca < 0x800000 then
    let off := ca - 0x400000
    if off / 0x80000 = j then .tile (off % 0x80000) else .dev (tileBase c + off)
  else if 0x1000000 ≤ ca ∧ ca < 0x1800000 then .dev (sharedBase c + (ca - 0x1000000))
  else if 0x2000000 ≤ ca ∧ ca < 0x2001000 then .zcr (ca - 0x2000000)
  else if 0x40000000 ≤ ca ∧ ca < 0x80000000 then
    .dev (getR regs (Rg.ZCR_FAR0_BASE k) Fd.ZCR_FAR0_BASE_base * 0x40000000 + (ca - 0x40000000))
  else if 0x80000000 ≤ ca ∧ ca < 0xC0000000 then
    .dev (getR regs (Rg.ZCR_FAR1_BASE k) Fd.ZCR_FAR1_BASE_base * 0x40000000 + (ca - 0x80000000))
  else .unmapped

/-- Device address of a tile offset of core `k` (R242). -/
def tileAddr (k off : Nat) : Nat := tileBase (k / 8) + k % 8 * 0x80000 + off

end Sys2Proof.Machine
end

