-- ==== Sys2Proof/Machine/Ziliend.lean ====
section
/-! DEFINITION. How a Ziliend core runs an instruction: memory and store buffer (R187, R190), loop ends (R196, R197), exceptions and
fatal faults (R209, R210), interrupts (R205 to R207). -/
namespace Sys2Proof.Machine

/-- A core as an agent (R368). -/
def coreAgent (k : Nat) : Nat := 0x1000 + k

/-- Where the range of R187 that holds a core address ends; for tile memory the end of the tile. -/
def rangeEnd (ca : Nat) : Nat :=
  if ca < 0x80000 then 0x80000
  else if 0x400000 ≤ ca ∧ ca < 0x800000 then (ca / 0x80000 + 1) * 0x80000
  else if 0x1000000 ≤ ca ∧ ca < 0x1800000 then 0x1800000
  else if 0x2000000 ≤ ca ∧ ca < 0x2001000 then 0x2001000
  else if 0x40000000 ≤ ca ∧ ca < 0x80000000 then 0x80000000
  else if 0x80000000 ≤ ca ∧ ca < 0xC0000000 then 0xC0000000
  else 2 ^ 33

/-- The parts of an access that lie in one range each: it touches two at most. -/
def coreParts (ca n : Nat) : List (Nat × Nat) :=
  let e := rangeEnd ca
  if ca + n ≤ e then [(ca, n)] else [(ca, e - ca), (e, ca + n - e)]

/-- First core address of a part of an access that raises DECODE. -/
def State.partBad (s : State) (k ca n : Nat) : Option Nat :=
  match coreTarget s.regs k ca with
  | .unmapped => some ca
  | .dev a => (s.decodeBad (coreAgent k) a n).map (fun b => ca + (b - a))
  | .tile _ => none
  | .zcr _ => none

/-- First core address of an access of `n` bytes that raises DECODE (R187, R24). -/
def State.coreBad (s : State) (k ca n : Nat) : Option Nat := (coreParts ca n).findSome? (fun p => s.partBad k p.1 p.2)

/-- Bytes of a store that a load takes from the store buffer (R190). -/
def sbOverlay (sb : List SbEntry) (off : Nat) (bs : List PByte) : List PByte :=
  ((List.range bs.length).zip bs).map (fun e =>
    sb.foldl (fun b x =>
      let i := off + e.1
      if x.addr.toNat ≤ i ∧ i < x.addr.toNat + x.bytes.length then nth b x.bytes (i - x.addr.toNat) else b) e.2)

/-- Drain the oldest entry of a core's store buffer into its tile memory (R190). -/
def State.drainOne (s : State) (k : Nat) : State :=
  match (s.core k).sb with
  | [] => s
  | e :: rest =>
    let t := s.memWrite (coreAgent k) (tileAddr k e.addr.toNat) e.bytes
    t.setCore k { t.core k with sb := rest }

/-- Drain the store buffer. -/
def State.drainAll (s : State) (k : Nat) : State := (List.range 8).foldl (fun s _ => s.drainOne k) s

/-- A store enters the buffer of 8; a full one drains two entries first (R190). -/
def State.sbPush (s : State) (k off : Nat) (bs : List PByte) : State :=
  let t := if 8 ≤ (s.core k).sb.length then (s.drainOne k).drainOne k else s
  t.setCore k { t.core k with sb := (t.core k).sb ++ [⟨BitVec.ofNat 32 off, bs⟩] }

/-- A write of a core to its own frame (R188). -/
def State.zcrSet (s : State) (k o : Nat) (v : Word) : State :=
  if o = 0 then s.runCtrl k v
  else if o = 0x68 then s.plain (Rg.ZCR_INT_PENDING k) v
  else { s with regs := zcrSetRegs s.regs k o v }

/-- A core reads: the state after. The access meets no decode error. -/
def State.coreRead (s : State) (k ca n : Nat) : State :=
  match coreTarget s.regs k ca with
  | .tile off => s.memRead (coreAgent k) (tileAddr k off) n
  | .zcr off => s.regRead (Rg.ZCR_CTRL k + off) n
  | .dev a => s.busRead (coreAgent k) a n
  | .unmapped => s

/-- A core reads: the bytes. -/
def State.coreBytes (s : State) (k ca n : Nat) : List PByte :=
  match coreTarget s.regs k ca with
  | .tile off => sbOverlay (s.core k).sb off (s.memBytes (coreAgent k) (tileAddr k off) n)
  | .zcr off => clean (s.regBytes (Rg.ZCR_CTRL k + off) n)
  | .dev a => s.busBytes (coreAgent k) a n
  | .unmapped => []

/-- A core writes: stores to its own tile memory pass through the store buffer. -/
def State.coreWrite (s : State) (k ca : Nat) (bs : List PByte) : State :=
  match coreTarget s.regs k ca with
  | .tile off => s.sbPush k off bs
  | .zcr off =>
    if off % 4 ≠ 0 ∨ bs.length ≠ 4 ∨ anyP bs then s.accessError (Rg.ZCR_CTRL k + off)
    else s.zcrSet k off (BitVec.ofNat 32 (leNat (vals bs)))
  | .dev a => s.busWrite (coreAgent k) a bs
  | .unmapped => s

/-- What an instruction comes to. -/
inductive Act where
  /-- Completed; the next instruction follows. -/
  | ok (s : State)
  /-- Completed; execution goes on elsewhere; a taken branch ends the loops it leaves. -/
  | jump (s : State) (target : Word) (branch : Bool)
  /-- An exception, with its cause and the address for ZCR_EADDR. -/
  | trap (s : State) (cause : Nat) (addr : Option Word)
  /-- Not complete: the instruction waits, and is run again. -/
  | stay (s : State)

/-- The state that an outcome leads to. -/
def Act.state (a : Act) : State :=
  match a with
  | .ok s => s
  | .jump s _ _ => s
  | .trap s _ _ => s
  | .stay s => s

/-- Apply a function to the state of an outcome. -/
def Act.map (a : Act) (f : State → State) : Act :=
  match a with
  | .ok s => .ok (f s)
  | .jump s t b => .jump (f s) t b
  | .trap s c x => .trap (f s) c x
  | .stay s => .stay (f s)

/-- The loop state in the ZCR frame of a core. -/
def loopsOf (regs : SMap Word) (k : Nat) : Loops :=
  { depth := getR regs (Rg.ZCR_LOOP_DEPTH k) Fd.ZCR_LOOP_DEPTH_depth
    start := (List.range 4).map (fun n => rdR regs (Rg.ZCR_LOOP_START k n))
    last := (List.range 4).map (fun n => rdR regs (Rg.ZCR_LOOP_END k n))
    count := (List.range 4).map (fun n => rdR regs (Rg.ZCR_LOOP_COUNT k n)) }

/-- Put a loop state into the frame. -/
def putLoops (regs : SMap Word) (k : Nat) (l : Loops) : SMap Word :=
  let regs := putR regs (Rg.ZCR_LOOP_DEPTH k) Fd.ZCR_LOOP_DEPTH_depth l.depth
  (List.range 4).foldl (fun m n =>
    let m := wrR m (Rg.ZCR_LOOP_START k n) (nth 0 l.start n)
    let m := wrR m (Rg.ZCR_LOOP_END k n) (nth 0 l.last n)
    putR m (Rg.ZCR_LOOP_COUNT k n) Fd.ZCR_LOOP_COUNT_count (nth 0 l.count n).toNat) regs

/-- The end of an instruction at `pc` (R196): the innermost level that ends there loops back or ends, and then the next one out is
looked at. Answers the loop state and where execution goes on. -/
def loopEnd : Nat → Loops → Word → Word → Loops × Word
  | 0, l, _, next => (l, next)
  | n + 1, l, pc, next =>
    let d := l.depth - 1
    if l.depth = 0 ∨ nth 0 l.last d ≠ pc then (l, next)
    else
      let c := (nth 0 l.count d).toNat - 1
      let l := { l with count := setNth l.count d (BitVec.ofNat 32 c) }
      if c ≠ 0 then (l, nth 0 l.start d) else loopEnd n { l with depth := d } pc next

/-- A taken branch to `target` ends the levels whose body does not hold it (R197). -/
def loopLeave : Nat → Loops → Word → Loops
  | 0, l, _ => l
  | n + 1, l, target =>
    let d := l.depth - 1
    if l.depth = 0 ∨ (nth 0 l.start d ≤ target ∧ target ≤ nth 0 l.last d) then l
    else loopLeave n { l with depth := d } target

/-- The instruction at `pc` is the last of an active level (R197). -/
def atLoopEnd (l : Loops) (pc : Word) : Bool := (List.range l.depth).any (fun n => nth 0 l.last n == pc)

/-- Set the program counter of a core. -/
def State.setPc (s : State) (k : Nat) (pc : Word) : State := s.setCore k { s.core k with pc := pc }

/-- Whether a core issues: it runs, or an instruction that waits for another device is not yet at its end (R211), and it does not wait
without an enabled interrupt pending (R204). -/
def State.issues (s : State) (k : Nat) : Bool :=
  (coreRuns s.regs k || s.span.busy (coreAgent k)) && (!(s.core k).waiting || rdR s.regs (Rg.ZCR_INT_ENABLE k) &&& rdR s.regs (Rg.ZCR_INT_PENDING k) != 0)

/-- Tag handle (R233). -/
def tagHandle (t : Nat) (seq : BitVec 8) : Word := BitVec.ofNat 32 (t + 256 * seq.toNat)

/-- Tag and sequence of a handle. -/
def handleTag (h : Word) : Nat := h.toNat % 256
def handleSeq (h : Word) : BitVec 8 := BitVec.ofNat 8 (h.toNat / 256)

/-- A kill that a core sends (R237): one whose handle names an earlier allocation of the tag is ignored. -/
def Cx.ckil (x : Cx) (c : Nat) (h : Word) : Cx :=
  if ((x.cup c).tag (handleTag h)).seq = handleSeq h then x.kill c (handleTag h) else x.bump (Rg.CPL_KILLS_IGNORED c) 1

/-- A CISS is squashed (R236): a kill goes for its tag, and what it wrote is put back. -/
def State.squashOne (s : State) (k : Nat) (i : Issuing) : State :=
  let t := s.withCx (s.cx.ckil (k / 8) i.handle)
  let c := t.core k
  { t with
    regs := putFlag t.regs k i.oldF
    cores := Map.set Core.reset t.cores k (if c.reg .g i.r1 = ⟨i.handle, false⟩ then c.setReg .g i.r1 i.old else c) }

/-- An exception of an instruction squashes the CISS instructions that ran ahead of its end, the last one first (R236). -/
def State.squash (s : State) (k : Nat) : State :=
  let t := (s.core k).issuing.reverse.foldl (fun t i => t.squashOne k i) s
  t.setCore k { t.core k with issuing := [] }

/-- Registers of a core that takes an exception at thread level (R207, R209). -/
def trapRegs (regs : SMap Word) (k cause : Nat) (pc : Word) : SMap Word :=
  let regs := wrR regs (Rg.ZCR_EPC1 k) pc
  let regs := wrR regs (Rg.ZCR_ESR1 k) (BitVec.ofNat 32 (cause * 256 + 2 * coreLevel regs k + b2n (flagF regs k)))
  putLevel regs k 1

/-- Registers of a core in a fatal fault (R210). -/
def fatalRegs (regs : SMap Word) (k cause : Nat) (pc : Word) : SMap Word :=
  let a := Rg.ZCR_ESR1 k
  let regs := wrR regs (Rg.ZCR_EPC1 k) pc
  let regs := putR (putR (putR regs a Fd.ZCR_ESR1_input 0) a Fd.ZCR_ESR1_cause cause) a Fd.ZCR_ESR1_fatal 1
  putR regs (Rg.ZCR_CTRL k) Fd.ZCR_CTRL_run 0

/-- Where a handler begins is not stated: a free value, aligned to an instruction (log entry 33). -/
def State.handlerPc (s : State) : Word := BitVec.ofNat 32 (4 * s.peek 0)

/-- A core meets an exception (R209, R210): at thread level its handler runs at level 1; else the core stops and its ISSUED tags are
killed (R238). Consumed poison fails the cluster (R180). -/
def State.coreTrap (s : State) (k cause : Nat) (addr : Option Word) : State :=
  let c := k / 8
  let fatal := coreLevel s.regs k != 0
  let pc := (s.core k).pc
  let ea : Word := match addr with
    | some a => a
    | none => if cause = xPoison then BitVec.ofNat 32 (s.peek 1) else rdR s.regs (Rg.ZCR_EADDR k)
  let s := s.squash k
  let regs := wrR s.regs (Rg.ZCR_EADDR k) ea
  let t := { s with regs := if fatal then fatalRegs regs k cause pc else trapRegs regs k cause pc, free := s.free + 2 }
  let t := t.withCx (if fatal then t.cx.killOwned c (k % 8) else t.cx)
  let t := if fatal then t.raise (32 * (13 + c) + k % 8) (coreAgent k) [] else t.setPc k s.handlerPc
  if cause = xPoison ∨ cause = xvPoison then t.failCluster c causePoison else t

/-- One cycle of a core counts (ZCR_CYCLES; log entry 34). -/
def State.tickCore (s : State) (k : Nat) : State :=
  { s with
    regs := wrap64R s.regs (Rg.ZCR_CYCLES_LO k) 1
    cores := Map.set Core.reset s.cores k { s.core k with waiting := false }
    evt := { s.evt with epochs := toggleEpoch s.evt.epochs (16 + k) 0 (wraps64 s.regs (Rg.ZCR_CYCLES_LO k) 1) } }

/-- An instruction whose accesses wait for another device (R187): only its requests are kept, and it runs again when every answer is
there (log entry 171). -/
def Act.settled (a : Act) (t : State) (agent : Nat) : Act :=
  if a.state.span.outstanding agent then .stay { t with span := a.state.span }
  else a.map (fun u => { u with span := u.span.settle agent })

/-- The core as an instruction sees it that waits for another device: without what CISS instructions behind it wrote (R236). -/
def State.behind (s : State) (k : Nat) : State :=
  (s.core k).issuing.reverse.foldl (fun t i =>
    { t with regs := putFlag t.regs k i.oldF, cores := Map.set Core.reset t.cores k ((t.core k).setReg .g i.r1 i.old) }) s

/-- The instruction is complete, and the CISS instructions behind it retire: what they wrote comes last (R236). -/
def State.overtaken (s : State) (k : Nat) : State :=
  let t := (s.core k).issuing.foldl (fun (t : State) i =>
    { t with regs := putFlag t.regs k true, cores := Map.set Core.reset t.cores k ((t.core k).setReg .g i.r1 ⟨i.handle, false⟩) }) s
  t.setCore k { t.core k with issuing := [] }

/-- Where execution goes on behind an instruction at `pc`, `next` following it, and behind the `n` CISS instructions that ran ahead of
its end. -/
def goOn : Nat → Loops → Word → Word → Loops × Word
  | 0, l, pc, next => loopEnd 4 l pc next
  | n + 1, l, pc, next =>
    let r := loopEnd 4 l pc next
    goOn n r.1 r.2 (r.2 + 4)

/-- Run an instruction of `len` bytes on its core: nothing where the core does not issue, or an access of it waits; ILLEGAL for a
reserved encoding (R204) and for an instruction that may not stand at a loop end (R197); else its effect and the program counter after
it. -/
def State.runIns (s : State) (x : Ins) (len : Nat) (notLast : Bool) (body : State → Act) : State :=
  let k := x.core.val
  if !s.issues k || s.span.outstanding (coreAgent k) then s
  else
    let pc := (s.core k).pc
    let l := loopsOf s.regs k
    let busy := s.span.busy (coreAgent k)
    let t := (if busy then s.behind k else s).tickCore k
    match (if x.illegal || (notLast && atLoopEnd l pc) then Act.trap t xIllegal none else (body t).settled t (coreAgent k)) with
    | .stay u => if busy then { s.tickCore k with span := u.span } else u
    | .ok u =>
      let r := goOn (if busy then (s.core k).issuing.length else 0) (loopsOf u.regs k) pc (pc + BitVec.ofNat 32 len)
      let u := if busy then u.overtaken k else u
      ({ u with regs := putLoops u.regs k r.1 }).setPc k r.2
    | .jump u target branch =>
      let l := loopsOf u.regs k
      let u := if busy then u.overtaken k else u
      ({ u with regs := putLoops u.regs k (if branch then loopLeave 4 l target else l) }).setPc k target
    | .trap u cause addr => u.coreTrap k cause addr

/-- Pending and enabled inputs of a level (R205): level 0 where `hi`. -/
def pendingAt (regs : SMap Word) (k : Nat) (hi : Bool) : Word :=
  let p := rdR regs (Rg.ZCR_INT_PENDING k) &&& rdR regs (Rg.ZCR_INT_ENABLE k)
  let l := rdR regs (Rg.ZCR_INT_LEVEL k)
  if hi then p &&& l else p &&& ~~~ l

/-- The lowest bit that is set. -/
def lowestBit (w : Word) : Option Nat := (List.range 32).find? (fun i => w.getLsbD i)

/-- Entries of a table from key `lo` to below `hi`. -/
def part {α : Type} (m : SMap α) (hi : Nat) : SMap α := m.filter (fun e => decide (e.1 < hi))

/-- Entries of a table from key `lo` on. -/
def above {α : Type} (m : SMap α) (lo : Nat) : SMap α := m.filter (fun e => decide (lo ≤ e.1))

/-- Swap the registers of a core with its level-0 shadow bank; `l` is the loop state that goes in, and the shadow depth comes out 0
at an entry (R206). -/
def Core.swap (c : Core) (l : Loops) : Core :=
  { c with
    g := part c.sg 16 ++ above c.g 16
    sg := part c.g 16
    a := part c.sa 8 ++ above c.a 8
    sa := part c.a 8
    acc := part c.sacc 4 ++ above c.acc 4
    sacc := part c.acc 4
    sloops := l }

/-- Taking an input clears its pending bit (R205); input 1 stays pending while the late-error queue holds an entry (R239). -/
def takenRegs (regs : SMap Word) (k i : Nat) : SMap Word :=
  if i = 1 ∧ getR regs (Rg.CPL_LATE_INFO (k / 8) (k % 8)) Fd.CPL_LATE_INFO_valid = 1 then regs
  else wrR regs (Rg.ZCR_INT_PENDING k) (rdR regs (Rg.ZCR_INT_PENDING k) &&& ~~~ bitW i)

/-- Inputs whose source the model has no command for arrive with the arbitration: 3 and 4 from the cluster scheduler, 8 to 15 the
doorbells of cores (R205; log entry 172). -/
def arriveRegs (regs : SMap Word) (k : Nat) (w : Word) : SMap Word :=
  if w &&& 0x0000FF18 = 0 then regs
  else wrR regs (Rg.ZCR_INT_PENDING k) (rdR regs (Rg.ZCR_INT_PENDING k) ||| (w &&& 0x0000FF18))

/-- Registers of a core that enters level 0 by an input (R205, R206). -/
def enter0Regs (regs : SMap Word) (k i : Nat) (pc : Word) (sl : Loops) : SMap Word :=
  let regs := takenRegs regs k i
  let regs := wrR regs (Rg.ZCR_EPC0 k) pc
  let regs := wrR regs (Rg.ZCR_ESR0 k) (BitVec.ofNat 32 (i * 65536 + 2 * coreLevel regs k + b2n (flagF regs k)))
  putLoops (putLevel regs k 2) k { sl with depth := 0 }

/-- INTERRUPT_LEVEL0 (R205, R206): the lowest pending input of level 0, unless the core is at level 0 or in the middle of an
instruction. -/
def execInterruptLevel0 (arb : IntArb) (s : State) : Res :=
  let k := arb.core
  let s := { s with regs := arriveRegs s.regs k arb.arriving }
  .next (match lowestBit (pendingAt s.regs k true) with
    | none => s
    | some i =>
      if !coreRuns s.regs k ∨ coreLevel s.regs k = 2 ∨ s.span.busy (coreAgent k) then s
      else
        let c := s.core k
        { s with
          regs := enter0Regs s.regs k i c.pc c.sloops
          cores := Map.set Core.reset s.cores k { c.swap (loopsOf s.regs k) with pc := s.handlerPc, waiting := false }
          free := s.free + 1 })

/-- Registers of a core that enters level 1 by an input (R205, R207). -/
def enter1Regs (regs : SMap Word) (k i : Nat) (pc : Word) : SMap Word :=
  let regs := takenRegs regs k i
  let regs := wrR regs (Rg.ZCR_EPC1 k) pc
  let regs := wrR regs (Rg.ZCR_ESR1 k) (BitVec.ofNat 32 (i * 65536 + 2 * coreLevel regs k + b2n (flagF regs k)))
  putLevel regs k 1

/-- INTERRUPT_LEVEL1 (R205, R207): the lowest pending input of level 1, at thread level and with none of level 0 pending. -/
def execInterruptLevel1 (arb : IntArb) (s : State) : Res :=
  let k := arb.core
  let s := { s with regs := arriveRegs s.regs k arb.arriving }
  .next (match lowestBit (pendingAt s.regs k false) with
    | none => s
    | some i =>
      if !coreRuns s.regs k ∨ coreLevel s.regs k ≠ 0 ∨ pendingAt s.regs k true ≠ 0 ∨ s.span.busy (coreAgent k) then s
      else
        let c := s.core k
        { s with
          regs := enter1Regs s.regs k i c.pc
          cores := Map.set Core.reset s.cores k { c with pc := s.handlerPc, waiting := false }
          free := s.free + 1 })

/-- STORE_BUFFER_DRAIN (R190): the oldest entry reaches its bank. -/
def execStoreBufferDrain (k : Fin 144) (s : State) : Res := .next (s.drainOne k)

/-- CORE_RUN_START (R211): ZCR_CTRL.run written to 1. -/
def execCoreRunStart (k : Fin 144) (v : Word) (s : State) : Res := .next (s.when (Fd.ZCR_CTRL_run.get v = 1) (s.runCtrl k v))

/-- CORE_RUN_STOP (R211): ZCR_CTRL.run written to 0 stops issue at the next instruction boundary. -/
def execCoreRunStop (k : Fin 144) (v : Word) (s : State) : Res := .next (s.when (Fd.ZCR_CTRL_run.get v = 0) (s.runCtrl k v))

/-- CORE_TIMER_EXPIRY (R205): ZCR_TIMER reaches zero and raises input 7. -/
def execCoreTimerExpiry (k : Fin 144) (s : State) : Res :=
  .next { s with
    regs := if rdR s.regs (Rg.ZCR_TIMER k) = 0 then s.regs else wrR (intrR s.regs k 7) (Rg.ZCR_TIMER k) 0 }

/-- SOFT_INTERRUPT_SET (R205): ones in bits 31:16 of ZCR_INT_PENDING. -/
def execSoftInterruptSet (k : Fin 144) (v : Word) (s : State) : Res :=
  .next { s with
    regs := wrR s.regs (Rg.ZCR_INT_PENDING k) (rdR s.regs (Rg.ZCR_INT_PENDING k) ||| (v &&& 0xFFFF0000)) }

end Sys2Proof.Machine
end

