-- ==== Sys2Proof/Machine/Scalar.lean ====
section
/-! DEFINITION. The scalar instructions of the Ziliend core (R193 to R208). -/
namespace Sys2Proof.Machine

/-- The books of a data access that raises DECODE (R187, R24): an unmapped core address makes no access, a device address raises the
decode-error event. -/
def State.coreDecode (s : State) (k ca : Nat) : State :=
  match coreTarget s.regs k ca with
  | .dev a => s.decodeMet a
  | _ => s

/-- An access of `e` bytes at a core address: what forbids it (R187, R189), else `go`. -/
def State.access (s : State) (k : Nat) (ea : Word) (e : Nat) (go : Unit → Act) : Act :=
  if ea.toNat % e ≠ 0 then .trap s xAlign (some ea)
  else match s.coreBad k ea.toNat e with
    | some a => .trap (s.coreDecode k a) xDecode (some (BitVec.ofNat 32 a))
    | none => go ()

/-- Whether a register operand exists: 16 or 32 in a file, pairs for 64 bits with the first even (R203). -/
def regOk (f : RegFile) (size r : Nat) : Bool := decide (r < fileSize f) && (size != 3 || r % 2 == 0)

/-- Value of a load narrower than a register: the bits above are open (log entry 22). -/
def widen (size raw : Nat) : Word := BitVec.ofNat 32 (raw + (Config.loadHigh size raw).toNat * 2 ^ (8 * 2 ^ size))

/-- Write loaded bytes into a register, or into two for 64 bits; poison is that of any part (R198). -/
def Core.loaded (c : Core) (f : RegFile) (size rd : Nat) (bs : List PByte) : Core :=
  let p := anyP bs
  let raw := leNat (vals bs)
  if size = 3 then (c.setReg f rd ⟨BitVec.ofNat 32 raw, p⟩).setReg f (rd + 1) ⟨BitVec.ofNat 32 (raw / 2 ^ 32), p⟩
  else if size = 2 then c.setReg f rd ⟨BitVec.ofNat 32 raw, p⟩
  else c.setReg f rd ⟨widen size raw, p⟩

/-- Bytes of a store from a register, or from two; each carries its register's poison (R198). -/
def Core.stored (c : Core) (f : RegFile) (size rs : Nat) : List PByte :=
  let one := fun (r : SReg) (n : Nat) => (leBytes n r.v.toNat).map (fun b => (⟨b, r.p⟩ : PByte))
  if size = 3 then one (c.reg f rs) 4 ++ one (c.reg f (rs + 1)) 4 else one (c.reg f rs) (2 ^ size)

/-- Post-modify an address register. -/
def Core.post (c : Core) (n : Nat) (v : Word) : Core := c.setReg .a n ⟨v, false⟩

/-- A scalar load (R189, R193, R198). A loaded address register holds the loaded value. -/
def loadBody (k : Nat) (f : RegFile) (size rd : Nat) (m : AMode) (s : State) : Act :=
  let e := 2 ^ size
  if !regOk f size rd then .trap s xIllegal none
  else match (s.core k).ea m e e with
    | .bad c => .trap s c none
    | .at ea new => s.access k ea e (fun _ =>
        let t := s.coreRead k ea.toNat e
        .ok (t.setCore k (((t.core k).post m.a new).loaded f size rd (s.coreBytes k ea.toNat e))))

/-- LOAD (R193). -/
def execLoad (x : Ins) (file : RegFile) (size : Fin 4) (rd : Fin 32) (m : AMode) (s : State) : Res :=
  .next (s.runIns x 4 false (loadBody x.core file size rd m))

/-- A scalar store (R189, R190, R193). -/
def storeBody (k : Nat) (f : RegFile) (size rs : Nat) (m : AMode) (s : State) : Act :=
  let e := 2 ^ size
  let c := s.core k
  if !regOk f size rs then .trap s xIllegal none
  else match c.ea m e e with
    | .bad x => .trap s x none
    | .at ea new => s.access k ea e (fun _ =>
        let t := s.coreWrite k ea.toNat (c.stored f size rs)
        .ok (t.setCore k ((t.core k).post m.a new)))

/-- STORE (R193). -/
def execStore (x : Ins) (file : RegFile) (size : Fin 4) (rs : Fin 32) (m : AMode) (s : State) : Res :=
  .next (s.runIns x 4 false (storeBody x.core file size rs m))

/-- Write a general register without poison. -/
def State.setG (s : State) (k rd : Nat) (v : Word) : State := s.setCore k ((s.core k).setReg .g rd ⟨v, false⟩)

/-- Two general operands and what an arithmetic use of them comes to (R198). -/
def arith2 (s : State) (a b : SReg) (go : Word → Word → Act) : Act :=
  if a.p || b.p then .trap s xPoison none else go a.v b.v

/-- An ALU operation; a move carries the poison of its source (R198). -/
def aluBody (k : Nat) (form : AluForm) (opc : BitVec 7) (func : BitVec 6) (rd : Nat) (a b : SReg) (s : State) : Act :=
  match form with
  | .move => .ok (s.setCore k ((s.core k).setReg .g rd a))
  | .arith => arith2 s a b (fun u v => .ok (s.setG k rd (Config.alu opc func u v)))

/-- ALU (R198, R203). -/
def execAlu (x : Ins) (form : AluForm) (opc : BitVec 7) (func : BitVec 6) (rd rs1 rs2 : Fin 32) (s : State) : Res :=
  let c := s.core x.core
  .next (s.runIns x 4 false (aluBody x.core form opc func rd (c.reg .g rs1) (c.reg .g rs2)))

/-- ALU_IMMEDIATE (R203): the immediate is signed. -/
def execAluImmediate (x : Ins) (form : AluForm) (opc : BitVec 7) (rd rs1 : Fin 32) (imm : BitVec 11) (s : State) : Res :=
  .next (s.runIns x 4 false (aluBody x.core form opc 0 rd ((s.core x.core).reg .g rs1) ⟨imm.signExtend 32, false⟩))

/-- COMPARE (R203): sets F. -/
def execCompare (x : Ins) (opc : BitVec 7) (rs1 : Fin 32) (b : GImm) (s : State) : Res :=
  let k := x.core.val
  let c := s.core k
  .next (s.runIns x 4 false (fun s =>
    arith2 s (c.reg .g rs1) (c.gimm b) (fun u v => .ok { s with regs := putFlag s.regs k (Config.cmp opc u v) })))

/-- An operand of a multiplication: 32 bits, or the half that a bit selects, set for the upper one (log entry 35). -/
def mulOperand (v : Word) (wide hi : Bool) : Int :=
  if wide then sgn 32 v.toNat else sgn 16 (if hi then v.toNat / 65536 else v.toNat)

/-- Add to an accumulator (R199): wrapped into 72 bits, with the overflow flag. -/
def State.accAdd (s : State) (k n : Nat) (d : Int) : State :=
  let r := acc72 (((s.core k).accu n).v.toInt + d)
  { s with
    regs := noteOvf s.regs k r.2
    cores := Map.set Core.reset s.cores k ((s.core k).setAcc n ⟨r.1, false⟩) }

/-- A multiply-accumulate (R199): `sign` is 1 or -1. -/
def macBody (k acc : Nat) (a b : SReg) (frac wide : Bool) (halves : BitVec 2) (sign : Int) (s : State) : Act :=
  if a.p || b.p || ((s.core k).accu acc).p then .trap s xPoison none
  else
    let p := mulOperand a.v wide (halves.getLsbD 0) * mulOperand b.v wide (halves.getLsbD 1)
    .ok (s.accAdd k acc (sign * (if frac then 2 * p else p)))

/-- MAC (R199). -/
def execMac (x : Ins) (acc : Fin 8) (rs1 rs2 : Fin 32) (frac wide : Bool) (halves : BitVec 2) (s : State) : Res :=
  let c := s.core x.core
  .next (s.runIns x 4 false (macBody x.core acc (c.reg .g rs1) (c.reg .g rs2) frac wide halves 1))

/-- MSU (R199). -/
def execMsu (x : Ins) (acc : Fin 8) (rs1 rs2 : Fin 32) (frac wide : Bool) (halves : BitVec 2) (s : State) : Res :=
  let c := s.core x.core
  .next (s.runIns x 4 false (macBody x.core acc (c.reg .g rs1) (c.reg .g rs2) frac wide halves (-1)))

/-- CMAC (R199): complex, real part into an even accumulator, imaginary part into the next. -/
def execCmac (x : Ins) (acc : Fin 8) (rs1 rs2 : Fin 32) (s : State) : Res :=
  let k := x.core.val
  let c := s.core k
  let a := c.reg .g rs1
  let b := c.reg .g rs2
  let i := fun (v : Word) => mulOperand v false false
  let q := fun (v : Word) => mulOperand v false true
  .next (s.runIns x 4 false (fun s =>
    if acc.val % 2 ≠ 0 then .trap s xIllegal none
    else if a.p || b.p || (c.accu acc).p || (c.accu (acc + 1)).p then .trap s xPoison none
    else .ok ((s.accAdd k acc (2 * (i a.v * i b.v - q a.v * q b.v))).accAdd k (acc + 1) (2 * (i a.v * q b.v + q a.v * i b.v)))))

/-- Flags of an accumulator move (R200, R201). -/
def moveRegs (regs : SMap Word) (k : Nat) (form : AccForm) (v : BitVec 72) : SMap Word :=
  noteSat (noteBexp regs k v) k (accField regs k form v).2

/-- MVA (R200): the value and its poison go to a general register. -/
def execMva (x : Ins) (form : AccForm) (acc : Fin 8) (rd : Fin 32) (s : State) : Res :=
  let k := x.core.val
  .next (s.runIns x 4 false (fun s =>
    let r := (s.core k).accu acc
    .ok { s with
      regs := moveRegs s.regs k form r.v
      cores := Map.set Core.reset s.cores k
        ((s.core k).setReg .g rd ⟨BitVec.ofInt 32 (accField s.regs k form r.v).1, r.p⟩) }))

/-- Bytes that an accumulator store writes (R200). -/
def accBytes (form : AccForm) : Nat := match form with | .h => 2 | _ => 4

/-- STA (R200). -/
def execSta (x : Ins) (form : AccForm) (acc : Fin 8) (m : AMode) (s : State) : Res :=
  let k := x.core.val
  let e := accBytes form
  .next (s.runIns x 4 false (fun s =>
    let r := (s.core k).accu acc
    match (s.core k).ea m e e with
    | .bad c => .trap s c none
    | .at ea new => s.access k ea e (fun _ =>
        let v := accField s.regs k form r.v
        let t := s.coreWrite k ea.toNat ((leBytes e (twos 32 v.1)).map (fun b => ⟨b, r.p⟩))
        let t := t.setCore k ((t.core k).post m.a new)
        .ok { t with regs := noteSat (noteBexp t.regs k r.v) k v.2 })))

/-- EXPA (R201). -/
def execExpa (x : Ins) (acc : Fin 8) (rd : Fin 32) (s : State) : Res :=
  let k := x.core.val
  .next (s.runIns x 4 false (fun s =>
    let r := (s.core k).accu acc
    if r.p then .trap s xPoison none else .ok (s.setG k rd (BitVec.ofNat 32 (leadCount r.v)))))

/-- CLRA (R203). -/
def execClra (x : Ins) (acc : Fin 8) (s : State) : Res :=
  let k := x.core.val
  .next (s.runIns x 4 false (fun s => .ok (s.setCore k ((s.core k).setAcc acc AReg.zero))))

/-- BEXPCLR (R201). -/
def execBexpclr (x : Ins) (s : State) : Res :=
  let k := x.core.val
  .next (s.runIns x 4 false (fun s => .ok { s with regs := putR s.regs (Rg.ZCR_BEXP k) Fd.ZCR_BEXP_lead 71 }))

/-- The two addresses of a class 0x5 instruction for accesses of `e` bytes: both looked at before anything moves (R202). -/
def State.dual (s : State) (k e : Nat) (o : Dual) (go : Word → Word → Word → Word → Act) : Act :=
  let c := s.core k
  match c.ea ⟨o.ax, ⟨o.xmode.val, o.xmode.isLt⟩, o.xoff⟩ e e with
  | .bad x => .trap s x none
  | .at ax nx =>
    match c.ea ⟨o.ay, ⟨o.ymode.val, o.ymode.isLt⟩, o.yoff⟩ e e with
    | .bad x => .trap s x none
    | .at ay ny => s.access k ax e (fun _ => s.access k ay e (fun _ => go ax nx ay ny))

/-- Post-modify both address registers: Y after X (log entry 36). -/
def State.post2 (s : State) (k : Nat) (o : Dual) (nx ny : Word) : State :=
  let c := s.core k
  let c := if o.xmode.val = 0 then c else c.post o.ax nx
  s.setCore k (if o.ymode.val = 0 then c else c.post o.ay ny)

/-- TAPM (R202). -/
def execTapm (x : Ins) (acc : Fin 8) (o : Dual) (move : Int) (s : State) : Res :=
  let k := x.core.val
  .next (s.runIns x 8 false (fun s =>
    s.dual k 2 o (fun ax nx ay ny =>
      let dst := ay + BitVec.ofInt 32 (2 * move)
      let h := s.coreBytes k ax.toNat 2
      let t := s.coreRead k ax.toNat 2
      let y := t.coreBytes k ay.toNat 2
      let t := t.coreRead k ay.toNat 2
      if anyP h then .trap t xPoison (some ax)
      else if anyP y then .trap t xPoison (some ay)
      else if ((s.core k).accu acc).p then .trap t xPoison none
      else t.access k dst 2 (fun _ =>
        let p := sgn 16 (leNat (vals h)) * sgn 16 (leNat (vals y))
        .ok (((t.accAdd k acc (2 * p)).coreWrite k dst.toNat y).post2 k o nx ny)))))

/-- LD2 (R203): a load through each port. -/
def execLd2 (x : Ins) (size : Fin 4) (rdx rdy : Fin 32) (o : Dual) (s : State) : Res :=
  let k := x.core.val
  let e := 2 ^ size.val
  .next (s.runIns x 8 false (fun s =>
    if !regOk .g size rdx || !regOk .g size rdy then .trap s xIllegal none
    else s.dual k e o (fun ax nx ay ny =>
      let bx := s.coreBytes k ax.toNat e
      let t := s.coreRead k ax.toNat e
      let by_ := t.coreBytes k ay.toNat e
      let t := (t.coreRead k ay.toNat e).post2 k o nx ny
      .ok (t.setCore k (((t.core k).loaded .g size rdx bx).loaded .g size rdy by_)))))

/-- LDST (R203): a load through port X and a store through port Y; the load sees memory before the instruction. -/
def execLdst (x : Ins) (size : Fin 4) (rd rs : Fin 32) (o : Dual) (s : State) : Res :=
  let k := x.core.val
  let e := 2 ^ size.val
  .next (s.runIns x 8 false (fun s =>
    if !regOk .g size rd || !regOk .g size rs then .trap s xIllegal none
    else s.dual k e o (fun ax nx ay ny =>
      let bx := s.coreBytes k ax.toNat e
      let st := (s.core k).stored .g size rs
      let t := ((s.coreRead k ax.toNat e).coreWrite k ay.toNat st).post2 k o nx ny
      .ok (t.setCore k ((t.core k).loaded .g size rd bx)))))

/-- Whether a branch is taken: cond 0 always, 1 on F = 1, 2 on F = 0 (R203). -/
def condHolds (cond : Nat) (f : Bool) : Bool := cond == 0 || (cond == 1 && f) || (cond == 2 && !f)

/-- Target of a branch: what the displacement in words counts from is not stated (log entry 37). -/
def branchTarget (pc : Word) (disp : Int) : Word := pc + Config.branchBase + BitVec.ofInt 32 (4 * disp)

/-- BRANCH (R197, R203). -/
def execBranch (x : Ins) (cond : Fin 16) (disp : Int) (s : State) : Res :=
  let k := x.core.val
  .next (s.runIns x 4 true (fun s =>
    if 2 < cond.val then .trap s xIllegal none
    else if condHolds cond (flagF s.regs k) then .jump s (branchTarget (s.core k).pc disp) true
    else .ok s))

/-- CALL (R197, R203): the address of the next instruction is kept for the return (log entry 20). -/
def execCall (x : Ins) (cond : Fin 16) (disp : Int) (s : State) : Res :=
  let k := x.core.val
  .next (s.runIns x 4 true (fun s =>
    if 2 < cond.val then .trap s xIllegal none
    else if condHolds cond (flagF s.regs k) then
      let pc := (s.core k).pc
      .jump (s.setCore k { s.core k with link := pc + 4 }) (branchTarget pc disp) false
    else .ok s))

/-- RETURN (R197). -/
def execRet (x : Ins) (s : State) : Res :=
  let k := x.core.val
  .next (s.runIns x 4 true (fun s => .jump s (s.core k).link false))

/-- Length of the instruction at a core address: 8 bytes in class 0x5 (R203). -/
def State.insLen (s : State) (k : Nat) (ca : Word) : Nat :=
  let a := match coreTarget s.regs k ca.toNat with
    | .tile off => tileAddr k off
    | .dev a => a
    | _ => 0
  if le (vals (s.peekBytes a 4)) 3 1 / 16 = 5 then 8 else 4

/-- LOOP (R196). A count beyond 24 bits is not stated: a free count. -/
def execLoop (x : Ins) (count : LoopCount) (last : Word) (s : State) : Res :=
  let k := x.core.val
  .next (s.runIns x 4 true (fun s =>
    let l := loopsOf s.regs k
    let r := (s.core k).gimm count
    let n : Word := if r.v.toNat < 2 ^ 24 then r.v else BitVec.ofNat 32 (s.peek 0 % 2 ^ 24)
    let s := s.drawn 1
    if l.depth = 4 then .trap s xLoop none
    else if r.p then .trap s xPoison none
    else if n = 0 then .jump s (last + BitVec.ofNat 32 (s.insLen k last)) false
    else
      let pc := (s.core k).pc
      let up : Loops :=
        { depth := l.depth + 1, start := setNth l.start l.depth (pc + 4), last := setNth l.last l.depth last,
          count := setNth l.count l.depth n }
      .ok { s with regs := putLoops s.regs k up }))

/-- The 64 bytes of a saved loop state (R208). -/
def loopBytes (l : Loops) : List Byte :=
  leBytes 4 l.depth ++ leBytes 12 0 ++ (List.range 4).flatMap (fun n =>
    leBytes 4 (nth 0 l.start n).toNat ++ leBytes 4 (nth 0 l.last n).toNat ++ leBytes 4 (nth 0 l.count n).toNat)

/-- A loop state from its bytes (R208). -/
def loopsFrom (bs : List Byte) : Loops :=
  let w := fun (n j : Nat) => (BitVec.ofNat 32 (le bs (16 + 12 * n + 4 * j) 4) : Word)
  { depth := le bs 0 4 % 8
    start := (List.range 4).map (fun n => w n 0)
    last := (List.range 4).map (fun n => w n 1)
    count := (List.range 4).map (fun n => w n 2) }

/-- LPSAVE (R208). -/
def execLpsave (x : Ins) (a : Fin 16) (s : State) : Res :=
  let k := x.core.val
  .next (s.runIns x 4 false (fun s =>
    let r := (s.core k).reg .a a
    if r.p then .trap s xPoison none
    else s.access k r.v 64 (fun _ =>
      let l := loopsOf s.regs k
      let t := s.coreWrite k r.v.toNat (clean (loopBytes l))
      .ok { t with regs := putR t.regs (Rg.ZCR_LOOP_DEPTH k) Fd.ZCR_LOOP_DEPTH_depth 0 })))

/-- LPREST (R208): a depth above 4 is ILLEGAL. Loop registers hold no poison: poisoned bytes are consumed. -/
def execLprest (x : Ins) (a : Fin 16) (s : State) : Res :=
  let k := x.core.val
  .next (s.runIns x 4 true (fun s =>
    let r := (s.core k).reg .a a
    if r.p then .trap s xPoison none
    else s.access k r.v 64 (fun _ =>
      let bs := s.coreBytes k r.v.toNat 64
      let l := loopsFrom (vals bs)
      let t := s.coreRead k r.v.toNat 64
      if anyP bs then .trap t xPoison (some r.v)
      else if 4 < l.depth then .trap t xIllegal none
      else .ok { t with regs := putLoops t.regs k l })))

/-- RTI0 (R206): the bank swaps back; pc, F and level are restored. -/
def execRti0 (x : Ins) (s : State) : Res :=
  let k := x.core.val
  .next (s.runIns x 4 true (fun s =>
    let c := s.core k
    let e := rdR s.regs (Rg.ZCR_ESR0 k)
    let regs := putLoops s.regs k c.sloops
    let regs := putLevel (putFlag regs k (Fd.ZCR_ESR0_prev_f.get e == 1)) k (Fd.ZCR_ESR0_prev_level.get e)
    let cores := Map.set Core.reset s.cores k (c.swap (loopsOf s.regs k))
    .jump { s with regs := regs, cores := cores } (rdR s.regs (Rg.ZCR_EPC0 k)) false))

/-- RTI1 (R207). -/
def execRti1 (x : Ins) (s : State) : Res :=
  let k := x.core.val
  .next (s.runIns x 4 true (fun s =>
    let e := rdR s.regs (Rg.ZCR_ESR1 k)
    let regs := putLevel (putFlag s.regs k (Fd.ZCR_ESR1_prev_f.get e == 1)) k (Fd.ZCR_ESR1_prev_level.get e)
    .jump { s with regs := regs } (rdR s.regs (Rg.ZCR_EPC1 k)) false))

/-- MFZ (R188): a read of the core's frame, with the effect of a read (R9). -/
def execMfz (x : Ins) (rd : Fin 32) (off : Nat) (s : State) : Res :=
  let k := x.core.val
  let a := Rg.ZCR_CTRL k + off % 0x1000
  .next (s.runIns x 4 false (fun s =>
    .ok ((s.regRead a 4).setG k rd (BitVec.ofNat 32 (leNat (s.regBytes a 4))))))

/-- A loop register of an active level (R197). -/
def activeLoopReg (regs : SMap Word) (k off : Nat) : Bool :=
  decide (0x20 ≤ off) && decide (off < 0x60) && off % 16 != 12 &&
    decide ((off - 0x20) / 16 < getR regs (Rg.ZCR_LOOP_DEPTH k) Fd.ZCR_LOOP_DEPTH_depth)

/-- MTZ (R188, R197): to a loop register of an active level it is ILLEGAL; an access that R7 forbids is discarded with the register-access
event. -/
def execMtz (x : Ins) (rs : Fin 32) (off : Nat) (s : State) : Res :=
  let k := x.core.val
  let o := off % 0x1000
  .next (s.runIns x 4 false (fun s =>
    let r := (s.core k).reg .g rs
    if o % 4 = 0 && activeLoopReg s.regs k o then .trap s xIllegal none
    else if r.p || o % 4 != 0 then .ok (s.accessError (Rg.ZCR_CTRL k + o))
    else .ok (s.zcrSet k o r.v)))

/-- The poison bit of a register that PTST names; none where the file has no such register. -/
def Core.testBit (c : Core) (file : TestFile) (r : Nat) : Option Bool :=
  match file with
  | .file f => if r < fileSize f then some (c.reg f r).p else none
  | .acc => if r < 8 then some (c.accu r).p else none

/-- PTST (R198): a register's poison bit into F. -/
def execPtst (x : Ins) (file : TestFile) (rs : Fin 32) (s : State) : Res :=
  let k := x.core.val
  .next (s.runIns x 4 false (fun s => match (s.core k).testBit file rs with
    | none => .trap s xIllegal none
    | some p => .ok { s with regs := putFlag s.regs k p }))

/-- WAIT (R204): issue stops until an enabled interrupt is pending. -/
def execWait (x : Ins) (s : State) : Res :=
  let k := x.core.val
  .next (s.runIns x 4 false (fun s => .ok (s.setCore k { s.core k with waiting := true })))

/-- SYNC (R204, R249): completes when the store buffer is empty and every outstanding load and store has its response; until then it
waits. -/
def execSync (x : Ins) (s : State) : Res :=
  let k := x.core.val
  .next (s.runIns x 4 false (fun s =>
    let t := (s.drainAll k).memSync (coreAgent k)
    if t.span.reqs.any (fun r => r.agent == coreAgent k) then .stay t else .ok t))

end Sys2Proof.Machine
end

