-- ==== Sys2Proof/Machine/Cupola.lean ====
section
/-! DEFINITION. Cupola (R230 to R241): issue, commit, kill and test of engine commands, and the system queue of a cluster. -/
namespace Sys2Proof.Machine

/-- Depth of the queue of an engine (R129). -/
def engDepth (e : Nat) : Nat := if e = 1 then 16 else 32

/-- Size of a descriptor of an engine (R129). -/
def descSize (e : Nat) : Nat := if e = 0 then 96 else 64

/-- Cupola as an agent (R368). -/
def cplAgent (c : Nat) : Nat := 0x4000 + c

/-- Tags kept for the system queue (R231). -/
def remoteReserve (regs : SMap Word) (c : Nat) : Nat := getR regs (Rg.CPL_CTRL c) Fd.CPL_CTRL_remote_reserve

/-- Tags in use by the cores, or by the system queue. -/
def Cupola.inUse (p : Cupola) (remote : Bool) : Nat :=
  (p.tags.filter (fun e => e.2.state != .free && ((e.2.owner == 8) == remote))).length

/-- A tag that an issue may take: of the reserved ones for the system queue, of the rest for a core (R231, R234). -/
def Cupola.tagFor (p : Cupola) (reserve : Nat) (remote : Bool) : Option Nat :=
  if p.inUse remote < (if remote then reserve else 256 - reserve) then p.freeTags.head? else none

/-- Whether an issue to an engine would be accepted (R234): its tag. -/
def Cupola.accepts (p : Cupola) (reserve e : Nat) (remote : Bool) : Option Nat :=
  if (p.queue e).length < engDepth e then p.tagFor reserve remote else none

/-- Issue a descriptor under a tag (R231, R232, R235): its sequence counts, the tag goes into byte 1 of the copy. -/
def Cupola.issue (p : Cupola) (t e owner : Nat) (held committed : Bool) (desc : List Byte) (reply : Option Nat) : Cupola :=
  let p := { p with freeTags := p.freeTags.filter (· != t) }
  let p := p.setTag t { state := if committed then .committed else .issued, seq := (p.tag t).seq + 1, eng := e, owner := owner,
                        held := held, desc := desc.set 1 (BitVec.ofNat 8 t), reading := false, result := none, late := [], reply := reply }
  p.setQueue e (p.queue e ++ [t])


/-- Whether a core address lies in tile memory or shared memory of the core's cluster (R235). -/
def descPlace (ca n : Nat) : Bool :=
  decide (ca + n ≤ 0x80000) || (decide (0x400000 ≤ ca) && decide (ca + n ≤ 0x800000)) ||
    (decide (0x1000000 ≤ ca) && decide (ca + n ≤ 0x1800000))

/-- The registers and Cupola after an accepted or refused issue. -/
def Cx.issue (x : Cx) (c e owner : Nat) (held : Bool) (desc : List Byte) : Cx :=
  let p := x.cup c
  match p.accepts (remoteReserve x.rep.regs c) e false with
  | none => x.bump (Rg.CPL_REFUSED c) 1
  | some t => x.setCup c (p.issue t e owner held false desc none)

/-- CISS after its checks (R233, R234): accepted, with the handle and F set, or refused, with F cleared. -/
def State.ciss (s : State) (k r1 e : Nat) (held : Bool) (desc : List Byte) : State :=
  let c := k / 8
  let p := s.cup c
  match p.accepts (remoteReserve s.regs c) e false with
  | none =>
    let t := s.withCx (s.cx.issue c e (k % 8) held desc)
    { t with regs := putFlag t.regs k false }
  | some tag =>
    let u := (s.newActivity c (cplAgent c))
    let t := u.withCx (u.cx.issue c e (k % 8) held desc)
    let h := tagHandle tag ((p.tag tag).seq + 1)
    { t with regs := putFlag t.regs k true, cores := Map.set Core.reset t.cores k ((t.core k).setReg .g r1 ⟨h, false⟩) }

/-- What CISS does (R233 to R235): its checks, its descriptor, the issue. -/
def State.cissBody (s : State) (k r1 a e : Nat) (held : Bool) : Act :=
  let r := (s.core k).reg .a a
  let ca := r.v.toNat
  let n := descSize e
  if e = 3 then .trap s xIllegal none
  else if r.p then .trap s xPoison none
  else if ca % 32 ≠ 0 then .trap s xAlign (some r.v)
  else if !descPlace ca n then .trap s xDecode (some r.v)
  else match s.coreBad k ca n with
    | some b => .trap (s.coreDecode k b) xDecode (some (BitVec.ofNat 32 b))
    | none =>
      let bs := s.coreBytes k ca n
      let t := s.coreRead k ca n
      if anyP bs then .trap t xPoison (some r.v) else .ok (t.ciss k r1 e held (vals bs))

/-- A CISS is sent ahead of the end of an older instruction that waits for another device (R236): where it would be accepted. The program
counter stays at the older one. What a squash puts back is kept. Otherwise it is sent when the older one has completed. -/
def State.cissAhead (s : State) (k r1 a e : Nat) (held : Bool) : State :=
  if !((s.cup (k / 8)).accepts (remoteReserve s.regs (k / 8)) e false).isSome then s
  else match (s.tickCore k).cissBody k r1 a e held with
    | .ok u =>
      let i : Issuing := ⟨((u.core k).reg .g r1).v, r1, (s.core k).reg .g r1, flagF s.regs k⟩
      u.setCore k { u.core k with issuing := (s.core k).issuing ++ [i] }
    | _ => s

/-- CISS (R233 to R236). -/
def execCiss (x : Ins) (r1 : Fin 32) (a : Fin 16) (eng : Fin 4) (h : Bool) (s : State) : Res :=
  let k := x.core.val
  .next (if s.issues k && s.span.busy (coreAgent k) && !x.illegal then s.cissAhead k r1 a eng h
    else s.runIns x 4 false (fun s => s.cissBody k r1 a eng h))

/-- The commit token of a tag (R232). -/
def Cupola.commit (p : Cupola) (t : Nat) : Cupola := p.setTag t { p.tag t with state := .committed, held := false }

/-- The CISS of a tag has retired: no older instruction of its core is still on its way (R236). -/
def State.cissRetired (s : State) (k tag : Nat) : Bool := !(s.core k).issuing.any (fun i => handleTag i.handle == tag)

/-- COMMIT_TOKEN (R236): the token of a command that is not held, and whose CISS has retired, reaches Cupola. -/
def execCommitToken (c : Fin 18) (tag : Fin 256) (s : State) : Res :=
  let p := s.cup c
  let g := p.tag tag
  .next (s.withCx (if g.state = .issued ∧ g.held = false ∧ s.cissRetired (8 * c + g.owner) tag then s.cx.setCup c (p.commit tag) else s.cx))

/-- A commit token that CCMT sends (R237). -/
def Cx.ccmt (x : Cx) (c : Nat) (h : Word) : Cx :=
  let p := x.cup c
  let g := p.tag (handleTag h)
  if g.seq = handleSeq h ∧ g.state = .issued ∧ g.held then x.setCup c (p.commit (handleTag h))
  else x.bump (Rg.CPL_KILLS_IGNORED c) 1

/-- CCMT (R236, R237). -/
def execCcmt (x : Ins) (r2 : Fin 32) (s : State) : Res :=
  let k := x.core.val
  let r := (s.core k).reg .g r2
  .next (s.runIns x 4 false (fun s =>
    if r.p then .trap s xPoison none else .ok (s.withCx (s.cx.ccmt (k / 8) r.v))))

/-- CKIL (R237). -/
def execCkil (x : Ins) (r2 : Fin 32) (s : State) : Res :=
  let k := x.core.val
  let r := (s.core k).reg .g r2
  .next (s.runIns x 4 false (fun s => if r.p then .trap s xPoison none else .ok (s.withCx (s.cx.ckil (k / 8) r.v))))

/-- CTST.E (R233, R234): F says whether an issue would be accepted now. -/
def execCtstE (x : Ins) (eng : Fin 4) (s : State) : Res :=
  let k := x.core.val
  .next (s.runIns x 4 false (fun s =>
    if eng.val = 3 then .trap s xIllegal none
    else .ok { s with
      regs := putFlag s.regs k ((s.cup (k / 8)).accepts (remoteReserve s.regs (k / 8)) eng false).isSome }))

/-- CTST.T (R233): F says whether the command of a handle has ended. -/
def execCtstT (x : Ins) (r2 : Fin 32) (s : State) : Res :=
  let k := x.core.val
  let r := (s.core k).reg .g r2
  .next (s.runIns x 4 false (fun s =>
    let g := (s.cup (k / 8)).tag (handleTag r.v)
    if r.p then .trap s xPoison none
    else .ok { s with
      regs := putFlag s.regs k (g.state == .returned || g.state == .free || g.seq != handleSeq r.v) }))

/-- Entries that a queue holds, oldest first, without any effect of a read. -/
def State.queued (s : State) (q : Nat) : List (List PByte) :=
  let t := s.queue q
  (List.range t.fill).map (fun i => s.peekBytes (t.slot (t.head + BitVec.ofNat 32 i)) t.esz)

/-- An issue entry of a system queue for an item (R240, R241). -/
def entryOf (item : Nat) (e : List PByte) : Bool := !anyP e && le (vals e) 0 1 == 0 && le (vals e) 36 4 == item

/-- Remove the entries of a queue that a test picks: those kept close up at the head (R241). Operations that arrived before come first
(R276). -/
def State.purge (s : State) (q : Nat) (p : List PByte → Bool) : State :=
  let s := s.withQx (s.qx.settle (2 * s.qm.ops.length) q)
  let t := s.queue q
  let es := s.queued q
  let keep := es.filter (fun e => !p e)
  let x : Qx := ((List.range keep.length).zip keep).foldl (fun (x : Qx) e =>
    { x with mm := x.mm.write qmAgent (t.slot (t.head + BitVec.ofNat 32 e.1)) e.2 }) s.qx
  if keep.length = es.length ∨ !t.valid then s else s.withQx (x.keep q { t with tail := t.head + BitVec.ofNat 32 keep.length } true)

/-- Kill the tags of a cluster whose descriptor carries an item (R241). -/
def Cx.killItem (x : Cx) (c item : Nat) : Cx :=
  x.killAll c (fun g => g.state != .free && le g.desc 4 4 == item)

/-- A remote kill (R241); there is no cluster beyond 17. -/
def State.remoteKill (s : State) (c item : Nat) : State :=
  if c < 18 then
    let t := s.purge c (entryOf item)
    t.withCx (t.cx.killItem c item)
  else s

/-- CRKL (R241). -/
def execCrkl (x : Ins) (r1 r2 : Fin 32) (s : State) : Res :=
  let c := s.core x.core
  .next (s.runIns x 4 false (fun s =>
    arith2 s (c.reg .g r1) (c.reg .g r2) (fun a b => .ok (s.remoteKill (a.toNat % 32) b.toNat))))

/-- Whether Cupola can take the next entry of its system queue (R240): an issue needs a reserved tag and room in the engine's
queue. -/
def State.canTake (s : State) (c : Nat) (e : List PByte) : Bool :=
  let k := le (vals e) 1 1
  anyP e || le (vals e) 0 1 != 0 || k == 0 || decide (3 < k) ||
    ((s.cup c).accepts (remoteReserve s.regs c) (k - 1) true).isSome

/-- What an entry of the system queue does (R240, R241). A poisoned entry, and one with a reserved op or engine_kind, is
discarded. -/
def State.remoteEntry (s : State) (c : Nat) (e : List PByte) : State :=
  let b := vals e
  let k := le b 1 1
  if anyP e then s
  else if le b 0 1 = 1 then s.remoteKill c (le b 8 4)
  else if le b 0 1 ≠ 0 ∨ k = 0 ∨ 3 < k then s
  else
    let p := s.cup c
    match p.accepts (remoteReserve s.regs c) (k - 1) true with
    | none => s
    | some t =>
      let s := s.newActivity c (cplAgent c)
      s.withCx (s.cx.setCup c (p.issue t (k - 1) 8 false true ((b.drop 32).take (descSize (k - 1))) (some (le b 4 4 % 1048576))))

/-- SYSTEM_QUEUE_TAKE (R240, R360): Cupola takes the oldest entry; an entry wakes a cluster from Nap first. -/
def execSystemQueueTake (c : Fin 18) (s : State) : Res :=
  let st := clusterState s.regs c
  .next (match s.queued c with
    | [] => s
    | e :: _ =>
      if st ≠ dOn then s.wakeCluster c
      else if s.canTake c e then
        let r := s.qx.dequeue (cplAgent c) c
        (s.withQx r.1).remoteEntry c (if r.2.1 = qOk then r.2.2 else [])
      else s)

end Sys2Proof.Machine
end

