-- ==== Sys2Proof/Machine/EngineOps.lean ====
section
/-! DEFINITION. What the engines of a cluster share (R129 to R135): the choice of the next command, its checks, operands with their
poison, completion records, and the return of a result. -/
namespace Sys2Proof.Machine

/-- An engine as an agent (R368). -/
def engAgent (c e : Nat) : Nat := 0x3000 + 3 * c + e

/-- The queued command that an engine starts next (R131): the oldest of class 0, then of class 1, then of the rest. -/
def Cupola.choice (p : Cupola) (e : Nat) : Option Nat :=
  let cls := fun (t : Nat) => le (p.tag t).desc 2 1
  match (p.queue e).find? (fun t => cls t == 0) with
  | some t => some t
  | none => match (p.queue e).find? (fun t => cls t == 1) with
    | some t => some t
    | none => (p.queue e).head?

/-- The command that an engine runs: the one that has started, else the next (R131). -/
def Cupola.next (p : Cupola) (e : Nat) : Option Nat := ((p.queue e).find? (fun t => (p.tag t).reading)).or (p.choice e)

/-- A check of a descriptor field (R134): it is violated, the field's offset, the status. -/
abbrev Check := Bool × Nat × Nat

def esBadOpcode : Nat := 0x10
def esBadField : Nat := 0x11
def esBadAlign : Nat := 0x12
def esLimit : Nat := 0x13

/-- A multiple of `a` at an offset (R129). -/
def ckAlign (d : List Byte) (off n a : Nat) : Check := (le d off n % a != 0, off, esBadAlign)

/-- A field within its range (R134). -/
def ckRange (d : List Byte) (off n lo hi : Nat) : Check := (decide (le d off n < lo) || decide (hi < le d off n), off, esBadField)

/-- A dimension from 1 to a limit: 0 is out of range, more exceeds the limit (R134). -/
def ckDim (d : List Byte) (off n hi : Nat) : Check :=
  (le d off n == 0 || decide (hi < le d off n), off, if le d off n = 0 then esBadField else esLimit)

/-- A condition on a field. -/
def ckIf (ok : Bool) (off : Nat) : Check := (!ok, off, esBadField)

/-- Checks of the header (R130): the completion record lies in the 8 MiB of the cluster's shared memory. -/
def headerChecks (d : List Byte) : List Check :=
  [ckRange d 2 1 0 2, ckRange d 8 2 0 1023, ckIf (le d 12 4 % 32 == 0 && decide (le d 12 4 < 0x800000)) 12]

/-- The first violation. -/
def firstCheck (cs : List Check) : Option Check := cs.find? (·.1)

/-- The result of a command that fails its checks (R134): the completion record alone. -/
def badResult (d : List Byte) (off status : Nat) : EngResult :=
  { writes := [], status := status, cycles := Config.badCycles d, energy := Config.energy d (Config.badCycles d),
    detail := leBytes 2 off ++ leBytes 14 0, late := [], claim := none }

/-- One element of an operand: its value and the address of a poisoned byte of it, if any (R138). -/
structure Elt where
  re : Int
  im : Int
  bad : Option Nat
  deriving DecidableEq, Repr

/-- Bytes of an element (R138). -/
def eltSize (fmt : Nat) : Nat := if fmt = 0 then 4 else if fmt = 4 then 8 else 3

/-- An element from its bytes (R98, R138). -/
def eltOf (fmt addr : Nat) (bs : List PByte) : Elt :=
  let v := leNat (vals bs)
  let bad := if anyP bs then some addr else none
  if fmt = 0 then ⟨sgn 16 v, sgn 16 (v / 65536), bad⟩ else ⟨sgn 12 v, sgn 12 (v / 4096), bad⟩

/-- Cut bytes into elements. -/
def elts (fmt addr n : Nat) (bs : List PByte) : List Elt :=
  (List.range n).map (fun i => eltOf fmt (addr + i * eltSize fmt) ((bs.drop (i * eltSize fmt)).take (eltSize fmt)))

/-- Read `n` bytes for an engine, after what was read before. -/
def State.engRead (s : State) (agent a n : Nat) : State × List PByte := (s.busRead agent a n, s.busBytes agent a n)

/-- Read the rows of a matrix. -/
def State.readRows (s : State) (agent base pitch fmt rows cols : Nat) : State × List (List Elt) :=
  (List.range rows).foldl (fun (r : State × List (List Elt)) i =>
    let a := base + i * pitch
    let q := r.1.engRead agent a (cols * eltSize fmt)
    (q.1, r.2 ++ [elts fmt a cols q.2])) (s, [])

/-- Row exponents: signed bytes, each with the address of its poison. -/
def State.readExps (s : State) (agent a n : Nat) : State × List (Int × Option Nat) :=
  let q := s.engRead agent a n
  (q.1, (List.range n).map (fun i =>
    let b := nth ⟨0, false⟩ q.2 i
    (sgn 8 b.v.toNat, if b.p then some (a + i) else none)))

/-- Size of the coefficient area of a record of `e` entries (R138). -/
def coeffArea (e : Nat) : Nat := 1536 * ceilDiv e 512

/-- A matrix with its row exponents. -/
structure Mat where
  rows : List (List Elt)
  exps : List (Int × Option Nat)
  deriving DecidableEq, Repr

/-- Read a contiguous matrix in format 0, 1 or 2 (R137, R138). -/
def State.readMat (s : State) (agent base fmt rows cols : Nat) : State × Mat :=
  let r := s.readRows agent base (cols * eltSize fmt) fmt rows cols
  if fmt = 2 then
    let x := r.1.readExps agent (base + coeffArea (rows * cols)) rows
    (x.1, ⟨r.2, x.2⟩)
  else (r.1, ⟨r.2, List.replicate rows (0, none)⟩)

/-- Read a matrix with a row pitch, its exponents elsewhere in format 3 (R137, R138). -/
def State.readPitched (s : State) (agent base pitch fmt expAddr rows cols : Nat) : State × Mat :=
  let r := s.readRows agent base pitch fmt rows cols
  if fmt = 3 then
    let x := r.1.readExps agent expAddr rows
    (x.1, ⟨r.2, x.2⟩)
  else (r.1, ⟨r.2, List.replicate rows (0, none)⟩)

/-- Addresses of the poison in a matrix, in the order in which it is read. -/
def Mat.bads (m : Mat) : List Nat := (m.rows.flatMap (fun r => r.filterMap (·.bad))) ++ m.exps.filterMap (·.2)

/-- A command of an engine is running: its result has not returned (R131). -/
def Cupola.busy (p : Cupola) (e : Nat) : Bool := p.tags.any (fun g => g.2.eng == e && g.2.result.isSome)

/-- Commands that were queued when a command of the matrix engine started (R141): noted once. -/
def Cupola.overlaps (p : Cupola) (e t : Nat) : List Nat :=
  if e ≠ 0 then p.overlap
  else if (p.tag t).reading then p.overlap.filter (· != t)
  else (p.queue e).filter (· != t)

/-- A command of an engine starts, and waits for answers of other devices (log entry 171): `span` holds its requests. -/
def State.engineWaits (s : State) (c e t : Nat) (span : Span) : State :=
  let p := s.cup c
  let g := p.tag t
  let l := p.overlaps e t ++ (if e = 0 ∧ p.overlap.contains t then [t] else [])
  ({ s with span := span }).withCx (s.cx.setCup c { p.setTag t { g with reading := true } with overlap := l })

/-- The operands that a command of an engine reads start anew: what an earlier command was answered is gone. -/
def State.engineFresh (s : State) (c e t : Nat) : State :=
  if ((s.cup c).tag t).reading then s else { s with span := s.span.forget (engAgent c e) }

/-- The next command of an engine, where one of its rows computes it: an opcode of the row, or one that no row has. The result waits
under the tag (R131, R132). It waits itself where an operand lies in another device (R129; log entry 171). The start cost of a matrix
command is hidden where it was queued when the command before it started (R141). -/
def State.engine (s : State) (c e : Nat) (mine : Nat → Bool) (run : State → Bool → List Byte → State × EngResult) : State :=
  let p := s.cup c
  match p.next e with
  | none => s
  | some t =>
    let d := (p.tag t).desc
    if mine (le d 0 1) && !p.busy e then
      let r := run (s.engineFresh c e t) (p.overlap.contains t) d
      if r.1.span.outstanding (engAgent c e) then s.engineWaits c e t r.1.span
      else
        let u := { r.1 with span := r.1.span.settle (engAgent c e) }
        let p := u.cup c
        let l := p.overlaps e t
        let p := (p.setTag t { p.tag t with reading := false, result := some r.2 }).setQueue e ((p.queue e).filter (· != t))
        u.withCx (u.cx.setCup c { p with overlap := l })
    else s

/-- Completion record (R133). -/
def recordOf (tag e : Nat) (d : List Byte) (r : EngResult) : List Byte :=
  leBytes 1 tag ++ leBytes 1 (e + 1) ++ leBytes 1 (le d 0 1) ++ leBytes 1 r.status ++ leBytes 4 (le d 4 4) ++ leBytes 4 r.cycles ++
    leBytes 4 r.energy ++ fit 0 16 r.detail

/-- Whether the writes of a command are stale (R44, R238): its cluster is retired; or the item that it serves has gone to another
cluster, or no longer has the generation of its output unit. -/
def State.engStale (s : State) (c : Nat) (g : Tag) : Bool :=
  role s.regs c == rRetired || match s.drum.item (le g.desc 4 4) with
    | some i => (decide (g.owner < 8) && i.cluster != c) || (i.phase != .admitted && (s.drum.unit i.outUnit).gen != i.gen)
    | none => false

/-- The item that a command serves is late (R40, R104): its watchdog edge has passed, handled or not; one that is gone has ended. -/
def State.engLate (s : State) (g : Tag) : Bool := match s.drum.item (le g.desc 4 4) with
  | some i => i.phase == .expired || (i.phase != .admitted && !s.onTime i)
  | none => true

/-- One write of an engine command (R44, R135): discarded where it is stale; a decode error becomes a late error. The response of
another device comes later. -/
def State.engWrite (s : State) (c e t : Nat) (stale : Bool) (w : EngWrite) : State × List (Nat × Nat) :=
  let agent := engAgent c e
  if stale then (s.stale, [])
  else match placeOf s.regs w.addr with
    | .there d l x =>
      ({ s with span := (s.span.request (ownIndex s.regs) agent d l x w.bytes.length (some w.bytes)).note agent t }, [])
    | _ =>
      let bad := s.decodeBad agent w.addr w.bytes.length
      (s.busWrite agent w.addr w.bytes, match bad with | some a => [(1, a)] | none => [])

/-- The release claim of a paired half (R147): the word goes from 0 to the item. -/
def State.claim (s : State) (c t : Nat) (stale : Bool) (a item : Nat) : State × Bool × List (Nat × Nat) :=
  let r := s.engRead (engAgent c 1) a 4
  if leNat (vals r.2) = 0 ∧ !anyP r.2 then
    let w := r.1.engWrite c 1 t stale ⟨a, clean (leBytes 4 item)⟩
    (w.1, true, w.2)
  else (r.1, false, [])

/-- The writes of a result that are made: one that changes the active copy of a HARQ process is not made late (R104). -/
def madeWrites (late : Bool) (g : Tag) (ws : List EngWrite) : List EngWrite :=
  if late && g.eng == 1 then ws.filter (fun w => w.addr != le g.desc 24 8 + 16) else ws

/-- A completed command is measured for its calibration row, in the band of its cluster (R165). -/
def Parapet.measure (p : Parapet) (c row cycles energy : Nat) : Parapet :=
  { p with measured := Map.upd [] p.measured row (fun l => l ++ [(Map.get 0 p.bands c, cycles, energy)]) }

/-- Note how a decoder or encoder command ended with the item that it serves (R105, R119, R149), and where a decoder's payload lies. -/
def Drum.outcome (d : Drum) (g : Tag) (r : EngResult) : Drum :=
  if g.eng = 1 then d.updItem (le g.desc 4 4) (fun i => { i with outcome := some (r.status, le r.detail 4 1), payload := le g.desc 32 8 })
  else if g.eng = 2 then d.updItem (le g.desc 4 4) (fun i => { i with outcome := some (r.status, 0) })
  else d

/-- The effects of a command (R132, R133, R147, R249): the claim, the writes, the completion record last, the flush of the engine's merge
buffers, the event, the reply; the tag is RETURNED with its late errors. A result_offset beyond the shared memory gets no record (log entry 168). -/
def State.engReturn (s : State) (c t : Nat) (g : Tag) (r : EngResult) : State :=
  let e := g.eng
  let stale := s.engStale c g
  let cl : State × Bool × List (Nat × Nat) := match r.claim with
    | some a => s.claim c t stale a (le g.desc 4 4)
    | none => (s, true, [])
  let r := if cl.2.1 then r else { r with status := 0x02, writes := [] }
  let w := (madeWrites (s.engLate g) g r.writes).foldl (fun (x : State × List (Nat × Nat)) w =>
    let y := x.1.engWrite c e t stale w
    (y.1, x.2 ++ y.2)) ({ cl.1 with span := cl.1.span.settle (engAgent c e) }, cl.2.2)
  let rec_ := recordOf t e g.desc r
  let w := if bit (le g.desc 3 1) 0 ∧ le g.desc 12 4 + 32 ≤ 0x800000 then
      let y := w.1.engWrite c e t (role s.regs c == rRetired) ⟨sharedBase c + le g.desc 12 4, clean rec_⟩
      (y.1, w.2 ++ y.2)
    else w
  let u := w.1.memSync (engAgent c e)
  let rmw := (u.mec.rmwBad.filter (fun x => x.1 == engAgent c e)).map (fun x => (3, x.2))
  let u := { u with mec := { u.mec with rmwBad := u.mec.rmwBad.filter (fun x => x.1 != engAgent c e) } }
  let u := if bit (le g.desc 3 1) 1 && decide (g.owner < 8) then u.intr (8 * c + g.owner) 0 else u
  let u := match g.reply with
    | some q => u.deliver (cplAgent c) q rec_ 0 false
    | none => u
  let p := u.cup c
  let u := u.withCx (u.cx.setCup c (p.setTag t { p.tag t with state := .returned, result := none, late := r.late ++ w.2 ++ rmw }))
  { u with ppt := u.ppt.measure c (le g.desc 8 2) r.cycles r.energy, drum := if stale then u.drum else u.drum.outcome g r }

/-- A claim whose release word lies in another device waits for the answer (log entry 171). -/
def State.claimWaits (s : State) (c : Nat) (r : EngResult) : Option Span :=
  match r.claim with
  | some a =>
    let p := (s.engRead (engAgent c 1) a 4).1.span
    if p.outstanding (engAgent c 1) then some p else none
  | none => none

/-- ENGINE_RESULT_RETURN (R132): the commit token has arrived and the command has been computed. -/
def execEngineResultReturn (c : Fin 18) (tag : Fin 256) (s : State) : Res :=
  let g := (s.cup c).tag tag
  .next (match g.result with
    | some r =>
      if g.state = .committed then
        match s.claimWaits c r with
        | some p => { s with span := p }
        | none => s.engReturn c tag g r
      else s
    | none => s)

/-- The entry that carries a late error to the issuer of a remote command (R240). -/
def lateReply (c t : Nat) (g : Tag) (x : Nat × Nat) : List Byte :=
  leBytes 1 t ++ leBytes 1 (g.eng + 1) ++ leBytes 1 0xFF ++ leBytes 1 x.1 ++ leBytes 4 (le g.desc 4 4) ++ leBytes 8 x.2 ++
    leBytes 1 c ++ leBytes 15 0

/-- A late error goes to its owner (R135, R239, R240); poison consumed fails the cluster, a parity error counts toward its ECC
failure. -/
def State.lateOut (s : State) (c t : Nat) (g : Tag) (x : Nat × Nat) : State :=
  let s := if g.owner < 8 then s.withCx (s.cx.lateIn c g.owner ⟨t, g.eng, x.1, le g.desc 4 4, x.2⟩)
    else
      let u := s.withRep (s.rep.bump (Rg.ZCL_ENG_LATE_ERRORS c) 1)
      match g.reply with
      | some q => u.deliver (cplAgent c) q (lateReply c t g x) 0 false
      | none => u
  let s := if x.1 = 2 then s.failCluster c causePoison else s
  if x.1 = 4 then { s with mec := { s.mec with ceLog := ceNote s.mec.ceLog c s.now } } else s

/-- LATE_ERROR (R135, R239): after the write responses have returned, the next late error of a command, or a parity error of the
engine's buffers. -/
def execLateError (c : Fin 18) (tag : Fin 256) (parity : Option Nat) (s : State) : Res :=
  let p := s.cup c
  let g := p.tag tag
  .next (if g.state ≠ .returned ∨ s.span.owes (engAgent c g.eng) tag then s
    else match parity with
      | some b => s.lateOut c tag g (4, b)
      | none => match g.late with
        | [] => s
        | x :: rest => (s.withCx (s.cx.setCup c (p.setTag tag { g with late := rest }))).lateOut c tag g x)

/-- TAG_FREE (R232): all write responses have returned and all late errors were raised. -/
def execTagFree (c : Fin 18) (tag : Fin 256) (s : State) : Res :=
  let g := (s.cup c).tag tag
  .next (s.withCx (if g.state = .returned ∧ g.late = [] ∧ !s.span.owes (engAgent c g.eng) tag then s.cx.setCup c ((s.cup c).free tag) else s.cx))

end Sys2Proof.Machine
end

