-- ==== Sys2Proof/Machine/Factor.lean ====
section
/-! DEFINITION. Exact arithmetic for CHOL and SOLVE (R136): fractions, complex fractions, square roots rounded to odd, the factor of a
Hermitian matrix row by row, and substitution with it (log entry 23). -/
namespace Sys2Proof.Machine

/-- A fraction. -/
structure Ratio where
  num : Int
  den : Nat
  deriving DecidableEq, Repr

/-- A fraction in lowest terms; 0 over a denominator of 0. -/
def Ratio.of (n : Int) (d : Nat) : Ratio :=
  let g := Nat.gcd n.natAbs d
  if d = 0 then ⟨0, 1⟩ else ⟨n / g, d / g⟩

def Ratio.add (a b : Ratio) : Ratio := Ratio.of (a.num * b.den + b.num * a.den) (a.den * b.den)
def Ratio.sub (a b : Ratio) : Ratio := Ratio.of (a.num * b.den - b.num * a.den) (a.den * b.den)
def Ratio.mul (a b : Ratio) : Ratio := Ratio.of (a.num * b.num) (a.den * b.den)

/-- Quotient; 0 for a divisor of 0. -/
def Ratio.div (a b : Ratio) : Ratio := Ratio.of (a.num * b.den * b.num.sign) (a.den * b.num.natAbs)

/-- An integer times a power of 2. -/
def Ratio.scaled (x : Int) (e : Int) : Ratio := if 0 ≤ e then ⟨x * 2 ^ e.toNat, 1⟩ else Ratio.of x (2 ^ (-e).toNat)

/-- A complex fraction. -/
structure Cplx where
  re : Ratio
  im : Ratio
  deriving DecidableEq, Repr

def Cplx.zero : Cplx := ⟨⟨0, 1⟩, ⟨0, 1⟩⟩
def Cplx.sub (a b : Cplx) : Cplx := ⟨a.re.sub b.re, a.im.sub b.im⟩
def Cplx.mul (a b : Cplx) : Cplx := ⟨(a.re.mul b.re).sub (a.im.mul b.im), (a.re.mul b.im).add (a.im.mul b.re)⟩
def Cplx.conj (a : Cplx) : Cplx := ⟨a.re, Ratio.sub ⟨0, 1⟩ a.im⟩
def Cplx.over (a : Cplx) (r : Ratio) : Cplx := ⟨a.re.div r, a.im.div r⟩

/-- Quotient; 0 for a divisor of 0. -/
def Cplx.div (a b : Cplx) : Cplx := (a.mul b.conj).over ((b.re.mul b.re).add (b.im.mul b.im))

/-- Bits below the unit that exact results keep before they are shifted and rounded. -/
def guardBits : Nat := 40

/-- A value with a fraction, the last bit of an inexact one set, so that later rounding is that of the exact value. -/
def oddOf (floor : Int) (exact : Bool) : Int := if exact || floor % 2 == 1 then floor else floor + 1

/-- A fraction in units of 2^-40, rounded to odd. -/
def Ratio.odd (a : Ratio) : Int :=
  let y := a.num * 2 ^ guardBits
  oddOf (y / a.den) (y % a.den == 0)

/-- Greatest number whose square is at most `n`, bit by bit. -/
def rootFloor (n : Nat) : Nat :=
  (List.range (Nat.log2 n / 2 + 1)).reverse.foldl (fun r i => if (r + 2 ^ i) * (r + 2 ^ i) ≤ n then r + 2 ^ i else r) 0

/-- `a` over the square root of `d`, in units of 2^-40, rounded to odd. -/
def Ratio.overRoot (a d : Ratio) : Int :=
  let q := (a.mul a).div d
  let n := q.num.toNat * 4 ^ guardBits
  let r := rootFloor (n / q.den)
  a.num.sign * oddOf r (r * r * q.den == n)

/-- A sum over `k` products, taken from a start. -/
def lessSum (x : Cplx) (k : Nat) (f : Nat → Cplx) : Cplx := (List.range k).foldl (fun s t => s.sub (f t)) x

/-- A row of the factor of a Hermitian matrix: the products of its entries with the pivots, its unit entries, its pivot; and which of
its entries depend on poison. -/
structure FactorRow where
  prod : List Cplx
  unit : List Cplx
  pivot : Ratio
  bad : List Bool
  deriving DecidableEq, Repr

/-- The next row of the factor (R136): `a` is the matrix's row up to its diagonal, `bad` its poison, `load` what is added to the
diagonal. An entry depends on its operand, on the entries before it in its row, and on the row of its column (R139). -/
def factorRow (rows : List FactorRow) (a : List Cplx) (bad : List Bool) (load : Ratio) : FactorRow :=
  let i := rows.length
  let empty : FactorRow := ⟨[], [], ⟨1, 1⟩, []⟩
  let below := (List.range i).foldl (fun (r : FactorRow) j =>
    let c := nth empty rows j
    let v := lessSum (nth Cplx.zero a j) j (fun t => (nth Cplx.zero r.prod t).mul (nth Cplx.zero c.unit t).conj)
    { r with prod := r.prod ++ [v], unit := r.unit ++ [v.over c.pivot],
             bad := r.bad ++ [nth false bad j || r.bad.any id || c.bad.any id] }) empty
  let p := lessSum (nth Cplx.zero a i) i (fun t => (nth Cplx.zero below.prod t).mul (nth Cplx.zero below.unit t).conj)
  let hurt := nth false bad i || below.bad.any id
  { below with pivot := if hurt then ⟨1, 1⟩ else p.re.add load, bad := below.bad ++ [hurt] }

/-- Whether the pivot of a row is not positive (R134). -/
def FactorRow.fails (r : FactorRow) : Bool := decide (r.pivot.num ≤ 0)

/-- Entries of the factor in a row, in units of 2^-40: below the diagonal the products over the roots of the pivots, on it the root of
its own. -/
def FactorRow.entries (rows : List FactorRow) (r : FactorRow) : List (Int × Int) :=
  ((rows.zip r.prod).map (fun x => (x.2.re.overRoot x.1.pivot, x.2.im.overRoot x.1.pivot))) ++ [(r.pivot.overRoot r.pivot, 0)]

/-- One column of (L Lᴴ)⁻¹ B (R136): forward with L, then backward with its conjugate. -/
def substitute (k : Nat) (l : Nat → Nat → Cplx) (b : Nat → Cplx) : List Cplx :=
  let y := (List.range k).foldl (fun (y : List Cplx) i =>
    y ++ [(lessSum (b i) i (fun t => (l i t).mul (nth Cplx.zero y t))).div (l i i)]) []
  (List.range k).reverse.foldl (fun (x : List Cplx) i =>
    (lessSum (nth Cplx.zero y i) (k - 1 - i) (fun t => ((l (i + 1 + t) i).conj).mul (nth Cplx.zero x t))).div (l i i).conj :: x) []

end Sys2Proof.Machine
end

