-- ==== Sys2Proof/Machine/Engines.lean ====
section
/-! DEFINITION. The matrix engine, the decoder and the encoder/polar engine of a cluster (R136 to R153). -/
namespace Sys2Proof.Machine

/-- Checks of a matrix descriptor, in the order of the fields (R134, R136 to R138). -/
def matrixChecks (d : List Byte) : List Check :=
  let op := le d 0 1
  let a := op != 3
  let b := op != 4
  let c := op == 2
  let kmax := if op = 1 ∨ op = 3 then 64 else 16
  let fa := le d 71 1 % 16
  let fc := le d 71 1 / 16
  let fb := le d 72 1 % 16
  let fd := le d 72 1 / 16
  [(!(decide (1 ≤ op) && decide (op ≤ 5)), 0, esBadOpcode)] ++ headerChecks d ++
  [ckAlign d 16 8 4, ckAlign d 24 8 4, ckAlign d 32 8 4, ckIf (c || le d 32 8 == 0) 32, ckAlign d 40 8 4, ckAlign d 48 8 4,
   ckIf (bit (le d 73 1) 1 || le d 48 8 == 0) 48, ckAlign d 56 4 4, ckAlign d 60 4 4, ckAlign d 64 4 4] ++
  (if op = 1 then [ckDim d 68 1 64] else if op = 2 then [ckDim d 68 1 32] else []) ++ [ckDim d 69 1 kmax] ++
  [if c then ckDim d 70 1 64 else ckIf (le d 70 1 == 0) 70] ++
  [ckIf ((!a || decide (fa ≤ 2)) && (!c || decide (fc ≤ 2))) 71,
   ckIf ((!b || fb == 0 || fb == 1 || fb == 3) && (fd == 0 || fd == 1 || fd == 4)) 72,
   ckDim d 74 2 4096, ckDim d 76 2 (if c then 256 else 4096), ckAlign d 80 4 4, ckAlign d 84 4 4, ckAlign d 88 8 4,
   ckIf (fb == 3 && b || le d 88 8 == 0) 88]

/-- An accumulated element: mantissas in units of 2 to the `e`, `e` at most 0, and whether it depends on poison (R139). -/
structure Cell where
  re : Int
  im : Int
  e : Int
  bad : Bool
  deriving DecidableEq, Repr

/-- Whether an element, or the exponent that scales it, is poisoned. -/
def isBad (x : Elt) (e : Int × Option Nat) : Bool := x.bad.isSome || e.2.isSome

/-- A sum of complex products, exponents aligned before accumulation (R139): factors with their exponents; `conj` conjugates the
first. -/
def dot (conj : Bool) (ps : List ((Elt × (Int × Option Nat)) × (Elt × (Int × Option Nat)))) : Cell :=
  let e := ps.foldl (fun m p => min m (p.1.2.1 + p.2.2.1)) (0 : Int)
  ps.foldl (fun (c : Cell) p =>
    let a := p.1.1
    let b := p.2.1
    let ai := if conj then -a.im else a.im
    let k : Int := 2 ^ (p.1.2.1 + p.2.2.1 - e).toNat
    { re := c.re + (a.re * b.re - ai * b.im) * k, im := c.im + (a.re * b.im + ai * b.re) * k, e := e,
      bad := c.bad || isBad a p.1.2 || isBad b p.2.2 }) ⟨0, 0, e, false⟩

/-- Element of a matrix with its row exponent. -/
def Mat.at (m : Mat) (i j : Nat) : Elt × (Int × Option Nat) := (nth ⟨0, 0, none⟩ (nth [] m.rows i) j, nth (0, none) m.exps i)

/-- Matrix product, as accumulated. -/
def Mat.mul (a b : Mat) (m k n : Nat) : List (List Cell) :=
  (List.range m).map (fun i => (List.range n).map (fun j => dot false ((List.range k).map (fun t => (a.at i t, b.at t j)))))

/-- What does not fit the 48-bit accumulator is not stated (R139): a free value, drawn at `draw`. -/
def accFit (draw : Nat → Nat) (i : Nat) (x e : Int) : Int :=
  let lim : Int := 2 ^ 47 * 2 ^ (-e).toNat
  if -lim ≤ x ∧ x < lim then x else sgn 48 (draw i) * 2 ^ (-e).toNat

/-- Cells with the accumulator's width applied; `base` numbers the draws. -/
def fitCells (draw : Nat → Nat) (base : Nat) (cs : List (List Cell)) : List (List Cell) :=
  ((List.range cs.length).zip cs).map (fun r =>
    ((List.range r.2.length).zip r.2).map (fun x =>
      let i := base + 2 * (r.1 * r.2.length + x.1)
      { x.2 with re := accFit draw i x.2.re x.2.e, im := accFit draw (i + 1) x.2.im x.2.e }))

/-- Shift a value in units of 2 to the `e` right and round it (R139); `d` is added, in 4,096ths of the output's unit. -/
def shiftOut (trunc : Bool) (sh : Nat) (e d x : Int) : Int :=
  let n := sh + (-e).toNat
  let y := x * 4096 + d * 2 ^ n
  if trunc then rndDown y (n + 12) else rndEven y (n + 12)

/-- Whether a shift fits every element of an output row that may be looked at (R139). -/
def rowFits (trunc : Bool) (w : Nat) (skipBad : Bool) (diag : Nat → Int) (row : List Cell) (sh : Nat) : Bool :=
  ((List.range row.length).zip row).all (fun x =>
    (skipBad && x.2.bad) ||
      (let r := shiftOut trunc sh x.2.e (diag x.1) x.2.re
       let q := shiftOut trunc sh x.2.e 0 x.2.im
       satS w r == r && satS w q == q))

/-- The shift of an output row (R139): the fixed one, or the smallest from 0 to 15 that fits it. -/
def rowShift (auto trunc : Bool) (fixed w : Nat) (skipBad : Bool) (diag : Nat → Int) (row : List Cell) : Nat :=
  if auto then ((List.range 16).find? (rowFits trunc w skipBad diag row)).getD 15 else fixed

/-- Bits of a component in an output format (R138). -/
def outBits (fmt : Nat) : Nat := if fmt = 0 then 16 else if fmt = 4 then 32 else 12

/-- Bytes of an output element (R98, R138). -/
def outElt (fmt : Nat) (re im : Int) (p : Bool) : List PByte :=
  let w := outBits fmt
  (leBytes (eltSize fmt) (twos w re + twos w im * 2 ^ w)).map (fun b => ⟨b, p⟩)

/-- Whether the shift of a row depends on poison (R139, R251): an automatic one is fitted to every element but under propagation. -/
def shiftBad (auto prop : Bool) (row : List Cell) : Bool := auto && !prop && row.any (·.bad)

/-- An output row: its bytes, its shift as a byte, how many elements are written poisoned under propagation (R139). -/
def outRow (auto trunc prop : Bool) (fixed fmt : Nat) (diag : Nat → Int) (row : List Cell) : List PByte × PByte × Nat :=
  let w := outBits fmt
  let sh := rowShift auto trunc fixed w prop diag row
  let all := shiftBad auto prop row
  (((List.range row.length).zip row).flatMap (fun x =>
      if prop && x.2.bad then outElt fmt 0 0 true
      else outElt fmt (satS w (shiftOut trunc sh x.2.e (diag x.1) x.2.re)) (satS w (shiftOut trunc sh x.2.e 0 x.2.im)) (x.2.bad || all)),
   ⟨BitVec.ofNat 8 sh, all⟩, if prop then (row.filter (·.bad)).length else 0)

/-- The intermediate of APPLY2 (R118, R139): int16 with one exponent per row and group, the smallest shift that fits. -/
def midMat (trunc prop : Bool) (cs : List (List Cell)) : Mat :=
  let one := fun (row : List Cell) =>
    let sh := rowShift true trunc 0 16 prop (fun _ => 0) row
    (row.map (fun c =>
      (⟨satS 16 (shiftOut trunc sh c.e 0 c.re), satS 16 (shiftOut trunc sh c.e 0 c.im), if c.bad then some 0 else none⟩ : Elt)),
     ((sh : Int), if shiftBad true prop row then some 0 else none))
  let rs := cs.map one
  ⟨rs.map (·.1), rs.map (·.2)⟩

/-- Values of a matrix as its elements and exponents. -/
def Mat.raw (m : Mat) : List (Int × Int) := (m.rows.flatMap (fun r => r.map (fun x => (x.re, x.im)))) ++ m.exps.map (fun e => (e.1, 0))

/-- The value of an element with its row exponent. -/
def Mat.value (m : Mat) (i j : Nat) : Cplx := let x := m.at i j; ⟨Ratio.scaled x.1.re x.2.1, Ratio.scaled x.1.im x.2.1⟩

/-- Whether an element or its row exponent is poisoned. -/
def Mat.hurt (m : Mat) (i j : Nat) : Bool := let x := m.at i j; isBad x.1 x.2

/-- Any poison in a column of a matrix. -/
def Mat.colBad (m : Mat) (j : Nat) : Bool := m.rows.any (fun r => (nth ⟨0, 0, none⟩ r j).bad.isSome) || m.exps.any (·.2.isSome)

/-- The part of a matrix on and below its diagonal: what CHOL and SOLVE use of their first operand (log entry 23). -/
def Mat.lower (m : Mat) : Mat := ⟨((List.range m.rows.length).zip m.rows).map (fun r => r.2.take (r.1 + 1)), m.exps⟩

/-- A row of the factor as cells: zeros above the diagonal. -/
def FactorRow.cells (rows : List FactorRow) (r : FactorRow) (k : Nat) : List Cell :=
  let es := (r.entries rows).zip r.bad
  (List.range k).map (fun j => match es[j]? with
    | some x => ⟨x.1.1, x.1.2, -40, x.2⟩
    | none => ⟨0, 0, 0, false⟩)

/-- The rows of the factor of a matrix, each with its cells (R136): d is added in units of the scale of the row's output, so that an
automatic shift is the smallest that fits the row with it (R137, R139). -/
def Mat.factor (m : Mat) (k : Nat) (shifts : List Nat) (trunc prop : Bool) (w load : Nat) : List (FactorRow × List Cell) :=
  (List.range k).foldl (fun (rs : List (FactorRow × List Cell)) i =>
    let before := rs.map (·.1)
    let at_ := fun (sh : Nat) =>
      let r := factorRow before ((List.range (i + 1)).map (m.value i)) ((List.range (i + 1)).map (m.hurt i))
        (Ratio.of ((load * 2 ^ sh : Nat) : Int) 4096)
      (r, r.cells before k)
    let sh := (shifts.find? (fun sh => rowFits trunc w prop (fun _ => 0) (at_ sh).2 sh)).getD (shifts.getLast?.getD 0)
    rs ++ [at_ sh]) []

/-- The solution with a factor, as cells (R136): every column depends on the whole factor and on its own right side. A 0 on the factor's
diagonal leaves the result open (log entry 23). -/
def Mat.solve (l b : Mat) (k len : Nat) : List (List Cell) :=
  let open_ := Config.solve k len l.raw b.raw
  let singular := (List.range k).any (fun i => (l.value i i) == Cplx.zero)
  let xs := (List.range len).map (fun j => substitute k l.value (fun i => b.value i j))
  (List.range k).map (fun i => (List.range len).map (fun j =>
    let bad := l.lower.bads != [] || b.colBad j
    if singular then
      let x := nth (0, 0) open_ (i * len + j)
      ⟨x.1, x.2, 0, bad⟩
    else
      let x := nth Cplx.zero (nth [] xs j) i
      ⟨x.re.odd, x.im.odd, -40, bad⟩))

/-- One group of a matrix command: the state after its reads, its output cells, whether a pivot was not positive, the poisoned
operands. GRAM in format 3 takes one exponent for each of the `group_len` rows of src_b. DESIGN CHOICE (log entry 225): R137 names `k`
exponents, one a row, and GRAM's src_b has `group_len` rows. -/
def State.matGroup (s : State) (agent : Nat) (d : List Byte) (g : Nat) : State × List (List Cell) × Bool × List Nat :=
  let op := le d 0 1
  let m := le d 68 1
  let k := le d 69 1
  let n := le d 70 1
  let len := le d 76 2
  let trunc := bit (le d 73 1) 0
  let prop := bit (le d 73 1) 2
  let fa := le d 71 1 % 16
  let fc := le d 71 1 / 16
  let fb := le d 72 1 % 16
  let aAt := le d 16 8 + g * le d 56 4
  let bAt := le d 24 8 + g * le d 60 4
  let none_ : Mat := ⟨[], []⟩
  let a : State × Mat := if op = 3 then (s, none_)
    else s.readMat agent aAt fa (if op = 1 ∨ op = 2 then m else k) k
  let b : State × Mat := if op = 4 then (a.1, none_)
    else a.1.readPitched agent bAt (le d 80 4) fb (le d 88 8) (if op = 3 then len else k) (if op = 3 then k else len)
  let c : State × Mat := if op = 2 then b.1.readMat agent (le d 32 8) fc n m else (b.1, none_)
  let A := a.2
  let B := b.2
  let C := c.2
  let u := c.1
  let size := (match op with | 1 => m * len | 2 => (m + n) * len | 3 => k * k | _ => 0)
  let t := u.drawn (2 * size)
  let bads := (if 4 ≤ op then A.lower.bads else A.bads) ++ B.bads ++ C.bads
  match op with
  | 1 => (t, fitCells u.peek 0 (A.mul B m k len), false, bads)
  | 2 =>
    let w := midMat trunc prop (fitCells u.peek 0 (A.mul B m k len))
    (t, fitCells u.peek (2 * m * len) (C.mul w n m len), false, bads)
  | 3 =>
    let g := (List.range k).map (fun i => (List.range k).map (fun j =>
      dot true ((List.range len).map (fun r => (B.at r i, B.at r j)))))
    (t, fitCells u.peek 0 g, false, bads)
  | 4 =>
    let rs := A.factor k (if bit (le d 73 1) 1 then List.range 16 else [le d 73 1 / 16]) trunc prop (outBits (le d 72 1 / 16)) (le d 78 2)
    let fails := rs.any (fun r => r.1.fails)
    (t, rs.map (fun r => if fails then r.2.map (fun c => { c with re := 0, im := 0 }) else r.2), fails, bads)
  | _ => (t, A.solve B k len, false, bads)

/-- What the groups of a matrix command have come to so far. -/
structure MatAcc where
  s : State
  writes : List EngWrite
  exps : List PByte
  notPos : Bool
  bads : List Nat
  poisoned : Nat
  first : Option Nat

/-- One group more. -/
def MatAcc.add (x : MatAcc) (agent : Nat) (d : List Byte) (g : Nat) : MatAcc :=
  let r := x.s.matGroup agent d g
  let trunc := bit (le d 73 1) 0
  let auto := bit (le d 73 1) 1
  let prop := bit (le d 73 1) 2
  let fmt := le d 72 1 / 16
  let diag : Nat → Nat → Int := fun i j => if le d 0 1 = 3 ∧ i = j then (le d 78 2 : Int) else 0
  let rows := ((List.range r.2.1.length).zip r.2.1).map (fun y => outRow auto trunc prop (le d 73 1 / 16) fmt (diag y.1) y.2)
  let base := le d 40 8 + g * le d 64 4
  let ws := ((List.range rows.length).zip rows).map (fun y => (⟨base + y.1 * le d 84 4, y.2.1⟩ : EngWrite))
  let n := rows.foldl (fun n y => n + y.2.2) 0
  { s := r.1
    writes := x.writes ++ ws
    exps := x.exps ++ rows.map (fun y => y.2.1)
    notPos := x.notPos || r.2.2.1
    bads := x.bads ++ r.2.2.2
    poisoned := x.poisoned + n
    first := if x.first.isNone && n != 0 then some g else x.first }

/-- A matrix command (R136 to R141). -/
def State.matrix (s : State) (agent : Nat) (hidden : Bool) (d : List Byte) : State × EngResult :=
  match firstCheck (matrixChecks d) with
  | some c => (s, badResult d c.2.1 c.2.2)
  | none =>
    let auto := bit (le d 73 1) 1
    let prop := bit (le d 73 1) 2
    let x := (List.range (le d 74 2)).foldl (fun (x : MatAcc) g => x.add agent d g) ⟨s, [], [], false, [], 0, none⟩
    let cyc := matrixCycles d hidden
    (x.s,
     { writes := x.writes ++ (if auto then [⟨le d 48 8, x.exps⟩] else [])
       status := if x.notPos then 0x03 else 0
       cycles := cyc
       energy := Config.energy d cyc
       detail := leBytes 4 x.poisoned ++ leBytes 2 (x.first.getD 0xFFFF) ++ leBytes 10 0
       late := if prop then [] else match x.bads with | [] => [] | a :: _ => [(2, a)]
       claim := none })

/-- A matrix row of the table: the next command of the matrix engine, where it has the row's opcode. -/
def State.matrixRow (s : State) (c : Nat) (mine : Nat → Bool) : State :=
  s.engine c 0 mine (fun s hidden d => s.matrix (engAgent c 0) hidden d)

/-- APPLY (R136); a reserved opcode is answered here. -/
def execApply (c : Fin 18) (s : State) : Res := .next (s.matrixRow c (fun o => o == 1 || o == 0 || decide (5 < o)))

/-- APPLY2 (R136, R118). -/
def execApply2 (c : Fin 18) (s : State) : Res := .next (s.matrixRow c (· == 2))

/-- GRAM (R136). -/
def execGram (c : Fin 18) (s : State) : Res := .next (s.matrixRow c (· == 3))

/-- CHOL (R136). -/
def execChol (c : Fin 18) (s : State) : Res := .next (s.matrixRow c (· == 4))

/-- SOLVE (R136). -/
def execSolve (c : Fin 18) (s : State) : Res := .next (s.matrixRow c (· == 5))

/-- Checks of a decoder descriptor (R129, R134, R142): a transport block of more than 156 code blocks exceeds the limit (R102, R143). -/
def decoderChecks (d : List Byte) : List Check :=
  let op := le d 0 1
  let qm := le d 51 1 / 16
  let many := (op == 2 || (op == 1 && (le d 50 1 == 1 || le d 50 1 == 2))) &&
    decide (156 < blockCount (le d 40 4 + 24) (if op = 2 then 6144 else if le d 50 1 = 1 then 8448 else 3840))
  [(!(op == 1 || op == 2), 0, esBadOpcode)] ++ headerChecks d ++
  [ckAlign d 16 8 64, ckAlign d 24 8 4, ckAlign d 32 8 4, (decide (1277992 < le d 40 4) || many, 40, esLimit),
   ckIf (if op = 1 then isLifting (le d 48 2) else le d 48 2 == 0) 48,
   ckIf (if op = 1 then le d 50 1 == 1 || le d 50 1 == 2 else le d 50 1 == 0) 50,
   ckIf ([1, 2, 4, 6, 8].contains qm) 51, ckRange d 52 1 1 4, ckRange d 53 1 0 1, ckRange d 54 1 1 32,
   ckRange d 55 1 (le d 54 1) 32]

/-- Poisoned bytes read as 0, with their count (R146). -/
def erase0 (bs : List PByte) : List Byte × Nat := (bs.map (fun b => if b.p then 0 else b.v), (bs.filter (·.p)).length)

/-- Addition of LLRs with saturation at -127 and +127 (R144). -/
def addLlr (a b : Byte) : Byte := BitVec.ofInt 8 (max (-127) (min 127 (a.toInt + b.toInt)))

/-- Effective maximum of the iterations (R145). -/
def iterEff (regs : SMap Word) (c : Nat) (d : List Byte) : Nat :=
  let a := Rg.ZCL_DEC_ITER_CAP c
  let cls := le d 2 1
  let hi := le d 55 1
  let lo := le d 54 1
  let hi := if cls ≠ 0 ∧ getR regs a Fd.ZCL_DEC_ITER_CAP_shed_extra = 1 then min hi lo else hi
  let cap := getR regs a Fd.ZCL_DEC_ITER_CAP_cap_standard
  if cls = 1 ∧ cap ≠ 0 then min hi cap else hi

/-- What decoding has come to, block by block. -/
structure DecAcc where
  s : State
  /-- Block, whether it passed now, iterations, combined values, decoded bytes. -/
  out : List (Nat × Bool × Nat × List Byte × List Byte)
  erased : Nat

/-- Decode code block `i` (R144 to R146): its values start at `at_`. With early stop a block ends at the iteration at which its CRC
passes; one that fails runs them all (R145). -/
def DecAcc.block (x : DecAcc) (agent eff : Nat) (d : List Byte) (copy at_ i : Nat) (b : Block) : DecAcc :=
  let ctl := le d 56 1
  let ncb := le d 60 4
  let r := x.s.engRead agent at_ b.e
  let l := erase0 r.2
  let placed := recovered d b l.1
  let a : State × List PByte := if bit ctl 0 then (r.1, []) else r.1.engRead agent (copy + i * ncb) ncb
  let o := erase0 a.2
  let comb := if bit ctl 0 then placed else (placed.zip (fit 0 ncb o.1)).map (fun p => addLlr p.1 p.2)
  let lo := min (le d 54 1) eff
  let q := Config.decodeBlock d i comb lo eff
  let its := if bit ctl 1 && q.1 then max lo (min eff q.2.1) else eff
  { s := a.1, out := x.out ++ [(i, q.1, its, comb, fit 0 (ceilDiv b.payload 8) q.2.2)], erased := x.erased + l.2 + o.2 }

/-- A decoder command (R142 to R149). What the spec leaves open is marked: the bits of a block done before are those that stand at its
place of the payload (log entry 209); the done bits of the record are honoured whatever ndi says (log entry 210); poisoned bytes of the
record read as 0 and count in erased (log entry 211); iter_mean is over all blocks, 0 for those done before, and keeps its low eight
bits (log entry 212). -/
def State.decoder (s : State) (c : Nat) (d : List Byte) : State × EngResult :=
  match firstCheck (decoderChecks d) with
  | some k => (s, badResult d k.2.1 k.2.2)
  | none =>
    let agent := engAgent c 1
    let ctl := le d 56 1
    let rec_ := le d 24 8
    let h := s.engRead agent rec_ 64
    let hb := erase0 h.2
    let active := le hb.1 16 1 % 2
    let copy := le hb.1 (if active = 0 then 0 else 8) 8
    let other := le hb.1 (if active = 0 then 8 else 0) 8
    let done := le hb.1 20 20
    let bs := decBlocks d
    let n := bs.length
    let eff := iterEff s.regs c d
    let starts := bs.foldl (fun (l : List Nat × Nat) b => (l.1 ++ [l.2], l.2 + ceilDiv b.e 64 * 64)) ([], le d 16 8 + 64)
    let x := (((List.range n).zip (bs.zip starts.1)).filter (fun b => !done.testBit b.1)).foldl
      (fun (x : DecAcc) b => x.block agent eff d copy b.2.2 b.1 b.2.1) ⟨h.1, [], 0⟩
    let pass := x.out.filter (fun b => b.2.1)
    let fail := x.out.filter (fun b => !b.2.1)
    let bits := ((List.range n).zip bs).map (fun b => match x.out.find? (fun y => y.1 == b.1) with
      | some y => y.2.2.2.2
      | none => vals (s.peekBytes (le d 32 8 + payloadAt bs b.1) (ceilDiv b.2.payload 8)))
    let ok := fail == [] && (n == 1 || Config.tbCrc d bits)
    let payload := pass.map (fun b => (⟨le d 32 8 + payloadAt bs b.1, clean b.2.2.2.2⟩ : EngWrite))
    let done' := pass.foldl (fun m b => m ||| 2 ^ b.1) done
    let soft := if bit ctl 2 then
        fail.map (fun b => (⟨other + b.1 * le d 60 4, clean b.2.2.2.1⟩ : EngWrite)) ++ [⟨rec_ + 20, clean (leBytes 20 done')⟩] ++
          (if ok then [] else [⟨rec_ + 16, clean (leBytes 1 (1 - active))⟩])
      else []
    let its := (List.range n).map (fun i => ((x.out.find? (fun b => b.1 == i)).map (fun b => b.2.2.1)).getD 0)
    let peak := its.foldl max 0
    let sum := its.foldl (· + ·) 0
    let cyc := decoderCycles d its
    (x.s,
     { writes := (if bit ctl 3 && !ok then [] else payload) ++ soft
       status := if ok then 0 else 0x01
       cycles := cyc
       energy := Config.energy d cyc
       detail := leBytes 2 n ++ leBytes 2 fail.length ++ leBytes 1 peak ++ leBytes 1 (sum * 16 / max 1 n) ++ leBytes 1 eff ++
         leBytes 1 (b2n ok) ++ leBytes 4 (x.erased + hb.2) ++ leBytes 4 0
       late := []
       claim := if bit ctl 3 && ok then some (le d 16 8 + 12) else none })

/-- LDPC_DECODE (R142); a reserved opcode is answered here. -/
def execLdpcDecode (c : Fin 18) (s : State) : Res :=
  .next (s.engine c 1 (· != 2) (fun s _ d => s.decoder c d))

/-- TURBO_DECODE (R142). -/
def execTurboDecode (c : Fin 18) (s : State) : Res := .next (s.engine c 1 (· == 2) (fun s _ d => s.decoder c d))

/-- Checks of an encoder descriptor (R129, R134, R150, R151): rv_qm as in the decoder's; a polar segment of more information bits than its
longest mother code holds exceeds the limit (log entry 110). -/
def encoderChecks (d : List Byte) : List Check :=
  let op := le d 0 1
  let qm := le d 43 1 / 16
  [(!(decide (1 ≤ op) && decide (op ≤ 5)), 0, esBadOpcode)] ++ headerChecks d ++
  [ckAlign d 16 8 64, ckAlign d 24 8 64,
   (decide (3 ≤ op) && decide (2 ^ polarMost op < polarK d), 32, esLimit),
   ckIf (if op = 1 then isLifting (le d 40 2) else le d 40 2 == 0) 40,
   ckIf (if op = 1 then le d 42 1 == 1 || le d 42 1 == 2 else le d 42 1 == 0) 42,
   ckIf ([1, 2, 4, 6, 8].contains qm) 43, ckRange d 44 1 1 8, ckRange d 45 1 0 1,
   ckIf (op != 5 || [1, 2, 4, 8].contains (le d 50 1)) 50]

/-- Address of the first poisoned byte of an operand. -/
def firstPoison (a : Nat) (bs : List PByte) : Option Nat := ((List.range bs.length).zip bs).findSome? (fun b => if b.2.p then some (a + b.1) else none)

/-- Coded bits of an encoder command (R150): PBCH is rate matched to 864. -/
def codedBits (d : List Byte) : Nat := match le d 0 1 with | 4 => 864 | 5 => le d 32 4 | _ => le d 36 4

/-- An encoder/polar command (R150 to R153). -/
def State.encoder (s : State) (c : Nat) (d : List Byte) : State × EngResult :=
  match firstCheck (encoderChecks d) with
  | some k => (s, badResult d k.2.1 k.2.2)
  | none =>
    let agent := engAgent c 2
    let op := le d 0 1
    let src := le d 16 8
    let dst := le d 24 8
    let n := if op = 5 then le d 36 4 else ceilDiv (le d 32 4) 8
    let r := s.engRead agent src n
    let bad := firstPoison src r.2
    let cyc := encoderCycles d
    let tb := op == 1 || op == 2
    let dec := Config.polarDecode d (vals r.2)
    let len := ceilDiv (codedBits d) 8
    let coded := fit 0 len (if op = 5 then dec.2 else Config.encode d (vals r.2))
    let body := ((List.range len).zip coded).map (fun b =>
      (⟨b.2, if op = 5 then bad.isSome else
        ((List.range r.2.length).zip r.2).any (fun p => p.2.p && Config.depends d b.1 p.1)⟩ : PByte))
    let pad := clean (leBytes (ceilDiv len 64 * 64 - len) 0)
    let failed := op == 5 && !dec.1
    let status := if failed then 0x01 else 0
    (r.1,
     { writes := if tb then [⟨dst + 64, body ++ pad⟩, ⟨dst + 8, clean (leBytes 4 (if bad = none then 1 else 2))⟩]
         else if failed then [] else [⟨dst, body⟩]
       status := status
       cycles := cyc
       energy := Config.energy d cyc
       detail := leBytes 16 (Config.encDetail d)
       late := match bad with | some a => [(2, a)] | none => []
       claim := none })

/-- An encoder row of the table. -/
def State.encoderRow (s : State) (c : Nat) (mine : Nat → Bool) : State := s.engine c 2 mine (fun s _ d => s.encoder c d)

/-- LDPC_TB (R150); a reserved opcode is answered here. -/
def execLdpcTb (c : Fin 18) (s : State) : Res := .next (s.encoderRow c (fun o => o == 1 || o == 0 || decide (5 < o)))

/-- TURBO_TB (R150). -/
def execTurboTb (c : Fin 18) (s : State) : Res := .next (s.encoderRow c (· == 2))

/-- POLAR_DCI (R150). -/
def execPolarDci (c : Fin 18) (s : State) : Res := .next (s.encoderRow c (· == 3))

/-- POLAR_PBCH (R150): 864 coded bits. -/
def execPolarPbch (c : Fin 18) (s : State) : Res := .next (s.encoderRow c (· == 4))

/-- POLAR_UCI_DEC (R150). -/
def execPolarUciDec (c : Fin 18) (s : State) : Res := .next (s.encoderRow c (· == 5))

end Sys2Proof.Machine
end

