-- ==== Sys2Proof/Machine/Chain.lean ====
section
/-! DEFINITION. What the items of the processing chains do to memory, as they complete (R92, R98 to R102, R116 to R120, R123, R127;
log entry 180): combining, estimation, demapping, encoding, mapping, precoding, guard copies, SRS results. -/
namespace Sys2Proof.Machine

/-- Mantissa bits of the PRB blocks of a carrier and direction (R90). -/
def State.mantissa (s : State) (carrier : Nat) (downlink : Bool) : Nat :=
  ((s.eth.flows.find? (fun f => f.carrier == carrier && (f.dir == 1) == downlink)).map (·.mantissa)).getD 9

/-- The radio unit applies the beams (R315). -/
def State.catB (s : State) (carrier : Nat) : Bool := s.eth.flows.any (fun f => f.carrier == carrier && f.category == 1)

/-- A number from bits, most significant first. -/
def bitsNat (l : List Bool) : Nat := l.foldl (fun n b => 2 * n + b2n b) 0

/-- Bits of a number, most significant first. -/
def natBits (w n : Nat) : List Bool := (List.range w).map (fun i => n.testBit (w - 1 - i))

/-- Bits of bytes in wire order (log entry 181): most significant first. -/
def blockBits (bs : List Byte) : List Bool := bs.flatMap (fun b => natBits 8 b.toNat)

/-- Bytes from bits in wire order. -/
def blockBytes (l : List Bool) : List Byte := (List.range (l.length / 8)).map (fun k => BitVec.ofNat 8 (bitsNat ((l.drop (8 * k)).take 8)))

/-- The mantissas of a PRB block (R90): I before Q, packed in wire order behind the exponent byte. -/
def blockElts (m : Nat) (bs : List Byte) : List Elt :=
  let bits := blockBits (bs.drop 1)
  let at_ := fun k => sgn m (bitsNat ((bits.drop (m * k)).take m))
  (List.range 12).map (fun k => ⟨at_ (2 * k), at_ (2 * k + 1), none⟩)

/-- The exponent of a PRB block. -/
def blockExp (bs : List Byte) : Int := (le bs 0 1 % 16 : Nat)

/-- A PRB block from its exponent and mantissas (R90). -/
def wireBlock (m e : Nat) (vs : List (Int × Int)) : List Byte :=
  BitVec.ofNat 8 e :: blockBytes (vs.flatMap (fun v => natBits m (twos m v.1) ++ natBits m (twos m v.2)))

/-- Compress one PRB of one stream (R120, step 5): the smallest exponent from 0 to 15 with which every value, shifted with convergent
rounding, fits the mantissa; 15 with saturation where none does (log entry 182). -/
def compress (m : Nat) (row : List Cell) : List Byte :=
  let e := rowShift true false 15 m false (fun _ => 0) row
  wireBlock m e (row.map (fun c => (satS m (shiftOut false e c.e 0 c.re), satS m (shiftOut false e c.e 0 c.im))))

/-- Elements as cells, with an exponent that is not negative. -/
def cellsOf (es : List Elt) (e : Int × Option Nat) : List Cell :=
  es.map (fun x => ⟨x.re * 2 ^ e.1.toNat, x.im * 2 ^ e.1.toNat, 0, isBad x e⟩)

/-- A matrix record of rows by columns (R99, R117): coefficients from its start, row exponents at `expAt`. -/
def recordMat (rows cols expAt : Nat) (bs : List PByte) : Mat :=
  { rows := (List.range rows).map (fun i => elts 1 0 cols (bs.drop (3 * cols * i)))
    exps := (List.range rows).map (fun i => let b := nth ⟨0, false⟩ bs (expAt + i); (sgn 8 b.v.toNat, if b.p then some 0 else none)) }

/-- Read several pieces of memory, one after the other. -/
def State.takeAllAt (s : State) (agent : Nat) (ps : List (Nat × Nat)) : State × List (List PByte) :=
  ps.foldl (fun (r : State × List (List PByte)) p =>
    let q := r.1.memTake agent p.1 p.2
    (q.1, r.2 ++ [q.2])) (s, [])

/-- Set bits of a word in memory. -/
def State.orWord (s : State) (agent a bits : Nat) : State :=
  let r := s.memTake agent a 4
  r.1.memWrite agent a (clean (leBytes 4 (leNat (vals r.2) ||| bits)))

/-- A PRB lies in a grant. -/
def inGrant (raw : List Byte) (prb : Nat) : Bool := decide (le raw 12 2 ≤ prb) && decide (prb < le raw 12 2 + le raw 14 2)

/-- Mark the grants that cover a PRB of a symbol. -/
def Parapet.markPrb (p : Parapet) (downlink : Bool) (i : Item) (prb bits : Nat) : Parapet :=
  { p with grants := p.grants.map (fun g => if g.covers downlink i.carrier i.slot i.symbol && inGrant g.raw prb then g.mark bits else g) }

/-- A PRB is erased (R92): its flag is set, the grants in it are marked, `n` blocks or results found poisoned are counted. -/
def State.erasePrb (s : State) (i : Item) (rec_ prb n : Nat) : State :=
  let s := s.orWord i.core (rec_ + 464) 2
  let s := if n = 0 then s else s.fwBump (fwCarrier i.carrier 1) n
  { s with ppt := s.ppt.markPrb false i prb gErased }

/-- Combining of one PRB (R92, R98, R315): the blocks of every stream are tested; erased or poisoned ones make the PRB's beam data zero; else
the beam matrix is applied, or under Category B the blocks are only decompressed, and every port gets the smallest exponent that fits. -/
def State.combinePrb (s : State) (i : Item) (payload : List Byte) (p : Plan) (unit prb : Nat) : State :=
  let streams := streamsOf payload s.eth.flows i.carrier false
  let m := s.mantissa i.carrier false
  let n := prbBytes m
  let ports := carLayersUl payload
  let base := s.ringAddr false i.carrier
  let sym := s.symInFrame p i.slot i.symbol
  let r := s.takeAllAt i.core ((List.range streams).map (fun a => (blockAddr base p.d streams (carPrb payload) n sym a prb, n)))
  let erased := fun a => s.eth.blocks.any (fun b => isBlk (i.gate.getD 0) a prb b && b.erased)
  let hurt := (List.range streams).filter (fun a => !erased a && anyP (nth [] r.2 a))
  let rec_ := unit + ulRecsAt payload + 512 * prb
  let at_ := fun port => unit + beamAt payload i.symbol port (12 * prb)
  if hurt ≠ [] ∨ (List.range streams).any erased then
    let t := (List.range ports).foldl (fun t port => t.memWrite i.core (at_ port) (clean (leBytes 36 0))) r.1
    t.erasePrb i rec_ prb hurt.length
  else
    let b : Mat := ⟨r.2.map (fun x => blockElts m (vals x)), r.2.map (fun x => (blockExp (vals x), none))⟩
    let w := r.1.memTake i.core (unit + ulGroupsAt payload + 1600 * (prb / 4)) 1600
    let rows := if s.catB i.carrier then (b.rows.zip b.exps).map (fun x => cellsOf x.1 x.2)
      else fitCells w.1.peek 0 ((recordMat ports streams 1536 w.2).mul b ports streams 12)
    let outs := rows.map (outRow true false false 0 1 (fun _ => 0))
    let t := ((List.range ports).zip outs).foldl (fun t x => t.memWrite i.core (at_ x.1) x.2.1) (w.1.drawn (24 * ports))
    let e := fun port => (nth ⟨0, false⟩ (outs.map (fun o => o.2.1)) port)
    t.memWrite i.core (rec_ + 400 + 4 * i.symbol) ((List.range 4).map (fun q =>
      -- DESIGN CHOICE (log entry 200): the even port has the low four bits.
      ⟨BitVec.ofNat 8 ((e (2 * q)).v.toNat % 16 + 16 * ((e (2 * q + 1)).v.toNat % 16)), (e (2 * q)).p || (e (2 * q + 1)).p⟩))

/-- Combining of a symbol: the PRB that its ingress item had announced. -/
def State.combine (s : State) (i : Item) (payload : List Byte) : State :=
  let p := s.plan i.carrier payload
  let unit := s.unitAddr false i.carrier (s.slotHalf p i.slot)
  ((List.range (carPrb payload)).filter (fun prb => s.eth.blocks.any (fun b => b.item == i.gate.getD 0 && b.prb == prb))).foldl
    (fun s prb => s.combinePrb i payload p unit prb) s

/-- Layers of an uplink grant among those of its carrier: a layer has the number of its beam port (R89, R100; log entry 183). -/
def ownLayers (raw : List Byte) : List Nat := (List.range (le raw 18 1)).map (· + le raw 19 1)

/-- Pieces of a PRB record that hold h and w of a grant's layers, with the exponents of w (R100): offset and size. -/
def ownPieces (raw : List Byte) : List (Nat × Nat) :=
  (ownLayers raw).flatMap (fun l => (List.range 8).map (fun q => ((q * 8 + l) * 3, 3)) ++ [(192 + 24 * l, 24), (456 + l, 1)])

/-- PRB of a grant. -/
def grantPrbs (raw : List Byte) : List Nat := (List.range (le raw 14 2)).map (· + le raw 12 2)

/-- Pieces of beam data of a PRB in a symbol, port by port (R97). -/
def beamPieces (payload : List Byte) (unit x prb : Nat) : List (Nat × Nat) :=
  (List.range (carLayersUl payload)).map (fun port => (unit + beamAt payload x port (12 * prb), 36))

/-- Estimation of one PRB that carries DMRS (R92, R100): h, w, their exponents and the SINR, which follow from the beam data of the DMRS
symbols; flag bit 0 is set. Where they come out poisoned the PRB is erased. -/
def State.estimatePrb (s : State) (i : Item) (g : Grant) (payload : List Byte) (unit prb : Nat) : State :=
  let rec_ := unit + ulRecsAt payload + 512 * prb
  let f := s.memTake i.core (rec_ + 464) 4
  if bit (leNat (vals f.2)) 1 || !Config.prbDmrs g.raw prb then f.1
  else
    let r := f.1.takeAllAt i.core ((grantDmrs (s.grantPlan g).lte g.raw).flatMap (fun x => beamPieces payload unit x prb) ++ [(rec_ + 400, 56)])
    let bad := r.2.any anyP
    let v := Config.estimate g.raw prb (r.2.map vals)
    let t := (ownPieces g.raw ++ (ownLayers g.raw).map (fun l => (384 + 2 * l, 2))).foldl (fun (t : State) (e : Nat × Nat) =>
      t.memWrite i.core (rec_ + e.1) ((List.range e.2).map (fun k => ⟨v (e.1 + k), bad⟩))) r.1
    if bad then t.erasePrb i rec_ prb 1 else t.orWord i.core (rec_ + 464) 1

/-- PRB of a grant by their distance from one, the lower first. -/
def nearest (ps : List Nat) (prb : Nat) : Option Nat :=
  (sortBy (fun (q : Nat) => [(((q : Int) - prb).natAbs : Int), (q : Int)]) ps).head?

/-- A PRB without DMRS of its grant takes h and w of the nearest PRB of the grant that is valid, with the exponents of w; flag bit 2 is
set (R100). -/
def State.borrow (s : State) (i : Item) (g : Grant) (payload : List Byte) (unit prb : Nat) (valid : List Nat) : State :=
  match nearest valid prb with
  | none => s
  | some q =>
    let rec_ := fun b => unit + ulRecsAt payload + 512 * b
    let t := (ownPieces g.raw).foldl (fun (t : State) (e : Nat × Nat) =>
      let r := t.memTake i.core (rec_ q + e.1) e.2
      r.1.memWrite i.core (rec_ prb + e.1) r.2) s
    t.orWord i.core (rec_ prb + 464) 4

/-- Mean of signed values, rounded down (log entry 184). -/
def meanOf (l : List Int) : Int := if l = [] then 0 else l.foldl (· + ·) 0 / (l.length : Int)

/-- Estimation of a grant (R100): every PRB with DMRS, then those without; and the mean SINR that results carry (R106). -/
def State.estimate (s : State) (i : Item) (g : Grant) (payload : List Byte) : State :=
  let unit := s.unitAddr false i.carrier (s.slotHalf (s.grantPlan g) i.slot)
  let prbs := grantPrbs g.raw
  let t := prbs.foldl (fun t prb => t.estimatePrb i g payload unit prb) s
  let rec_ := fun b => unit + ulRecsAt payload + 512 * b
  let fs := t.takeAllAt i.core (prbs.map (fun b => (rec_ b + 464, 4)))
  let valid := ((prbs.zip fs.2).filter (fun x => Config.prbDmrs g.raw x.1 && !anyP x.2 && bit (leNat (vals x.2)) 0 &&
    !bit (leNat (vals x.2)) 1)).map (·.1)
  let t := (prbs.filter (fun b => !Config.prbDmrs g.raw b)).foldl (fun t b => t.borrow i g payload unit b valid) fs.1
  let q := t.takeAllAt i.core (valid.map (fun b => (rec_ b + 384, 16)))
  let sinr := meanOf (q.2.flatMap (fun bs => (ownLayers g.raw).map (fun l => leS (vals bs) (2 * l) 2)))
  { q.1 with ppt := q.1.ppt.updGrant g.id (fun g => { g with sinr := twos 16 sinr }) }

/-- An equalised symbol of a PRB: its elements, subcarrier-major, then layer, each with the SINR of its layer; none where the PRB is
erased. -/
abbrev Equal := Option (List (Cell × Int))

/-- A PRB that demapping finds poisoned is erased, its beam data of the symbol zero (R92). -/
def State.eraseRow (s : State) (i : Item) (payload : List Byte) (unit prb : Nat) : State :=
  ((List.range (carLayersUl payload)).foldl (fun (t : State) port =>
    t.memWrite i.core (unit + beamAt payload i.symbol port (12 * prb)) (clean (leBytes 36 0))) s).erasePrb i
      (unit + ulRecsAt payload + 512 * prb) prb 1

/-- Equalise a PRB of a symbol with its w (R92, R101): every layer's element is the sum over the beam ports. -/
def State.equalise (s : State) (i : Item) (g : Grant) (payload : List Byte) (unit prb : Nat) : State × Equal :=
  let rec_ := unit + ulRecsAt payload + 512 * prb
  let ports := carLayersUl payload
  let r := s.memTake i.core rec_ 512
  let f := leNat (vals ((r.2.drop 464).take 4))
  let y := r.1.takeAllAt i.core (beamPieces payload unit i.symbol prb)
  let own := ownPieces g.raw ++ (ownLayers g.raw).map (fun l => (384 + 2 * l, 2)) ++ [(400 + 4 * i.symbol, 4), (464, 4)]
  if own.any (fun e => anyP ((r.2.drop e.1).take e.2)) || y.2.any anyP then (y.1.eraseRow i payload unit prb, none)
  else if bit f 1 then (y.1, none)
  else
    let row := fun port => elts 1 0 12 (nth [] y.2 port)
    let bexp := fun port => ((le (vals r.2) (400 + 4 * i.symbol + port / 2) 1 / 16 ^ (port % 2) % 16 : Nat) : Int)
    let w := fun l port => eltOf 1 0 ((r.2.drop (192 + 24 * l + 3 * port)).take 3)
    (y.1, some ((List.range 12).flatMap (fun k => (ownLayers g.raw).map (fun l =>
      (dot false ((List.range ports).map (fun q =>
        ((w l q, (leS (vals r.2) (456 + l) 1, none)), (nth ⟨0, 0, none⟩ (row q) k, (bexp q, none))))),
       leS (vals r.2) (384 + 2 * l) 2)))))

/-- An LLR as it is written (R101): saturated at -127 and +127, negated where the scrambling bit is 1. -/
def llrByte (scrambled : Bool) (v : Int) : Byte :=
  let v := max (-127) (min 127 v)
  BitVec.ofInt 8 (if scrambled then -v else v)

/-- LLRs of a symbol of a grant, in transmission order (R101): PRB by PRB, `n0` is the index of the first; 0 for erased PRB. -/
def llrs (raw : List Byte) (n0 : Nat) (es : List Equal) : List Byte :=
  let qm := le raw 20 1
  let per := 12 * le raw 18 1 * qm
  ((List.range es.length).zip es).flatMap (fun e => match e.2 with
    | none => leBytes per 0
    | some cs => ((List.range cs.length).zip cs).flatMap (fun c => (List.range qm).map (fun b =>
        llrByte (Config.scrambled raw (n0 + e.1 * per + c.1 * qm + b)) (Config.llr qm b c.2.1.re c.2.1.im c.2.1.e c.2.2))))

/-- Undo transform precoding over the PRB of a grant (R89): the inverse DFT of TS 38.211; erased PRB stay so. -/
def transformed (es : List Equal) : List Equal :=
  let all := es.flatMap (fun e => (e.getD (List.replicate 12 (⟨0, 0, 0, false⟩, 0))).map (fun c => (c.1.re, c.1.im, c.1.e)))
  let out := Config.idft all
  ((List.range es.length).zip es).map (fun e => e.2.map (fun cs => ((List.range cs.length).zip cs).map (fun c =>
    let v := nth (0, 0, 0) out (12 * e.1 + c.1)
    (⟨v.1, v.2.1, v.2.2, false⟩, c.2.2))))

/-- Write LLRs from index `n0` on into the code blocks behind a header (R102). -/
def State.writeLlrs (s : State) (agent a : Nat) (bs : List Block) (n0 : Nat) (ls : List Byte) : State :=
  (bs.foldl (fun (r : State × Nat × Nat) b =>
    let lo := max r.2.1 n0
    let hi := min (r.2.1 + b.e) (n0 + ls.length)
    (if lo < hi then r.1.memWrite agent (r.2.2 + (lo - r.2.1)) (clean ((ls.drop (lo - n0)).take (hi - lo))) else r.1,
     r.2.1 + b.e, r.2.2 + up64 b.e)) (s, 0, a + 64)).1

/-- Demapping of a symbol (R101, R102): its LLRs, and the header's flow, count and total. -/
def State.demap (s : State) (i : Item) (g : Grant) (payload : List Byte) : State :=
  let p := s.grantPlan g
  let unit := s.unitAddr false i.carrier (s.slotHalf p i.slot)
  let r := (grantPrbs g.raw).foldl (fun (r : State × List Equal) prb =>
    let q := r.1.equalise i g payload unit prb
    (q.1, r.2 ++ [q.2])) (s, [])
  let es := if bit (le g.raw 24 1) 3 then transformed r.2 else r.2
  let bs := ulBlocks p.lte g.raw
  let n0 := (grantData p.lte g.raw).idxOf i.symbol * ulPerSym g.raw
  let a := s.blockAt g
  let t := r.1.memWrite i.core a (clean (leBytes 4 (le g.raw 0 4) ++ leBytes 2 bs.length ++ leBytes 2 0 ++ leBytes 4 (bs.map (·.e)).sum))
  t.writeLlrs i.core a bs n0 (llrs g.raw n0 es)

/-- An encoding item ends (R119): the status word of a PDCCH, from its command's completion record. -/
def State.encoded (s : State) (i : Item) (g : Grant) : State :=
  match i.outcome with
  | some o => if Config.isPdcch g.raw then s.memWrite i.core (s.blockAt g + 48) (clean (leBytes 4 (if o.1 = 0 then 1 else 2))) else s
  | none => s

/-- A status word says that a block is late or failed (R119, R124). -/
def notSent (bs : List PByte) : Bool := anyP bs || !bit (leNat (vals bs)) 0 || bit (leNat (vals bs)) 1

/-- A downlink block as mapping reads it: its grant, whether it is late or failed, its coded bytes. -/
structure Coded where
  g : Grant
  fails : Bool
  bytes : List PByte
  deriving DecidableEq, Repr

/-- Bits of a coded block (R119): first bit in bit 0 of the first byte. -/
def codedAt (bs : List PByte) (n : Nat) : Bool × Bool := let b := nth ⟨0, false⟩ bs (n / 8); (b.v.toNat.testBit (n % 8), b.p)

/-- An element of layer data (R98, R116): the modulated bits of the grant that has the layer and the PRB, its DMRS, or zero. -/
def State.layerElt (s : State) (payload : List Byte) (p : Plan) (cs : List Coded) (x layer k : Nat) : List PByte :=
  match cs.find? (fun c => inGrant c.g.raw (k / 12) && decide (le c.g.raw 19 1 ≤ layer) && decide (layer < le c.g.raw 19 1 + le c.g.raw 18 1)) with
  | none => clean (leBytes 3 0)
  | some c =>
    let raw := c.g.raw
    if c.fails then clean (leBytes 3 0)
    else if isDmrs p.lte raw x then clean (leBytes 3 (Config.dlDmrs raw x layer k))
    else
      let res := s.dlRes payload p raw x
      if res.contains k then
        let qm := le raw 20 1
        let n := s.dlBitsBefore payload p raw x + (res.idxOf k * le raw 18 1 + (layer - le raw 19 1)) * qm
        let bs := (List.range qm).map (fun b => codedAt c.bytes (n + b))
        (leBytes 3 (Config.modulate raw (bs.map (·.1)))).map (fun v => ⟨v, bs.any (·.2)⟩)
      else clean (leBytes 3 0)

/-- Mapping of a symbol (R116, R123, R124): every layer and resource element but for PRB under an SSB; zeros where no grant lies and for
blocks whose encoding was late or failed, whose grants are marked; the symbol record. -/
def State.mapSymbol (s : State) (i : Item) (payload : List Byte) : State :=
  let p := s.plan i.carrier payload
  let unit := s.unitAddr true i.carrier (s.unitHalf true p i.slot)
  let gs := s.ppt.grants.filter (fun g => g.covers true i.carrier i.slot i.symbol && !Config.isPdcch g.raw)
  let r := gs.foldl (fun (r : State × List Coded) g =>
    let h := r.1.memTake i.core (r.1.blockAt g + 8) 4
    let b := h.1.memTake i.core (h.1.blockAt g + 64) (ceilDiv (s.dlCoded payload p g.raw) 8)
    (b.1, r.2 ++ [⟨g, notSent h.2 || bit g.status 8, b.2⟩])) (s, [])
  let prbs := (List.range (carPrb payload)).filter (fun b => !s.underSsb payload p i.slot i.symbol b)
  let t := (List.range 16).foldl (fun t layer => prbs.foldl (fun (t : State) prb =>
    t.memWrite i.core (unit + layerAt payload i.symbol layer (12 * prb))
      ((List.range 12).flatMap (fun k => s.layerElt payload p r.2 i.symbol layer (12 * prb + k)))) t) r.1
  let rec_ := unit + dlSymsAt payload + 64 * i.symbol
  let t := t.memWrite i.core rec_ (clean ((List.range 16).map (fun l => Config.layerExp (gs.map (·.raw)) i.symbol l) ++ leBytes 4 1 ++ leBytes 44 0))
  { t with ppt := { t.ppt with grants := t.ppt.grants.map (fun g =>
      if r.2.any (fun c => c.g.id == g.id && c.fails) then g.mark lateEncode else g) } }

/-- A PDCCH as precoding inserts it (R112, R119, R124): its descriptor, whether it is muted, its bits, whether one of them is poisoned. -/
structure Pdcch where
  raw : List Byte
  muted : Bool
  bits : List Byte
  bad : Bool
  deriving DecidableEq, Repr

/-- Symbols of a PDCCH: those of its CORESET (R83, R112). -/
def pdcchSyms (payload raw : List Byte) : List Nat :=
  if carRat payload = 1 then ctlSyms payload
  else
    let o := 64 + 8 * (le raw 12 1 % 16)
    if bit (le payload (o + 6) 1) 0 then (List.range (le payload (o + 1) 1)).map (· + le payload o 1) else []

/-- What goes onto a beam port at a resource element in place of the precoded layers (R120, step 2): a PDCCH on the descriptor's port, zero
where it is muted; else a reference signal of the carrier. DESIGN CHOICE (log entry 185): every element of a PDCCH with a poisoned bit is
poisoned. -/
def inserted (payload : List Byte) (sym x : Nat) (ps : List Pdcch) (port k : Nat) : Option Cell :=
  let hit := ps.findSome? (fun q => if le q.raw 20 1 = port then
      (Config.pdcchRe payload q.raw q.bits x k).map (fun v => if q.muted then (⟨0, 0, 0, false⟩ : Cell) else ⟨v.1, v.2, 0, q.bad⟩)
    else none)
  hit.orElse (fun _ => (Config.refRe payload sym port k).map (fun v => ⟨v.1, v.2, 0, false⟩))

/-- One PRB of a symbol, stream by stream, as precoding and beamforming make it (R117, R118, R120): the precoder group over the layer data, the
insertions, the 16-bit intermediate, the beam record, which a Category B carrier does without. -/
def streamCells (draw : Nat → Nat) (catB : Bool) (streams prb : Nat) (group layers : Mat) (beam : List PByte)
    (ins : Nat → Nat → Option Cell) : List (List Cell) :=
  let a := fitCells draw 0 (group.mul layers 32 16 12)
  let a := ((List.range 32).zip a).map (fun r => ((List.range 12).zip r.2).map (fun c => (ins r.1 (12 * prb + c.1)).getD c.2))
  let mid := midMat false true a
  if catB then (mid.rows.zip mid.exps).map (fun r => cellsOf r.1 r.2)
  else fitCells draw 768 ((recordMat 64 32 6144 beam).mul mid streams 32 12)

/-- Precoding, beamforming and compression of one PRB (R120): a PRB with a poisoned output is written muted for every stream, counted, and
its grants are marked. -/
def State.precodePrb (s : State) (i : Item) (payload : List Byte) (p : Plan) (unit : Nat) (exps : List PByte) (written : Bool)
    (beam : List PByte) (ps : List Pdcch) (prb : Nat) : State :=
  let streams := streamsOf payload s.eth.flows i.carrier true
  let m := s.mantissa i.carrier true
  let n := prbBytes m
  let sym := s.symInFrame p i.slot i.symbol
  let g := s.memTake i.core (unit + dlGroupsAt payload + 1600 * (prb / 4)) 1600
  let l := if written then g.1.takeAllAt i.core ((List.range 16).map (fun q => (unit + layerAt payload i.symbol q (12 * prb), 36)))
    else (g.1, List.replicate 16 (clean (leBytes 36 0)))
  let layers : Mat := ⟨l.2.map (elts 1 0 12), (List.range 16).map (fun q =>
    let b := nth ⟨0, false⟩ exps q; (sgn 8 b.v.toNat, if b.p then some 0 else none))⟩
  let rows := streamCells l.1.peek (s.catB i.carrier) streams prb (recordMat 32 16 1536 g.2) layers beam
    (inserted payload sym i.symbol ps)
  let bad := rows.any (fun r => r.any (·.bad))
  let base := s.ringAddr true i.carrier
  let t := ((List.range streams).zip rows).foldl (fun (t : State) r =>
    t.memWrite i.core (blockAddr base p.d streams (carPrb payload) n sym r.1 prb)
      (clean (if bad then fit 0 n [] else fit 0 n (compress m r.2)))) (l.1.drawn (768 + 24 * streams))
  if bad then
    let t := t.fwBump (fwCarrier i.carrier 3) 1
    { t with ppt := t.ppt.markPrb true i prb 0x0C }
  else t

/-- Precoding of a symbol (R120, R123): all its PRB but those under an SSB. Layer data of a symbol that mapping has not written are zeros
(log entry 185); of one whose flag word is poisoned they count as poisoned (the same entry). The grants whose first symbol it is take its cluster and the age of their precoders (R126). -/
def State.precode (s : State) (i : Item) (payload : List Byte) : State :=
  let p := s.plan i.carrier payload
  let unit := s.unitAddr true i.carrier (s.unitHalf true p i.slot)
  let q := s.memTake i.core (unit + dlSymsAt payload + 64 * i.symbol) 20
  let exps := if anyP (q.2.drop 16) then poisoned (vals (q.2.take 16)) else q.2.take 16
  let written := bit (leNat (vals (q.2.drop 16))) 0 && (s.drum.unit i.unitRef).freeTick == some (refShift i.slot p.t)
  let b := if s.catB i.carrier then (q.1, []) else q.1.memTake i.core (unit + dlBeamAt payload) 6272
  let ds := s.ppt.grants.filter (fun g => g.downlink && g.admitted.isSome && Config.isPdcch g.raw && le g.raw 8 2 == i.carrier &&
    g.slot == i.slot && (pdcchSyms payload g.raw).contains i.symbol)
  let r := ds.foldl (fun (r : State × List Pdcch) g =>
    let w := r.1.takeAllAt i.core [(r.1.blockAt g + 48, 4), (r.1.blockAt g + 128, 256)]
    (w.1, r.2 ++ [⟨g.raw, notSent (nth [] w.2 0) || bit g.status 8, vals (nth [] w.2 1), anyP (nth [] w.2 1)⟩])) (b.1, [])
  let prbs := (List.range (carPrb payload)).filter (fun x => !s.underSsb payload p i.slot i.symbol x)
  let t := prbs.foldl (fun t prb => t.precodePrb i payload p unit exps written b.2 r.2 prb) r.1
  let mine := fun (g : Grant) => i.serves g && le g.raw 16 1 == i.symbol && !Config.isPdcch g.raw
  let as := t.takeAllAt i.core ((t.ppt.grants.filter mine).map (fun g => (unit + dlGroupsAt payload + 1600 * (le g.raw 12 2 / 4) + 1568, 4)))
  let ages := ((t.ppt.grants.filter mine).map (·.id)).zip (as.2.map (fun bs => leNat (vals bs)))
  { as.1 with ppt := { as.1.ppt with grants := as.1.ppt.grants.map (fun g =>
      match ages.find? (fun a => a.1 == g.id) with
      | some a => { g with age := a.2 }
      | none => g) } }

/-- A build item writes the guard copy's blocks of its SSB (R83, R123): for every stream the SSB, with the frame's system frame number and
MIB, under the stream's weight of the SSB index, compressed; a block that depends on a poisoned weight is poisoned (R251). -/
def State.buildCopy (s : State) (i : Item) (c : Carrier) : State :=
  let payload := c.payload
  let m := s.mantissa i.carrier true
  let n := prbBytes m
  let sfn := (s.frameSfn i.slot + 1) % 1024
  let rec_ := (c.weights.drop (256 * i.symbol)).take 256
  let w := fun a => (eltOf 1 0 (clean (vals ((rec_.drop (3 * a)).take 3))), (leS (vals rec_) 192 1, (none : Option Nat)))
  let bad := fun a => anyP ((rec_.drop (3 * a)).take 3) || anyP ((rec_.drop 192).take 1)
  let places := (List.range (140 * 2 ^ carScs payload)).flatMap (fun sym => ((List.range (carPrb payload)).filter (fun prb =>
    Config.ssbBlock payload sym prb != 0 && Config.ssbIndex payload sym prb == i.symbol)).map (fun prb => (sym, prb)))
  places.foldl (fun s e => (List.range (streamsOf payload s.eth.flows i.carrier true)).foldl (fun (s : State) a =>
    let row := (List.range 12).map (fun k =>
      let v := Config.ssbRe payload sfn e.1 (12 * e.2 + k)
      dot false [(w a, (⟨v.1, v.2, none⟩, (0, none)))])
    s.memWrite i.core (Config.guardBlock i.carrier (i.outUnit % 256) e.1 a e.2 % 2 ^ 38)
      ((fit 0 n (compress m row)).map (fun b => ⟨b, bad a⟩))) s) s

/-- One matrix record of an SRS result: what the derivation brings in the coefficients in use and the exponents, zeros else; age 0. -/
def derivedRecord (v : Nat → Byte) (size used coeff exps : Nat) : List Byte :=
  (List.range size).map (fun o => if o < 3 * used ∨ (coeff ≤ o ∧ o < coeff + exps) then v o else 0)

/-- A derivation item writes the carrier's SRS result record (R99, R117, R127): its matrices, and last the valid flag. -/
def State.derive (s : State) (i : Item) (payload : List Byte) : State :=
  let a := srsRecord i.carrier
  let v := fun (k o : Nat) => Config.srsResult payload (s.rd64 Rg.DRM_SLOT_COUNT_LO) (8192 * k + o)
  let n := carGroups payload
  let t := (List.range n).foldl (fun (t : State) k =>
    t.memWrite i.core (a + 1600 * k) (clean (derivedRecord (v k) 1600 (carLayersUl payload * carAntUl payload) 1536 8))) s
  let t := (List.range n).foldl (fun (t : State) k =>
    t.memWrite i.core (a + srsDlAt payload + 1600 * k) (clean (derivedRecord (v (n + k)) 1600 512 1536 32))) t
  let t := t.memWrite i.core (a + srsBeamAt payload) (clean (derivedRecord (v (2 * n)) 6272 2048 6144 64))
  let t := (t.memSync i.core).memWrite i.core (a + srsFlagAt payload) (clean (leBytes 4 1))
  { t with ppt := { t.ppt with srs := Map.set 0 t.ppt.srs i.carrier (t.slotCount i.slot + 1) } }

/-- What an item writes for its carrier and, where it has one, its grant. -/
def State.chainWork (s : State) (i : Item) (c : Carrier) (g : Option Grant) : State :=
  match i.work, g with
  | .combining, _ => s.combine i c.payload
  | .estimation, some g => s.estimate i g c.payload
  | .demapping, some g => s.demap i g c.payload
  | .encoding, some g => s.encoded i g
  | .mapping, _ => s.mapSymbol i c.payload
  | .precoding, _ => s.precode i c.payload
  | .ssb, _ => s.buildCopy i c
  | .derive, _ => s.derive i c.payload
  | _, _ => s

/-- Work that writes a store, a guard copy or the SRS result record. -/
def Work.writes (w : Work) : Bool :=
  [Work.combining, .estimation, .demapping, .encoding, .mapping, .precoding, .ssb, .derive].contains w

/-- What an item has done to memory and to its grants by its completion; its writes have their responses. -/
def State.chain (s : State) (i : Item) : State :=
  match s.ppt.carrier i.carrier with
  | some c => if i.work.writes then (s.chainWork i c (s.ppt.grant i.grant)).memSync i.core else s
  | none => s

end Sys2Proof.Machine
end

