-- ==== Sys2Proof/Machine/Drum.lean ====
section
/-! DEFINITION. The other commands of Drum (R38 to R51, R95, R105 to R107, R126): start and stop, resumption after a gap or a step,
watchdogs and completions one by one, results and reports. -/
namespace Sys2Proof.Machine

/-- WATCHDOG_FIRE (R39): the edge of an item in flight has passed while ticks are issued. -/
def execWatchdogFire (item : Nat) (s : State) : Res :=
  .next (match s.drum.item item with
    | some i => if i.inFlight ∧ refFrom s.nowRef i.edge ∧ s.flag Rg.DRM_STATUS Fd.DRM_STATUS_running then s.expire i else s
    | none => s)

/-- STALE_WRITE (R44): a write whose generation is not its unit's. -/
def execStaleWrite (unit : Nat) (gen : Fin 16) (s : State) : Res :=
  .next (if (s.drum.unit unit).gen = gen.val then s else s.stale)

/-- The ingress item that gates an item has ended. -/
def Drum.gateOpen (d : Drum) (i : Item) : Bool :=
  match i.gate with
  | none => true
  | some g => match d.item g with
    | some x => x.ended
    | none => true

/-- GATED_ITEM_START (R95, R127): the item reads its unit from here on (R40); its own watchdog does not keep it from that (R39). -/
def execGatedItemStart (item : Nat) (s : State) : Res :=
  .next (match s.drum.item item with
    | some i =>
      if i.runs ∧ !i.begun ∧ i.gate.isSome ∧ s.drum.gateOpen i then
        s.updItem item (fun i => { i with
          phase := if i.phase = .released then .started else i.phase
          begun := true
          lateInput := i.lateInput || s.drum.inputLate i })
      else s
    | none => s)

/-- A Cupola tag that an item holds: of any cluster, in use, its descriptor naming the item (R38, R130). -/
def State.holdsTag (s : State) (item : Nat) : Bool :=
  s.cpl.any (fun e => e.2.tags.any (fun t => t.2.state != .free && le t.2.desc 4 4 == item))

/-- What an item must have done before it can be complete (R38): a gated one has started, an ingress one has all its blocks (R91), an
egress one has sent its last packet (R122), and no engine command of it is left: every tag is committed and its writes answered. -/
def State.workDone (s : State) (i : Item) : Bool :=
  (i.gate.isNone || i.begun) &&
  (i.work != .ingress || (s.eth.blocks.filter (fun b => b.item == i.id)).all (·.written)) &&
  (i.work != .egress || i.phase == .started) &&
  !s.holdsTag i.id

/-- Entry of a result whose buffer is still to be named: its address goes into the first eight bytes. -/
def withBuffer (entry : List Byte) (addr : Nat) : List Byte := leBytes 8 addr ++ entry.drop 8

/-- Deliver a result whose payload needs a buffer of the host (R106): one is taken and the payload written to it, or the result waits for
the next slot tick. An empty buffer queue counts in ul_enqueue_rejected. DESIGN CHOICE (log entry 186): the rule does not say whether it
is a rejection. -/
def State.deliverPayload (s : State) (q buf : Nat) (entry : List Byte) (flow : Nat) (payload : List PByte) : State :=
  let r := s.qx.dequeue s.ctrlUnit buf
  let t := s.withQx r.1
  if r.2.1 = qOk then
    let a := le (vals r.2.2) 0 8
    ((t.memWrite t.ctrlUnit a payload).memSync t.ctrlUnit).deliver t.ctrlUnit q (withBuffer entry a) flow false
  else
    let t := t.flowBump flow 2 1
    { t with ppt := { t.ppt with retries := t.ppt.retries ++ [⟨q, entry, some buf, flow, false, payload⟩] } }

/-- Status bits of a result that a grant and an item bring: paired, replayed, erased. -/
def resultFlags (g : Grant) (i : Item) : Nat :=
  (g.status &&& (gErased ||| gReplayed)) ||| (if i.half = 0 then 0 else gPairedUl) ||| (if bit i.flags 1 then gReplayed else 0)

/-- The payload of a block that an item has decoded (R106): where its decoder command put it; free bytes where it made none. -/
def State.payloadOf (s : State) (i : Item) (n : Nat) : State × List PByte :=
  if i.outcome.isSome then s.memTake i.dma i.payload n
  else (s.drawn n, (List.range n).map (fun k => ⟨BitVec.ofNat 8 (s.peek k), false⟩))

/-- Deliver the result of a transport block (R106): its payload where it passed. -/
def State.result (s : State) (g : Grant) (i : Item) (pass rescued : Bool) (iters : Nat) : State :=
  let st := resultFlags g i ||| (if pass then gOk else 0) ||| (if rescued then gRescued else 0)
  let t := { s with ppt := s.ppt.updGrant g.id (fun g => { g with answered := true, cluster := i.cluster, iterations := iters }) }
  let n := if pass then ceilDiv (le g.raw 28 4) 8 else 0
  let e := resultBytes g.raw st 0 n iters i.cluster g.sinr
  if pass then
    let p := t.payloadOf i n
    p.1.deliverPayload (answerQueue g.raw) (le g.raw 52 4 % 2 ^ 20) e (le g.raw 0 4) p.2
  else t.deliver t.ctrlUnit (answerQueue g.raw) e (le g.raw 0 4) false

/-- The half that lost the claim, if it still runs, be it past its watchdog, is killed through Cupola and leaves no effect (R105, R237). -/
def State.killHalf (s : State) (o : Item) : State :=
  let ts := ((s.cup o.cluster).tags.filter (fun e => e.2.eng == 1 && e.2.state != .free && le e.2.desc 4 4 == o.id)).map (·.1)
  let t := s.withCx (ts.foldl (fun x t => x.kill o.cluster t) s.cx)
  if o.inFlight then t.updItem o.id (fun i => { i with phase := .complete, outcome := some (2, 0) })
  else t.updItem o.id (fun i => { i with done := i.done || i.phase == .expired })

/-- A half has failed before its watchdog (R105): its decoder found its CRC wrong, not its claim taken. -/
def Item.failed (i : Item) : Bool := i.phase != .expired && (match i.outcome with | some o => o.1 != 0 && o.1 != 2 | none => false)

/-- How a decoding item ended: status and iterations of its decoder command; a free value where it made none. -/
def State.outcomeOf (s : State) (i : Item) : Nat × Nat := i.outcome.getD (s.peek 0 % 2, s.peek 1 % 256)

/-- The outcome of a decoding item (R105, R106): status 0 passes and has claimed the block, 2 passed after the other half, any other
fails. A block that is late already is answered so and not again (R107). -/
def State.decoded (s : State) (g : Grant) (i : Item) : State :=
  let o := s.outcomeOf i
  let other := s.drum.otherHalf i
  let t := { s with free := if i.outcome.isNone then s.free + 2 else s.free }
  let flow := le g.raw 0 4
  let t := t.updItem i.id (fun i => { i with phase := .complete, outcome := some o })
  if o.1 = 2 then t.flowBump flow 4 1
  else if g.answered || (g.status &&& gLate) ≠ 0 then t
  else if o.1 = 0 then
    match other with
    | some h =>
      if h.failed then (t.flowBump flow 3 1).result g i true true o.2 else (t.killHalf h).result g i true false o.2
    | none => t.result g i true false o.2
  else match other with
    | some h =>
      if h.failed then (t.flowBump flow 5 1).result g i false false o.2
      else if h.phase = .expired then { t with ppt := t.ppt.updGrant g.id (fun g => g.mark gLate) }
      else t
    | none => t.result g i false false o.2

/-- The grants whose first symbol a precoding item computes get its cluster (R126; their age comes with `State.precode`). -/
def Parapet.precoded (p : Parapet) (i : Item) : Parapet :=
  { p with grants := p.grants.map (fun g => if i.serves g ∧ le g.raw 16 1 = i.symbol then { g with cluster := i.cluster } else g) }

/-- An item is complete, with what its work brings: what it wrote (log entry 180), the outcome of a decoding, a valid guard copy after
the last SSB build (R123). -/
def State.completes (s : State) (i : Item) : State :=
  let t := (s.chain i).updItem i.id (fun i => { i with phase := .complete })
  match i.work with
  | .decoding => match s.ppt.grant i.grant with
    | some g => s.decoded g i
    | none => t
  | .ssb =>
    let others := t.drum.items.any (fun x => x.work == .ssb && x.outUnit == i.outUnit && x.issue == i.issue && x.phase != .complete)
    let n := 4 * i.carrier + i.outUnit % 256
    if others then t else { t with drum := { t.drum with guards := n :: t.drum.guards.filter (· != n) } }
  | .precoding => { t with ppt := t.ppt.precoded i }
  | _ => t

/-- An item that its watchdog has passed ends (R39): it has made its writes, and leaves no other effect. -/
def State.overruns (s : State) (i : Item) : State :=
  let t := (s.chain i).updItem i.id (fun i => { i with done := true })
  if i.work = .precoding then { t with ppt := t.ppt.precoded i } else t

/-- An item whose unit has gone to another writer ends (R44): its writes are discarded and counted as one (log entry 180), and it is left to
its watchdog (R108). -/
def State.endsStale (s : State) (i : Item) : State := s.stale.updItem i.id (fun i => { i with done := true })

/-- ITEM_COMPLETION (R38): all writes have their responses and all tags are committed. -/
def execItemCompletion (item : Nat) (s : State) : Res :=
  .next (match s.drum.item item with
    | some i =>
      if i.runs ∧ s.workDone i then
        if s.drum.staleItem i then s.endsStale i
        else if i.phase = .expired then s.overruns i
        else if s.onTime i then s.completes i else s
      else s
    | none => s)

/-- LATE_RESULT_DESCRIPTOR (R107): a block whose demapping or decoding was late is answered. DESIGN CHOICE (log entries 179, 187): it carries
cluster 0xFF, 0 iterations, SINR 0 and the paired bit 0, for which the rule gives no values. -/
def execLateResultDescriptor (grant : Nat) (s : State) : Res :=
  .next (match s.ppt.grant grant with
    | some g =>
      if !g.downlink ∧ !g.answered ∧ (g.status &&& gLate) ≠ 0 then
        let t := s.flowBump (le g.raw 0 4) 1 1
        let t := { t with ppt := t.ppt.updGrant grant (fun g => { g with answered := true }) }
        t.deliver t.ctrlUnit (answerQueue g.raw)
          (resultBytes g.raw (gLate ||| (g.status &&& (gErased ||| gReplayed))) 0 0 0 0xFF 0) (le g.raw 0 4) false
      else s
    | none => s)

/-- Last symbol of a grant. -/
def lastSym (raw : List Byte) : Nat := ((grantSyms raw).getLast?).getD 0

/-- The muted symbols of a grant as reported (R126). -/
def Grant.muted (g : Grant) : Nat := if bit g.status 8 then symMask g.raw else g.mutedSyms

/-- Status of a transmission report (R126): complete where nothing went wrong. -/
def Grant.report (g : Grant) (age limit : Nat) : Nat :=
  let bad := (g.status &&& 0x0E) ||| (if g.muted = 0 then 0 else if g.muted = symMask g.raw then gLate else 0x04)
  bad ||| (if bad = 0 then 1 else 0) ||| (g.status &&& gReplayed) ||| (if limit ≤ age then 0x40 else 0)

/-- TRANSMISSION_REPORT (R126): after the egress edge of a grant's last symbol. -/
def execTransmissionReport (grant : Nat) (s : State) : Res :=
  .next (match s.ppt.grant grant with
    | some g =>
      let p := s.plan (le g.raw 8 2) (s.ppt.carPayload (le g.raw 8 2))
      let edge := refShift (BitVec.ofNat 32 (le g.raw 4 4)) (p.egress (lastSym g.raw)).edge
      if g.downlink ∧ g.admitted.isSome ∧ !g.answered ∧ refFrom s.nowRef edge then
        let t := { s with ppt := s.ppt.updGrant grant (fun g => { g with answered := true }) }
        t.deliver t.ctrlUnit (answerQueue g.raw)
          (reportBytes g.raw (g.report g.age (carAgeLimit (s.ppt.carPayload (le g.raw 8 2)))) g.muted g.cluster (min 255 g.age)) (le g.raw 0 4) true
      else s
    | none => s)

/-- Try one rejected enqueue again (R106, R126, R240): it goes to the end of the line where it is rejected once more. -/
def State.retryOne (s : State) (r : Retry) : State :=
  match r.buf with
  | some b => s.deliverPayload r.queue b r.entry r.flow r.payload
  | none => s.deliver s.ctrlUnit r.queue r.entry r.flow r.downlink

/-- REJECTED_ENQUEUE_RETRY (R106, R126, R240): the device retries what was rejected. -/
def execRejectedEnqueueRetry (s : State) : Res :=
  .next (s.ppt.retries.foldl (fun s r => s.retryOne r) { s with ppt := { s.ppt with retries := [] } })

/-- DRUM_ENABLE (R49): a write of 1 to DRM_CTRL.enable. -/
def execDrumEnable (v : Word) (s : State) : Res := .next (s.when (Fd.DRM_CTRL_enable.get v = 1) (s.drumCtrl v))

/-- DRUM_DISABLE (R51): a write of 0 to DRM_CTRL.enable. -/
def execDrumDisable (v : Word) (s : State) : Res := .next (s.when (Fd.DRM_CTRL_enable.get v = 0) (s.drumCtrl v))

/-- DRM_TIME_OFFSET (R31). -/
def offsetReg (regs : SMap Word) : Int := sgn 32 (rdR regs Rg.DRM_TIME_OFFSET).toNat

/-- The start condition of Drum holds (R49): the epoch's step has occurred, or the start is on an estimate. -/
def State.startsNow (s : State) : Bool :=
  s.flag Rg.DRM_STATUS Fd.DRM_STATUS_waiting && (tbStepped s.regs 0 || s.flag Rg.DRM_CTRL Fd.DRM_CTRL_start_mode)

/-- A radio time is the next frame tick (R31, R49). -/
def State.nextFrame (s : State) (t : Nat) : Bool :=
  framed (offsetReg s.regs) t % frameUnits == 0 && decide (s.rt ≤ t) && decide (t < s.rt + frameUnits)

/-- Registers as Drum starts: running, its counts at 0 (R49). -/
def startRegs (regs : SMap Word) : SMap Word :=
  let m := putR regs Rg.DRM_STATUS Fd.DRM_STATUS_running 1
  let m := putR m Rg.DRM_STATUS Fd.DRM_STATUS_waiting 0
  let m := putR m Rg.DRM_STATUS Fd.DRM_STATUS_estimated (b2n (!tbStepped regs 0))
  putR m Rg.DRM_STATUS Fd.DRM_STATUS_master_scs_active (getR regs Rg.DRM_CTRL Fd.DRM_CTRL_master_scs)

/-- Drum starts: what the last run left in its books is gone, since counts and references begin anew. -/
def State.drumStarts (s : State) (t : Nat) : State :=
  let u := s.passTo t
  let u := { u with
    regs := startRegs u.regs
    drum := { u.drum with
      cur := none
      queue := []
      items := []
      units := []
      offset := offsetReg u.regs
      guards := []
      fell := []
      stepAt := none
      faultAt := none }
    ppt := { u.ppt with
      grants := u.ppt.grants.filter (fun g => g.admitted.isNone)
      reserves := []
      srs := []
      srsUsed := []
      unitLast := u.ppt.unitLast.map (fun (e : Nat × Nat) => (e.1, (e.2 - 1) % 2 + 2 * 2 ^ 64 + 1))
      idle := [] }
    eth := { u.eth with blocks := [] } }
  let k : Tick := ⟨t, true, true, 0, 0, 0, 0⟩
  let u := (u.rebudget).issue k
  u.withRep (u.rep.complete (isCmd 0x0104) stOk 0 (u.refOf k))

/-- DRUM_FIRST_TICK (R49, R85). -/
def execDrumFirstTick (t : Nat) (s : State) : Res := .next (if s.startsNow ∧ s.nextFrame t then s.drumStarts t else s)

/-- The tick at which a train resumes, after the last one issued (R48, R50): counts advance by the ticks that air time holds between
them, or by one of each kind where a step has moved radio time back. -/
def State.resumeTick (s : State) (l : Tick) (t : Nat) : Tick :=
  let a := symNo s.scs s.offset l.time
  let b := symNo s.scs s.offset t
  let frame := framed s.offset t % frameUnits == 0
  let n := symsPerFrame s.scs
  if a < b then ⟨t, true, frame, l.symC + (b - a), l.slotC + (b / 14 - a / 14), l.frameC + (b / n - a / n), 0⟩
  else ⟨t, true, frame, l.symC + 1, l.slotC + 1, l.frameC + b2n frame, 0⟩

/-- Symbol ticks that were not issued. -/
def State.lostTicks (s : State) (l : Tick) (t : Nat) : Nat := symNo s.scs s.offset t - symNo s.scs s.offset l.time - 1

/-- Registers of a train that resumes (R48, R50). -/
def resumeRegs (regs : SMap Word) (lost : Nat) : SMap Word :=
  let m := putR regs Rg.DRM_STATUS Fd.DRM_STATUS_realigned 1
  let m := putR m Rg.DRM_STATUS Fd.DRM_STATUS_running 1
  let m := putR m Rg.DRM_STATUS Fd.DRM_STATUS_estimated (b2n (!tbStepped regs 0))
  wrR m Rg.DRM_LOST_TICKS (BitVec.ofNat 32 (min 0xFFFFFFFF lost))

/-- A slot tick lies at least a full master slot after a radio time, and no slot tick before it does (R48). -/
def State.firstSlotAfter (s : State) (from_ t : Nat) : Bool :=
  let n := symNo s.scs s.offset t
  kindsAt s.scs s.offset t != none && n % 14 == 0 && decide (from_ + slotUnits s.scs ≤ t) &&
    decide (symTime s.scs s.offset (n - 14) < from_ + slotUnits s.scs)

/-- Items whose issue tick or watchdog edge fell within the gap are late upstream (R48). -/
def State.gapLate (s : State) (now : Word) : State :=
  (s.drum.items.filter (fun i => (i.phase == .admitted && refAfter now i.issue) || (i.inFlight && refAfter now i.edge))).foldl
    (fun s i => s.lateItem i false) s

/-- DRUM_RESUME (R48, R50): the resume tick after a fatal timing fault, once the reset, which has emptied the sequencer, is
complete. A step within the gap leaves the resumption to the realignment (R49). -/
def execDrumResume (t : Nat) (s : State) : Res :=
  .next (match s.drum.faultAt, s.drum.last with
    | some f, some l =>
      if s.drum.stepAt.isNone ∧ !s.boot.resetUnits.contains 1 ∧ s.firstSlotAfter f t ∧ s.rt ≤ t then
        let u := s.passTo t
        let k := u.resumeTick l t
        let u := { u with
          regs := resumeRegs u.regs (u.lostTicks l t)
          drum := { u.drum with faultAt := none, cur := none, queue := [] } }
        (u.gapLate (u.refOf k)).issue k
      else s
    | _, _ => s)

/-- A frame tick lies at least a full master slot after a radio time, and no frame tick before it does (R49). -/
def State.firstFrameAfter (s : State) (from_ t : Nat) : Bool :=
  framed s.offset t % frameUnits == 0 && decide (from_ + slotUnits s.scs ≤ t) && decide (t < from_ + slotUnits s.scs + frameUnits)

/-- DRUM_REALIGNMENT (R49, R50): the train resumes on the stepped base, once every tick issued before the step is handled and a reset
of Drum, where the step fell in the gap of a fault, is complete. -/
def execDrumRealignment (t : Nat) (s : State) : Res :=
  .next (match s.drum.stepAt, s.drum.last with
    | some f, some l =>
      if s.drum.cur.isNone ∧ s.drum.queue = [] ∧ !s.boot.resetUnits.contains 1 ∧ s.firstFrameAfter f t ∧ s.rt ≤ t then
        let u := s.passTo t
        let k := u.resumeTick l t
        let regs := resumeRegs u.regs (u.lostTicks l t)
        let u := { u with
          regs := putR regs Rg.DRM_FAULT Fd.DRM_FAULT_timebase_step 1
          drum := { u.drum with stepAt := none, faultAt := none } }
        let u := u.raise 3 1 []
        let u := (u.drum.items.filter (·.inFlight)).foldl (fun u i => u.lateItem i false) u
        u.dropUnreleased.issue k
      else s
    | _, _ => s)

end Sys2Proof.Machine
end

