-- ==== Sys2Proof/Machine/Mailbox.lean ====
section
/-! DEFINITION. Psiwyn takes the request of a mailbox: the checks of R57 before the payload, relay forwarding (R70), the answer; the
device and expert commands (R76 to R81). -/
namespace Sys2Proof.Machine

/-- What a command answers: the state with its effect, status, detail, response payload, and the payload kept while it is pending. -/
structure Ans where
  s : State
  status : Nat
  detail : Nat
  payload : List Byte
  keep : List Byte

/-- A refusal: no other action (R57). -/
def State.no (s : State) (c : Cmd) (status detail : Nat) : Ans := ⟨s, status, detail, [], c.payload⟩

/-- A final status OK with an effect and a response. -/
def State.ok (s : State) (c : Cmd) (payload : List Byte) : Ans := ⟨s, stOk, 0, payload, c.payload⟩

/-- Accepted, to complete later. -/
def State.later (s : State) (c : Cmd) : Ans := ⟨s, stPending, 0, [], c.payload⟩

/-- Codes of the catalogue beside the expert codes of the functions (R74). -/
def catalogue : List Nat :=
  [0x0001, 0x0002, 0x0003, 0x0004, 0x0005, 0x0080, 0x0081, 0x0082, 0x0083, 0x0084, 0x0101, 0x0102, 0x0103, 0x0104, 0x0105,
   0x0201, 0x0202, 0x0203, 0x0204, 0x0301, 0x0302, 0x0303, 0x0401, 0x0402, 0x0501, 0x0502, 0x0503, 0x0504, 0x0601, 0x0602,
   0x0603, 0x0701, 0x0702, 0x0801, 0x0802, 0x0901, 0x0A01, 0x0A02, 0x0A03, 0x0B01, 0x0B02, 0x0B03]

/-- An expert read or write code of a function (R81). -/
def fnExpert (code low : Nat) : Bool := code % 256 == low && decide (1 ≤ code / 256) && decide (code / 256 ≤ 0x0B)

/-- A code that exists (R74, R81). -/
def isCode (code : Nat) : Bool := catalogue.contains code || fnExpert code 0x80 || fnExpert code 0x81

/-- An expert code has bit 7 set (R74). -/
def isExpert (code : Nat) : Bool := code.testBit 7

/-- Payload length of the commands that have one length. -/
def fixedLength : Nat → Option Nat
  | 0x0001 => some 0 | 0x0003 => some 16 | 0x0005 => some 8 | 0x0080 => some 16 | 0x0081 => some 0 | 0x0082 => some 16
  | 0x0084 => some 8 | 0x0101 => some 256 | 0x0102 => some 4 | 0x0103 => some 4 | 0x0104 => some 8 | 0x0105 => some 0
  | 0x0201 => some 20 | 0x0202 => some 8 | 0x0203 => some 20 | 0x0204 => some 40 | 0x0301 => some 0 | 0x0302 => some 4
  | 0x0303 => some 4 | 0x0401 => some 16 | 0x0501 => some 28 | 0x0502 => some 24 | 0x0503 => some 0 | 0x0504 => some 32
  | 0x0601 => some 16 | 0x0602 => some 0 | 0x0603 => some 16 | 0x0701 => some 24 | 0x0702 => some 8 | 0x0801 => some 20
  | 0x0802 => some 0 | 0x0A01 => some 8 | 0x0A02 => some 4 | 0x0A03 => some 12 | 0x0B01 => some 16 | 0x0B02 => some 4
  | _ => none

/-- Whether a length fits a command (R57, R79, R81, R316; the words of Lantern). -/
def lengthFits (code len : Nat) (p : List Byte) : Bool :=
  match fixedLength code with
  | some n => len == n
  | none =>
    if code = 0x0004 then decide (1 ≤ le p 0 2) && decide (le p 0 2 ≤ 97) && len == 4 + 4 * le p 0 2
    else if code = 0x0083 ∨ fnExpert code 0x81 then decide (16 ≤ len) && len == 16 + 4 * le p 8 4
    else if fnExpert code 0x80 then len == 16
    else if code = 0x0402 then decide (8 ≤ len) && len == 8 + 16 * le p 0 4
    else if code = 0x0901 then len == 56 || len == 312
    else true

/-- The CRC that a request must carry (R56). -/
def requestCrc (c : Cmd) : Nat := (crc16 (splice c.head 28 [0, 0] ++ c.payload)).toNat

/-- Another command holds the tag (R58): one that became outstanding before. -/
def tagTaken (cs : List Cmd) (c : Cmd) : Bool := (cs.takeWhile (fun x => x != c)).any (fun x => x.tag == c.tag && x.dev == c.dev)

/-- The level of a request (R76): that of its mailbox, or the one that a relayed request carries. -/
def HostIf.levelOf (h : HostIf) (n : Nat) (c : Cmd) : Bool :=
  match c.relayed with
  | some q => q.level
  | none => h.levels.getLsbD n

/-- The device is in the FAILED stage (R404). -/
def State.failed (s : State) : Bool := bootStage s.regs == 15

/-- The first failure of a request before its payload fields: status and detail (R57, R58, R70, R74 to R76, R404). -/
def State.verdict (s : State) (n : Nat) (c : Cmd) : Option (Nat × Nat) :=
  let len := le c.head 12 4
  if le c.head 0 4 ≠ 0x50535733 then some (stBadMagic, 0)
  else if le c.head 4 1 ≠ 3 then some (stBadVersion, 0x0303)
  else if le c.head 28 2 ≠ requestCrc c then some (stBadCrc, 0)
  else if 4064 < len ∨ len % 4 ≠ 0 ∨ !lengthFits c.code len c.payload then some (stBadLength, 0)
  else if c.dev ≠ 0 ∧ !(relayMode s.regs && decide (c.dev < 64) && decide (c.dev < s.host.relay.length)) then some (stBadDevice, c.dev)
  else if !isCode c.code || (isExpert c.code && !s.host.levelOf n c) then some (stUnknown, 0)
  else if c.tag = 0 ∨ tagTaken s.host.cmds c then some (stTagInUse, 0)
  else if s.failed && !(n == 0 && [0x0001, 0x0B01, 0x0B02].contains c.code) then some (stWrongState, 0)
  else none

/-- The links from the root to a device over the tree as numbered (R70, R307). -/
def relayPath (relay : List RelayDev) : Nat → Nat → List Nat
  | 0, _ => []
  | f + 1, d =>
    let e := nth ⟨0, 0⟩ relay d
    if e.parent = 0 then [e.link] else relayPath relay f e.parent ++ [e.link]

/-- Forward a request hop by hop (R70, R307): one relay message that carries it whole, with the level of its mailbox (R76; log entry 45). -/
def State.forwardCmd (s : State) (n : Nat) (c : Cmd) : State :=
  let path := relayPath s.host.relay 64 c.dev
  let l := path.headD 0
  let body := c.head ++ c.payload
  let k : Packet := ⟨5, false, 0, 0, c.dev, c.tag, body.length, relayAddress (s.host.levels.getLsbD n) path, 0, clean body⟩
  { s with
    regs := if c.lost then s.regs else putMbx s.regs n mBusy
    host := { s.host with cmds := replaceCmd s.host.cmds c { c with phase := .busy } }
    span := s.span.send l k }

/-- Registers that the acceptance of a command may change before it commits (R73): DRUM_START, SPAN_LINK_CONFIG, EYE_SCAN,
POWER_STATE_SET, SNAPSHOT_REQUEST. -/
def acceptRegs (c : Cmd) : List Nat :=
  let p := c.payload
  match c.code with
  | 0x0104 => [Rg.DRM_CTRL, Rg.DRM_TIME_OFFSET, Rg.PPT_SLOT_BUDGET, Rg.PPT_GUARD_BUDGET]
  | 0x0601 => [Rg.SPN_TIMEOUT, Rg.SPN_CTRL, Rg.SPN_LINK_CTRL (le p 0 1)] ++ (List.range 8).map Rg.SPN_ROUTE
  | 0x0603 => [Rg.SPN_SCAN_ADDR_LO (le p 0 1), Rg.SPN_SCAN_ADDR_LO (le p 0 1) + 4, Rg.SPN_SCAN_CTRL (le p 0 1), Rg.SPN_SCAN_STATUS (le p 0 1)]
  | 0x0801 => [Rg.PWR_KEEP_LO, Rg.PWR_KEEP_LO + 4, Rg.PWR_DEEP_CFG] ++
      (if isCluster (le p 2 2) then [Rg.PWR_TILE_KEEP (le p 2 2 - 2)] else [])
  | 0x0A02 => [Rg.EVT_SNAP_CTRL]
  | _ => []

/-- Those registers as they are. -/
def State.saved (s : State) (c : Cmd) : List (Nat × Word) := (acceptRegs c).map (fun a => (a, s.rd a))

/-- Answer a request from a command's own result. -/
def Ans.give (a : Ans) (n : Nat) (c : Cmd) (undo : List (Nat × Word) := []) : State :=
  let c' := { c with payload := a.keep, commit := .slot, undo := undo }
  let t := { a.s with host := { a.s.host with cmds := replaceCmd a.s.host.cmds c c' } }
  t.withRep (t.rep.respond n c' a.status a.detail a.payload)

/-- A command that was posted before, in another mailbox, touches an object of this one and has not been taken (R64). -/
def HostIf.behind (h : HostIf) (c : Cmd) : Bool :=
  (h.cmds.takeWhile (fun x => x != c)).any (fun x => x.phase == .posted && x.mbx != c.mbx && sameObject x c)

/-- The request that Psiwyn would take next from a mailbox (R64); none while a takeover is in progress (R73, R410). -/
def State.waiting (s : State) (n : Nat) : Option Cmd :=
  if s.flag Rg.PCE_MBX_GLOBAL Fd.PCE_MBX_GLOBAL_takeover then none else (s.host.request n).filter (fun c => !s.host.behind c)

/-- Psiwyn takes the oldest request of mailbox `n` where it is one of those that `mine` picks and passes the checks before its payload;
`f` is its command, `post` what follows a PENDING answer. -/
def State.serve (s : State) (n : Nat) (mine : Cmd → Bool) (f : State → Cmd → Ans) (post : Cmd → State → State) : State :=
  match s.waiting n with
  | none => s
  | some c =>
    if s.verdict n c ≠ none ∨ !mine c then s
    else if c.dev ≠ 0 then
      if c.code = 0x0080 ∨ (c.code = 0x0005 ∧ n ≠ 0) then (s.no c stWrongState 0).give n c else s.forwardCmd n c
    else
      let a := f s c
      let t := a.give n c (s.saved c)
      if a.status = stPending then post { c with payload := a.keep } t else t

/-- Nothing follows the answer. -/
def rest : Cmd → State → State := fun _ s => s

/-- A request for one code. -/
def forCode (code : Nat) (c : Cmd) : Bool := c.code == code

/-- INVALID_REQUEST (R57): the first failure is answered, and nothing else happens. -/
def execInvalidRequest (n : Fin 64) (s : State) : Res :=
  .next (match s.waiting n with
    | none => s
    | some c => match s.verdict n c with
      | some e => (s.no c e.1 e.2).give n c
      | none => s)

/-- The lowest offset of a payload field that fails its check, the checks being in the order in which they are made (R57). -/
def firstBad? (checks : List (Nat × Bool)) : Option Nat := (checks.find? (fun e => !e.2)).map (·.1)

/-- Check payload fields, then go on (R57). -/
def State.checked (s : State) (c : Cmd) (checks : List (Nat × Bool)) (go : Ans) : Ans :=
  match firstBad? checks with
  | some off => s.no c stBadParam off
  | none => go

/-- A field lies in a range. -/
def within (lo hi n : Nat) : Bool := decide (lo ≤ n) && decide (n ≤ hi)

/-- This device's index, its parent's, and the link towards it (R77): 0 and 0xFF in native mode. -/
def State.relaySelf (s : State) : RelaySelf := if relayMode s.regs then s.host.self else ⟨0, 0xFF, 0xFF⟩

/-- IDENTIFY response (R77). -/
def State.identity (s : State) : List Byte :=
  let h := s.boot.running.header
  leBytes 4 0x4864 ++ leBytes 1 0xB0 ++ leBytes 1 3 ++ leBytes 1 s.relaySelf.index ++ leBytes 1 (b2n (relayMode s.regs)) ++ leBytes 4 (imgVersion h) ++
    leBytes 1 (imgSecurity h) ++ leBytes 1 (activePair s.regs) ++ leBytes 1 (bootStage s.regs) ++
    leBytes 1 (b2n (s.boot.pair0 == .standby || s.boot.pair1 == .standby)) ++ fit 0 16 s.boot.uniqueId ++
    leBytes 2 (dramSize s.regs / 0x40000000) ++ leBytes 1 s.relaySelf.parent ++ leBytes 1 s.relaySelf.link ++ leBytes 1 (ownIndex s.regs) ++ leBytes 11 0

/-- IDENTIFY (R77). -/
def execIdentify (n : Fin 64) (s : State) : Res := .next (s.serve n (forCode 0x0001) (fun s c => s.ok c s.identity) rest)

/-- PING (R77). -/
def execPing (n : Fin 64) (s : State) : Res := .next (s.serve n (forCode 0x0002) (fun s c => s.ok c c.payload) rest)

/-- Set up the notification ring (R78): from entry 0 with phase 1; what waits is written once it is enabled (R68). -/
def Rep.ringSetup (r : Rep) (p : List Byte) : Rep :=
  let regs := putR r.regs Rg.PCE_NRING_PRODUCER Fd.PCE_NRING_PRODUCER_producer 0
  let regs := putR regs Rg.PCE_NRING_PRODUCER Fd.PCE_NRING_PRODUCER_phase 1
  { r with
    regs := putR regs Rg.PCE_NRING_CONSUMER Fd.PCE_NRING_CONSUMER_consumer 0
    host := { r.host with ring :=
      { addr := le p 0 8, sizeLog := le p 8 1, enabled := bit (le p 9 1) 0, fill := 0, seq := r.host.ring.seq } } }.drainAll

/-- NRING_SETUP (R78). -/
def execNringSetup (n : Fin 64) (s : State) : Res :=
  .next (s.serve n (forCode 0x0003) (fun s c =>
    s.checked c [(0, le c.payload 0 8 % 4096 == 0), (8, within 8 16 (le c.payload 8 1))]
      ((s.withRep (s.rep.ringSetup c.payload)).ok c [])) rest)

/-- The entries of MSIX_MAP: source and vector (R79). -/
def msixEntries (p : List Byte) : List (Nat × Nat) := (List.range (le p 0 2)).map (fun i => (le p (4 + 4 * i) 2, le p (6 + 4 * i) 1))

/-- The vectors after MSIX_MAP, entries in order (R79). -/
def vectorsAfter (v : SMap Nat) (es : List (Nat × Nat)) : SMap Nat := es.foldl (fun v e => Map.insert e.1 e.2 (Map.erase e.1 v)) v

/-- MSIX_MAP (R79). -/
def execMsixMap (n : Fin 64) (s : State) : Res :=
  .next (s.serve n (forCode 0x0004) (fun s c =>
    let es := msixEntries c.payload
    let checks := ((List.range es.length).zip es).flatMap (fun e => [(4 + 4 * e.1, within 0 96 e.2.1), (6 + 4 * e.1, within 0 63 e.2.2)])
    let h := { s.host with vectors := vectorsAfter s.host.vectors es }
    s.checked c checks (({ s with host := h }).ok c ((List.range 97).map (fun i => BitVec.ofNat 8 (vectorOf h i)) ++ leBytes 3 0))) rest)

/-- The levels after LEVEL_SET (R76): mailbox 0 stays basic. -/
def levelMask (p : List Byte) : BitVec 64 := BitVec.ofNat 64 (le p 0 8 / 2 * 2)

/-- LEVEL_SET (R76). -/
def execLevelSet (n : Fin 64) (s : State) : Res :=
  .next (s.serve n (forCode 0x0005) (fun s c =>
    if n.val ≠ 0 then s.no c stWrongState 0
    else ({ s with host := { s.host with levels := levelMask c.payload } }).ok c (leBytes 8 (levelMask c.payload).toNat)) rest)

/-- EXPERT_ACQUIRE (R71, R80). -/
def execExpertAcquire (n : Fin 64) (s : State) : Res :=
  .next (s.serve n (forCode 0x0080) (fun s c =>
    let p := c.payload
    let l : Lease := { mbx := n, base := le p 0 8, periodMs := le p 8 4, rw := le p 12 1 == 1 }
    s.checked c [(0, le p 0 8 % 0x800000 == 0), (8, within 1 60000 (le p 8 4)), (12, within 0 1 (le p 12 1))]
      (match s.host.lease with
      | some h => if h.mbx ≠ n.val then s.no c stExpertHeld h.mbx
          else ({ s with host := { s.host with lease := some l } }).ok c (leBytes 4 l.periodMs)
      | none => ({ s with host := { s.host with lease := some l } }).ok c (leBytes 4 l.periodMs))) rest)

/-- EXPERT_RELEASE (R72, R80). -/
def execExpertRelease (n : Fin 64) (s : State) : Res :=
  .next (s.serve n (forCode 0x0081) (fun s c =>
    match s.host.lease with
    | some h => if h.mbx = n.val then ({ s with host := { s.host with lease := none } }).ok c [] else s.no c stWrongState 0
    | none => s.no c stWrongState 0) rest)

/-- An expert read of `k` words in order (R81): the state, the words, and whether one met a decode error, which reads 0. -/
def State.readWords (s : State) (a k : Nat) : State × List Byte × Bool :=
  (List.range k).foldl (fun (r : State × List Byte × Bool) i =>
    let x := a + 4 * i
    let bad := (r.1.decodeBad hostAgent x 4).isSome
    (r.1.busRead hostAgent x 4, r.2.1 ++ (if bad then leBytes 4 0 else vals (r.1.busBytes hostAgent x 4)), r.2.2 || bad)) (s, [], false)

/-- An expert write of words in order (R72, R81): the state, the words written, the index of the first that was discarded. -/
def State.writeWords (s : State) (a : Nat) (p : List Byte) (k : Nat) : State × Nat × Option Nat :=
  (List.range k).foldl (fun (r : State × Nat × Option Nat) i =>
    let x := a + 4 * i
    let t := r.1.expertWrite x (clean ((p.drop (16 + 4 * i)).take 4))
    if r.1.denies x then (t, r.2.1, r.2.2.or (some i)) else (t, r.2.1 + 1, r.2.2)) (s, 0, none)

/-- Register windows of a function's expert codes (R81; log entry 46). -/
def fnWindows : Nat → List Nat
  | 0x1 => [0] | 0x2 => [1] | 0x3 => [2, 3, 4] | 0x4 => [9] | 0x5 => [11, 12] | 0x6 => [8] | 0x7 => [6, 7] | 0x8 => [13] | 0x9 => [14]
  | 0xA => [15, 16] | 0xB => [5, 17]
  | _ => []

/-- Whether a range of words lies in the register blocks of a function (R81). -/
def fnCovers (f a k : Nat) : Bool := (List.range k).all (fun i => isReg (a + 4 * i) && (fnWindows f).contains (winOf (a + 4 * i)))

/-- The checks of an expert read or write (R81). -/
def expertChecks (p : List Byte) (most : Nat) : List (Nat × Bool) := [(0, le p 0 8 % 4 == 0), (8, within 1 most (le p 8 4))]

/-- An expert read in a message (R81). -/
def State.expertReads (s : State) (c : Cmd) : Ans :=
  let r := s.readWords (le c.payload 0 8) (le c.payload 8 4)
  ⟨r.1, stOk, b2n r.2.2, r.2.1, c.payload⟩

/-- An expert write in a message (R81). -/
def State.expertWrites (s : State) (c : Cmd) : Ans :=
  let r := s.writeWords (le c.payload 0 8) c.payload (le c.payload 8 4)
  r.1.ok c (leBytes 4 r.2.1 ++ leBytes 4 (r.2.2.getD 0xFFFFFFFF))

/-- EXPERT_READ (R81). -/
def execExpertRead (n : Fin 64) (s : State) : Res :=
  .next (s.serve n (forCode 0x0082) (fun s c => s.checked c (expertChecks c.payload 1016) (s.expertReads c)) rest)

/-- EXPERT_WRITE (R72, R81). -/
def execExpertWrite (n : Fin 64) (s : State) : Res :=
  .next (s.serve n (forCode 0x0083) (fun s c => s.checked c (expertChecks c.payload 1012) (s.expertWrites c)) rest)

/-- EXPERT_CLASS (R72, R81). -/
def execExpertClass (n : Fin 64) (s : State) : Res :=
  .next (s.serve n (forCode 0x0084) (fun s c => s.ok c (leBytes 4 (regClassOf (le c.payload 0 8)))) rest)

/-- A function's expert read (R74, R81). -/
def execFunctionExpertRead (n : Fin 64) (s : State) : Res :=
  .next (s.serve n (fun c => fnExpert c.code 0x80) (fun s c =>
    s.checked c (expertChecks c.payload 1016)
      (if fnCovers (c.code / 256) (le c.payload 0 8) (le c.payload 8 4) then s.expertReads c else s.no c stExpertDenied 0)) rest)

/-- A function's expert write (R72, R74, R81). -/
def execFunctionExpertWrite (n : Fin 64) (s : State) : Res :=
  .next (s.serve n (fun c => fnExpert c.code 0x81) (fun s c =>
    s.checked c (expertChecks c.payload 1012)
      (if fnCovers (c.code / 256) (le c.payload 0 8) (le c.payload 8 4) then s.expertWrites c else s.no c stExpertDenied 0)) rest)

end Sys2Proof.Machine
end

