-- ==== Sys2Proof/Machine/Radio.lean ====
section
/-! DEFINITION. The radio, admission and cluster commands of the mailbox (R82 to R87, R184 to R186, R414). -/
namespace Sys2Proof.Machine

/-- A command that commits at a tick (R65): while Drum issues no ticks it takes effect at once and is answered OK; else it waits. -/
def State.atTick (s : State) (c : Cmd) (payload keep : List Byte) : Ans :=
  if s.drumLive then ⟨s, stPending, 0, payload, keep⟩
  else ⟨s.effect { c with payload := keep }, stOk, 0, payload, keep⟩

/-- Bandwidths of an LTE carrier in units of 100 kHz (R82). -/
def lteBands : List Nat := [14, 30, 50, 100, 150, 200]

/-- PRB counts by bandwidth (TS 36.101, TS 38.101-1, TS 38.101-2; log entry 47): for LTE and for the NR spacings. -/
def prbTable : Nat → List (Nat × Nat)
  | 0 => [(50, 25), (100, 52), (150, 79), (200, 106), (250, 133), (300, 160), (350, 188), (400, 216), (450, 242), (500, 270)]
  | 1 => [(50, 11), (100, 24), (150, 38), (200, 51), (250, 65), (300, 78), (350, 92), (400, 106), (450, 119), (500, 133), (600, 162),
      (700, 189), (800, 217), (900, 245), (1000, 273)]
  | 2 => [(100, 11), (150, 18), (200, 24), (250, 31), (300, 38), (350, 44), (400, 51), (450, 58), (500, 65), (600, 79), (700, 93),
      (800, 107), (900, 121), (1000, 135)]
  | 3 => [(500, 32), (1000, 66)]
  | _ => [(14, 6), (30, 15), (50, 25), (100, 50), (150, 75), (200, 100)]

/-- The PRB count is the one of the standard for the bandwidth and spacing (R82). -/
def prbFits (p : List Byte) : Bool := (prbTable (if carRat p = 1 then 4 else le p 3 1)).contains (le p 4 2, le p 6 2)

/-- A bandwidth that the carrier's kind may have (R82). -/
def bandFits (p : List Byte) : Bool :=
  let b := le p 4 2
  if carRat p = 1 then lteBands.contains b else if le p 3 1 = 3 then b == 500 || b == 1000 else within 50 1000 b

/-- The checks of one CORESET entry (R83, R112). -/
def coresetChecks (p : List Byte) (i : Nat) : List (Nat × Bool) :=
  let o := 64 + 8 * i
  let fl := le p (o + 6) 1
  if !bit fl 0 then []
  else
    [(o, within 0 3 (le p o 1)), (o + 1, within 1 3 (le p (o + 1) 1)), (o, decide (le p o 1 + le p (o + 1) 1 ≤ 4)),
     (o + 2, le p (o + 2) 2 % 6 == 0), (o + 4, within 6 270 (le p (o + 4) 2) && le p (o + 4) 2 % 6 == 0),
     (o + 6, decide (fl / 4 % 4 ≤ 2) && decide (fl / 16 % 4 ≤ 2))]

/-- The payload checks of CARRIER_ADD in order of offset; one that combines fields follows the last of them (R28, R57, R82, R83, R93). DESIGN
CHOICE (log entry 188): a 240 kHz SSB is accepted under every master spacing; R28 permits it under 120 kHz and forbids it nowhere. -/
def carrierChecks (free : Bool) (p : List Byte) : List (Nat × Bool) :=
  let rat := le p 2 1
  let lte := rat == 1
  let dss := le p 52 2
  let ctl := le p 54 2
  [(0, within 0 511 (le p 0 2) && free), (2, within 0 2 rat), (3, within 0 3 (le p 3 1)), (2, !lte || le p 3 1 == 0),
   (2, bandFits p), (6, within 6 275 (le p 6 2)), (3, prbFits p), (8, within 1 64 (le p 8 1)), (9, within 1 64 (le p 9 1)),
   (10, decide (1 ≤ le p 10 1)), (11, within 0 8 (le p 11 1)), (12, within 0 1 (le p 12 1)), (13, !bit (le p 13 1) 0),
   (14, within 0 1007 (le p 14 2)), (2, !lte || within 0 503 (le p 14 2)), (12, le p 12 1 == 1 || le p 16 4 == le p 20 4),
   (24, within 0 3 (le p 24 1)), (25, within 1 64 (le p 25 1)), (2, !lte || le p 25 1 == 1), (26, within 0 5 (le p 26 1)),
   (27, within 0 23 (le p 27 1)), (44, within 0 320 (le p 44 2)), (46, within 0 837 (le p 46 2)), (49, within 0 15 (le p 49 1)),
   (2, rat == 2 || dss == 0), (52, rat != 2 || (decide (dss % 4 ≤ 2) && decide (dss / 4 % 8 ≤ 5))),
   (2, lte || ctl == 0), (54, !lte || (decide (ctl % 4 ≤ 2) && decide (1 ≤ ctl / 32 % 4))),
   (56, le p 56 8 % 64 == 0), (13, bit (le p 13 1) 1 || le p 56 8 == 0)] ++ (List.range 16).flatMap (coresetChecks p)

/-- Weighted streams of a carrier in thousandths (R16). -/
def weightOf (flows : List EFlow) (k : Nat) (p : List Byte) : Nat :=
  max (streamsOf p flows k true) (streamsOf p flows k false) * le p 4 2 * (if carRat p ≠ 1 ∧ le p 3 1 = 3 then 4 else 1)

/-- The load of the antenna streams of a set of carriers (R16). -/
def streamWeight (flows : List EFlow) (cs : List (Nat × List Byte)) : Nat := (cs.map (fun e => weightOf flows e.1 e.2)).sum

/-- A carrier of FR2 (R15). -/
def isFr2 (p : List Byte) : Bool := carRat p != 1 && le p 3 1 == 3

/-- The ring of a direction overflows (R42). -/
def ringFull (cs : List (Nat × List Byte)) (flows : List EFlow) (downlink : Bool) : Bool :=
  decide (symbolRing < ((ringSizes cs flows downlink).map (·.2)).sum)

/-- Either ring overflows (R42). -/
def ringsFull (cs : List (Nat × List Byte)) (flows : List EFlow) : Bool := ringFull cs flows false || ringFull cs flows true

/-- Carriers in use with their payloads. -/
def State.cells (s : State) : List (Nat × List Byte) := s.ppt.inUse.map (fun e => (e.1, e.2.payload))

/-- The limit that a set of carriers, the new one last, exceeds (R15, R16, R27, R42, R60). DESIGN CHOICE (log entry 217): an LTE carrier counts
against R16 even beside an NR carrier that shares its spectrum, since no field of R82 pairs the two. -/
def State.carrierLimit (s : State) (cs : List (Nat × List Byte)) (p : List Byte) : Option Nat :=
  let waits := s.flag Rg.DRM_STATUS Fd.DRM_STATUS_waiting
  if 1024000 < streamWeight s.eth.flows cs then some 1
  else if 512 < cs.length then some 2
  else if 8 < (cs.filter (fun e => isFr2 e.2)).length then some 3
  else if 16 < carLayersDl p then some 4
  else if ringsFull cs s.eth.flows then some 6
  else if (s.drumLive || waits) ∧ s.planScs < carScs p then some 9
  else none

/-- Items of a frame that stand whatever grants come (R155), by the slots of a frame: ingress, mapping, precoding and egress of every slot,
what `Config.slotWork` brings with the combining of its symbols, the SSB builds. -/
def State.fixedItems (s : State) : List Item :=
  s.ppt.inUse.flatMap (fun e =>
    let p := s.plan e.1 e.2.payload
    let ul := carLayersUl e.2.payload != 0
    (List.range (slotsPerFrame s.planScs / p.r)).flatMap (fun j =>
      let slot := tickRef (protBase + j * p.r) 0
      let work := fun k => (List.range 14).filter (fun x => (Config.slotWork e.2.payload j).contains (k, x))
      (if ul then ulSlotItems p slot e.1 j 0 ((List.range 14).filter (fun x => (work 1).contains x || (work 2).contains x)) ++ srsItems p slot e.1 j 0 (work 0) ++
        (work 1).map (slotWorkItem p slot e.1 j true) ++ (work 2).map (slotWorkItem p slot e.1 j false) else []) ++
      (List.range 14).map (mapItem p slot e.1 j 0 0) ++ dlSlotItems p slot e.1 j 0) ++
    (if carSsb e.2.payload then buildItems p (tickRef protBase 0) e.1 0 (symsPerFrame s.planScs) e.2.payload else []))

/-- Symbol of the frame in which an item of `State.fixedItems` issues. -/
def issueSym (syms : Nat) (i : Item) : Nat := (refSlot i.issue * 14 + refSym i.issue + syms - protBase * 14 % syms) % syms

/-- No tick of a frame needs more than 4,096 releases (R46, R159). -/
def State.releasesFit (s : State) : Bool :=
  let is := s.fixedItems
  let n := symsPerFrame s.planScs
  let at_ := is.map (issueSym n)
  decide (is.length ≤ releaseLimit) || (List.range n).all (fun k => decide ((at_.filter (· == k)).length ≤ releaseLimit))

/-- Every carrier's plan holds (R43, R94, R114), and the plans together (R159). -/
def State.plansHold (s : State) : Bool :=
  s.ppt.inUse.all (fun e => (s.plan e.1 e.2.payload).ok (carLayersUl e.2.payload != 0) true (ctlSyms e.2.payload)) && s.releasesFit

/-- MTU of a port. -/
def portMtu (regs : SMap Word) (p : Nat) : Nat := getR regs (Rg.ETH_PORT_CTRL p) Fd.ETH_PORT_CTRL_mtu

/-- Wire bytes of one stream and symbol at full allocation (R316, R320). -/
def wireBytes (mtu prbs mantissa : Nat) : Nat :=
  prbs * prbBytes mantissa + ceilDiv prbs (max 1 ((mtu - 18) / prbBytes mantissa)) * 60

/-- Wire bits per second of one entry of the flow map (R316). -/
def State.flowRate (s : State) (f : EFlow) : Nat :=
  match s.ppt.carrier f.carrier with
  | none => 0
  | some c => wireBytes (portMtu s.regs f.port) (carPrb c.payload) f.mantissa * 8 * 14000 * 2 ^ carScs c.payload

/-- MAC rate of a port in bits per second (R311). -/
def macRate (regs : SMap Word) (p : Nat) : Nat := if portMode regs p = 2 then 400000000000 else 100000000000

/-- A port's wire rate in one direction exceeds 95 % of its MAC rate (R316). -/
def State.overRate (s : State) (flows : List EFlow) (port dir : Nat) : Bool :=
  decide (95 * macRate s.regs port < 100 * ((flows.filter (fun f => f.port == port && f.dir == dir)).map s.flowRate).sum)

/-- A port's wire rate is exceeded in some direction (R316). -/
def State.anyOver (s : State) : Bool :=
  (List.range 32).any (fun q => s.overRate s.eth.flows q 0 || s.overRate s.eth.flows q 1)

/-- Queue identifiers that are taken, those of carriers still to come among them (R273, R281). -/
def State.queuesUsed (s : State) : List Nat := s.qm.created.map (·.1)

/-- Identifiers that a grant queue cannot take: those in use, and those whose set holds four pinned queues (R273, R279). -/
def grantBarred (used pins : List Nat) : List Nat :=
  used ++ (List.range' 18 4078).filter (fun q => decide (4 ≤ (pins.filter (fun x => x % 1024 == q % 1024)).length))

/-- Grant queues of a carrier: one for each direction that it has (R82). -/
def grantCount (p : List Byte) : Nat := if carLayersUl p = 0 then 1 else 2

/-- The grant queues of a carrier find no place: no identifier is left, or no pin (R279). -/
def grantsFull (used pins : List Nat) (p : List Byte) : Bool :=
  let bar := grantBarred used pins
  decide (4096 < pins.length + grantCount p) || decide (((List.range' 18 4078).filter (fun q => !bar.contains q)).length < grantCount p)

/-- Psiwyn's grant queues and home cluster for a carrier (R82, R273, R279): the response. -/
def carrierResponse (used pins : List Nat) (actives : List Nat) (p : List Byte) : List Byte :=
  let u := if carLayersUl p = 0 then 0 else chooseFree 18 4095 (grantBarred used pins)
  let d := chooseFree 18 4095 (u :: grantBarred (u :: used) (if u = 0 then pins else u :: pins))
  leBytes 4 u ++ leBytes 4 d ++ leBytes 1 (nth 0 actives (Config.home (le p 0 2) actives % max 1 actives.length)) ++ leBytes 7 0

/-- CARRIER_ADD (R15, R65, R82, R172, R316): the ports' wire rates are reckoned with the new carrier's flows. DESIGN CHOICE (log entry
167): the spec names no status for a plan refused under R43, R94, R114 or R159, nor for a wire rate that the carrier brings over its
limit; the answer is BAD_PARAMETER at scs (offset 3) and at n_prb (offset 6). -/
def execCarrierAdd (n : Fin 64) (s : State) : Res :=
  .next (s.serve n (forCode 0x0101) (fun s c =>
    let p := c.payload
    let t := s.planned
    let cs := t.cells ++ [(le p 0 2, p)]
    let r := carrierResponse t.queuesUsed t.pins s.actives p
    let u := t.commitCarrier (p ++ r)
    s.checked c (carrierChecks (t.ppt.carrier (le p 0 2)).isNone p)
      (match t.carrierLimit cs p with
      | some l => s.no c stLimit l
      | none =>
        if grantsFull t.queuesUsed t.pins p then s.no c stLimit 7
        else if !u.plansHold then s.no c stBadParam 3
        else if u.anyOver then s.no c stBadParam 6
        else match u.protectedFails with
          | some m => s.no c stProtected m
          | none => s.atTick c r (p ++ r))) rest)

/-- CARRIER_REMOVE (R65, R84). -/
def execCarrierRemove (n : Fin 64) (s : State) : Res :=
  .next (s.serve n (forCode 0x0102) (fun s c =>
    s.checked c [(0, (s.planned.ppt.carrier (le c.payload 0 2)).isSome)] (s.atTick c [] c.payload)) rest)

/-- A CARRIER_ADD payload as CARRIER_QUERY shows it (R12, R82 to R84): reserved bytes and reserved bits, and ssb_weights, are 0. -/
def carrierShown (p : List Byte) : List Byte :=
  let keep := fun (o mask : Nat) => leBytes 1 (le p o 1 &&& mask)
  p.take 13 ++ keep 13 0x03 ++ (p.drop 14).take 16 ++ leBytes 2 0 ++ (p.drop 32).take 11 ++ leBytes 1 0 ++ (p.drop 44).take 8 ++
    keep 52 0x1F ++ leBytes 1 0 ++ keep 54 0x7F ++ leBytes 1 0 ++ leBytes 8 0 ++
    (List.range 16).flatMap (fun i => (p.drop (64 + 8 * i)).take 6 ++ keep (70 + 8 * i) 0x3F ++ leBytes 1 0) ++ leBytes 64 0

/-- CARRIER_QUERY (R84). -/
def execCarrierQuery (n : Fin 64) (s : State) : Res :=
  .next (s.serve n (forCode 0x0103) (fun s c =>
    match s.ppt.carrier (le c.payload 0 2) with
    | none => s.no c stBadParam 0
    | some k => s.ok c (leBytes 4 k.ulq ++ leBytes 4 k.dlq ++ leBytes 1 k.home ++ leBytes 7 0 ++ carrierShown k.payload)) rest)

/-- Master spacing that DRUM_START asks for (R27, R85): 0xFF is the largest of the carriers; with none, that of DRM_CTRL stands. -/
def State.startScs (s : State) (p : List Byte) : Nat :=
  if le p 0 1 ≠ 0xFF then le p 0 1
  else match s.cells with
    | [] => s.getF Rg.DRM_CTRL Fd.DRM_CTRL_master_scs
    | cs => cs.foldl (fun m e => max m (carScs e.2)) 0

/-- Psiwyn writes DRM_CTRL and DRM_TIME_OFFSET and sets enable (R85). -/
def State.startDrum (s : State) (p : List Byte) : State :=
  let v : Word := Fd.DRM_CTRL_enable.set (Fd.DRM_CTRL_start_mode.set (Fd.DRM_CTRL_master_scs.set 0 (s.startScs p)) (le p 1 1)) 1
  (({ s with regs := wrR s.regs Rg.DRM_TIME_OFFSET (BitVec.ofNat 32 (le p 4 4)) }).drumCtrl v).rebudget

/-- DRUM_START (R27, R31, R43, R49, R85, R94, R114, R172). A master spacing under which a carrier's plan breaks is refused. DESIGN CHOICE (log
entry 167): with BAD_PARAMETER at master_scs (offset 0). -/
def execDrumStart (n : Fin 64) (s : State) : Res :=
  .next (s.serve n (forCode 0x0104) (fun s c =>
    let p := c.payload
    let off := leS p 4 4
    s.checked c [(0, within 0 3 (le p 0 1) || le p 0 1 == 0xFF), (1, within 0 1 (le p 1 1)),
        (4, decide (-9830400 ≤ off) && decide (off ≤ 9830399))]
      (if s.drumLive || s.flag Rg.DRM_STATUS Fd.DRM_STATUS_waiting then s.no c stWrongState 0
      else if s.cells.any (fun e => decide (s.startScs p < carScs e.2)) then s.no c stLimit 9
      else if !(s.startDrum p).plansHold then s.no c stBadParam 0
      else match (s.startDrum p).protectedFails with
        | some m => s.no c stProtected m
        | none => (s.startDrum p).later c)) rest)

/-- A write of 0 to DRM_CTRL.enable (R51). -/
def State.stopDrum (s : State) : State := s.drumCtrl (Fd.DRM_CTRL_enable.set (s.rd Rg.DRM_CTRL) 0)

/-- DRUM_STOP (R51, R85): a wait for the first tick ends at once, and the DRUM_START of it with WRONG_STATE. -/
def execDrumStop (n : Fin 64) (s : State) : Res :=
  .next (s.serve n (forCode 0x0105) (fun s c =>
    if s.drumLive then s.stopDrum.later c
    else if s.flag Rg.DRM_STATUS Fd.DRM_STATUS_waiting then (s.stopDrum.completeNow (isCmd 0x0104) stWrongState 0).ok c []
    else s.no c stWrongState 0) rest)

/-- The payload checks of FLOW_ADD (R186). -/
def flowChecks (free known : Bool) (p : List Byte) : List (Nat × Bool) :=
  [(0, le p 0 4 != 0 && free), (4, known), (6, within 0 1 (le p 6 1)), (7, within 0 1 (le p 7 1)), (9, within 1 32 (le p 9 1)),
   (10, within 1 32 (le p 10 1)), (9, decide (le p 9 1 ≤ le p 10 1))]

/-- Answer by the check of protected work on the configuration that would stand (R172). -/
def State.protects (s : State) (c : Cmd) (go : Ans) : Ans :=
  match (s.planned.effect c).protectedFails with
  | some m => s.no c stProtected m
  | none => go

/-- FLOW_ADD (R65, R172, R186). -/
def execFlowAdd (n : Fin 64) (s : State) : Res :=
  .next (s.serve n (forCode 0x0201) (fun s c =>
    let p := c.payload
    let t := s.planned
    let go := s.atTick c [] p
    s.checked c (flowChecks (t.flow (le p 0 4)).isNone (t.ppt.carrier (le p 4 2)).isSome p)
      (if le p 7 1 = 0 then s.protects c go else go)) rest)

/-- FLOW_REMOVE (R65, R86). -/
def execFlowRemove (n : Fin 64) (s : State) : Res :=
  .next (s.serve n (forCode 0x0202) (fun s c =>
    s.checked c [(0, (s.planned.flow (le c.payload 0 4)).isSome)] (s.atTick c [] c.payload)) rest)

/-- The payload checks of BUDGET_SET (R184). -/
def budgetChecks (p : List Byte) : List (Nat × Bool) :=
  let t := leS p 8 2
  [(0, within 60000 120000 (le p 0 4)), (4, within 0 10000 (le p 4 4)), (8, decide (85 * 256 ≤ t) && decide (t ≤ 108 * 256)),
   (10, within 8 16 (le p 10 1)), (11, within 128 248 (le p 11 1)), (12, within 192 252 (le p 12 1)), (14, within 1 65535 (le p 14 2)),
   (16, within 1 65535 (le p 16 4))]

/-- BUDGET_SET (R65, R172, R184). -/
def execBudgetSet (n : Fin 64) (s : State) : Res :=
  .next (s.serve n (forCode 0x0203) (fun s c => s.checked c (budgetChecks c.payload) (s.protects c (s.atTick c [] c.payload))) rest)

/-- A CADENCE_BIND request that unbinds, or not (R185). -/
def cadenceReq (unbind : Bool) (c : Cmd) : Bool := c.code == 0x0204 && bit (le c.payload 7 1) 0 == unbind

/-- A protected uplink flow (R174). -/
def isStudio (f : Option Flow) : Bool := match f with
  | some f => le f.payload 6 1 == 0 && le f.payload 7 1 == 0
  | none => false

/-- The limit that a bind exceeds (R174). -/
def cadenceLimit (bs : List Binding) (p : List Byte) : Option Nat :=
  let others := bs.filter (fun b => b.flow != le p 0 4)
  let rates := (le p 4 1 :: others.map (fun b => le b.payload 4 1)).eraseDups
  if 256 ≤ others.length then some 10 else if 8 < rates.length then some 11 else none

/-- CADENCE_BIND (R65, R172, R174, R185). -/
def execCadenceBind (n : Fin 64) (s : State) : Res :=
  .next (s.serve n (cadenceReq false) (fun s c =>
    let p := c.payload
    let t := s.planned
    s.checked c [(0, isStudio (t.flow (le p 0 4))), (4, within 0 9 (le p 4 1)), (5, within 1 8 (le p 5 1)), (6, within 2 32 (le p 6 1)),
        (8, within 0 100000000 (le p 8 4))]
      (match cadenceLimit t.ppt.bindings p with
      | some l => s.no c stLimit l
      | none => s.protects c (s.atTick c [] p))) rest)

/-- CADENCE_UNBIND (R65, R172, R185): flags bit 0 of the CADENCE_BIND payload; the other fields are not used. Without its template a flow
counts with its declared maxima. -/
def execCadenceUnbind (n : Fin 64) (s : State) : Res :=
  .next (s.serve n (cadenceReq true) (fun s c =>
    s.checked c [(0, isStudio (s.planned.flow (le c.payload 0 4)))] (s.protects c (s.atTick c [] c.payload))) rest)

/-- CLUSTER_STATUS response (R87). -/
def State.clusterBytes (s : State) : List Byte :=
  let count := fun (r : Nat) => ((List.range 18).filter (fun k => role s.regs k == r)).length
  leBytes 1 (count rActive) ++ leBytes 1 (count rSpare) ++ leBytes 1 (s.getF Rg.PPT_STATUS Fd.PPT_STATUS_failures) ++ leBytes 5 0 ++
    (List.range 18).flatMap (fun k => leBytes 1 k ++ leBytes 1 (role s.regs k) ++
      leBytes 1 (s.getF (Rg.PPT_CLUSTER k) Fd.PPT_CLUSTER_cause) ++ leBytes 1 (clusterState s.regs k) ++
      leBytes 2 (s.ppt.homed k) ++ leBytes 2 0) ++
    (List.range 512).map (fun k => match s.ppt.carrier k with
      | some e => BitVec.ofNat 8 e.home
      | none => 0xFF)

/-- CLUSTER_STATUS (R87). -/
def execClusterStatus (n : Fin 64) (s : State) : Res :=
  .next (s.serve n (forCode 0x0301) (fun s c => s.ok c s.clusterBytes) rest)

/-- CLUSTER_RETIRE (R65, R87, R180, R181): at a slot tick, or at once while no tick falls due. -/
def execClusterRetire (n : Fin 64) (s : State) : Res :=
  .next (s.serve n (forCode 0x0302) (fun s c =>
    let k := le c.payload 0 1
    s.checked c [(0, within 0 17 k)]
      (if role s.regs k ≠ rActive then s.no c stWrongState 0
      else if s.drumLive then s.later c
      else ((s.failCluster k causeRetire).retireAll s.host.lastTick).ok c [])) rest)

/-- A cluster goes into repair (R259, R407, R414): powered, reset, its pending row repairs in effect. -/
def State.startRepair (s : State) (k : Nat) : State :=
  let t := ({ s with regs := putRole s.regs k rRepair }).clusterUp k
  t.funcReset (0x2000 + k) false 3

/-- CLUSTER_REPAIR (R414). -/
def execClusterRepair (n : Fin 64) (s : State) : Res :=
  .next (s.serve n (forCode 0x0303) (fun s c =>
    let k := le c.payload 0 1
    s.checked c [(0, within 0 17 k)]
      (if role s.regs k ≠ rRetired then s.no c stWrongState 0 else (s.startRepair k).later c)) rest)

end Sys2Proof.Machine
end

