-- ==== Sys2Proof/Machine/Ports.lean ====
section
/-! DEFINITION. The fronthaul, timing, DAC and span commands of the mailbox (R308 to R310, R316, R320, R322, R345, R346, R350). -/
namespace Sys2Proof.Machine

/-- The pending command of a request that was answered PENDING. -/
def sameCmd (c : Cmd) (x : Cmd) : Bool := isCmd c.code x && x.tag == c.tag

/-- Complete the request that was just answered PENDING (R63). -/
def State.done (s : State) (c : Cmd) (status detail : Nat) : State := s.completeNow (sameCmd c) status detail

/-- The payload checks of ETH_PORT_CONFIG (R322); the mode of port 32 is ignored. -/
def portChecks (p : List Byte) : List (Nat × Bool) :=
  let n := le p 0 1
  let m := le p 2 1
  [(0, within 0 32 n), (2, n == 32 || (decide (m ≤ 2) && (m != 2 || n % 4 == 0))), (3, within 1 8 (le p 3 1)), (4, within 1 3 (le p 4 1)),
   (5, within 1 4 (le p 5 1)), (6, within 1500 9000 (le p 6 2))]

/-- ETH_PORT_CONFIG (R65, R94, R114, R172, R316, R322): the checks of rate and plan combine the port with its other fields, so they report
offset 0 (R57). -/
def execEthPortConfig (n : Fin 64) (s : State) : Res :=
  .next (s.serve n (forCode 0x0401) (fun s c =>
    let t := s.planned.effect c
    s.checked c (portChecks c.payload)
      (if t.anyOver || !t.plansHold then s.no c stBadParam 0
      else s.protects c (s.atTick c [] c.payload))) rest)

/-- The checks of one entry of an ECPRI_FLOW_MAP by its own fields (R316). -/
def entryChecks (p : List Byte) (i : Nat) : List (Nat × Bool) :=
  let o := 8 + 16 * i
  let cat := le p (o + 8) 1
  [(o + 2, within 0 31 (le p (o + 2) 1)), (o + 3, within 0 1 (le p (o + 3) 1)), (o + 4, within 0 511 (le p (o + 4) 2)),
   (o + 6, within 0 63 (le p (o + 6) 1)), (o + 7, [8, 9, 12, 14].contains (le p (o + 7) 1)), (o + 8, within 0 1 cat),
   (o + 6, cat == 0 || within 0 31 (le p (o + 6) 1))]

/-- Entries of a list with one that a test picks more than once. -/
def sharing (es : List EFlow) (t : EFlow → Bool) : Bool := decide (1 < (es.filter t).length)

/-- The checks of one entry against the map after the change (R316), each at the lowest offset that it combines (R57). -/
def State.mapChecks (s : State) (es : List EFlow) (i : Nat) (f : EFlow) : List (Nat × Bool) :=
  let o := 8 + 16 * i
  let mates := es.filter (fun e => e.carrier == f.carrier && e.dir == f.dir)
  [(o, !sharing es (fun e => e.port == f.port && e.eaxc == f.eaxc && e.dir == f.dir)),
   (o + 2, !s.overRate es f.port f.dir), (o + 3, !sharing mates (fun e => e.stream == f.stream)),
   (o + 3, mates.all (fun e => e.mantissa == f.mantissa)), (o + 3, mates.all (fun e => e.category == f.category))]

/-- ECPRI_FLOW_MAP (R42, R43, R65, R94, R114, R172, R316). A map under which a plan breaks, since the ports' timing is the plan's, is refused.
DESIGN CHOICE (log entry 167): with BAD_PARAMETER at the port of the first entry. -/
def execEcpriFlowMap (n : Fin 64) (s : State) : Res :=
  .next (s.serve n (forCode 0x0402) (fun s c =>
    let p := c.payload
    let t := s.planned
    let es := mapAfter t.eth.flows p
    let new := eflowsOf p
    s.checked c ([(0, within 1 253 (le p 0 4))] ++ (List.range new.length).flatMap (entryChecks p) ++
        ((List.range new.length).zip new).flatMap (fun e => t.mapChecks es e.1 e.2))
      (if 1024000 < streamWeight es t.cells then s.no c stLimit 1
      else if 8192 < es.length then s.no c stLimit 5
      else if ringsFull t.cells es then s.no c stLimit 6
      else if !(t.effect c).plansHold then s.no c stBadParam 10
      else s.protects c (s.atTick c [] p))) rest)

/-- A TIMEBASE_CONFIG request of one op (R345). -/
def tbReq (op : Nat) (c : Cmd) : Bool := c.code == 0x0501 && le c.payload 1 1 == op

/-- The payload checks of TIMEBASE_CONFIG op 0 (R345). -/
def configureChecks (p : List Byte) : List (Nat × Bool) :=
  let b := le p 0 1
  let src := le p 2 1
  [(0, within 0 2 b), (1, le p 1 1 == 0), (2, within 0 3 src), (0, sourceOk b src),
   (4, within 1 10000 (le p 4 2)), (6, within 1 65535 (le p 6 2)), (8, within 10 100000 (le p 8 4)), (12, within 0 100000 (le p 12 4))]

/-- The payload checks of ops 1 to 3 (R345). -/
def timeChecks (p : List Byte) : List (Nat × Bool) := [(0, within 0 2 (le p 0 1)), (24, within 0 999999999 (le p 24 4))]

/-- TIMEBASE_CONFIG op 0 (R345), and an op that does not exist. -/
def execTimebaseConfigure (n : Fin 64) (s : State) : Res :=
  .next (s.serve n (fun c => c.code == 0x0501 && !within 1 3 (le c.payload 1 1))
    (fun s c => s.checked c (configureChecks c.payload) (s.later c)) rest)

/-- TIMEBASE_CONFIG op 1 (R331, R332, R345). -/
def execTimebaseLoadEstimate (n : Fin 64) (s : State) : Res :=
  .next (s.serve n (tbReq 1) (fun s c => s.checked c (timeChecks c.payload)
    (if tbStepped s.regs (le c.payload 0 1) then s.no c stWrongState 0 else s.later c)) rest)

/-- The step that set-time performs (R332, R345). -/
def State.setTime (s : State) (c : Cmd) : State :=
  let b := le c.payload 0 1
  (s.withTx (s.tx.stepTo b (phaseOfPtp b (tbTime c.payload)))).done c stOk 0

/-- TIMEBASE_CONFIG op 2 (R332, R345). -/
def execTimebaseSetTime (n : Fin 64) (s : State) : Res :=
  .next (s.serve n (tbReq 2) (fun s c => s.checked c (timeChecks c.payload)
    (if tbStepped s.regs (le c.payload 0 1) then s.no c stWrongState 0 else s.later c)) (fun c s => s.setTime c))

/-- TIMEBASE_CONFIG op 3 (R345): the time of day of the next PPS_IN edge, a source of the radio base. -/
def execTimebaseTimeOfDay (n : Fin 64) (s : State) : Res :=
  .next (s.serve n (tbReq 3) (fun s c =>
      s.checked c [(0, le c.payload 0 1 == 0), (24, within 0 999999999 (le c.payload 24 4))] (s.later c))
    (fun c s => { s with blf := { s.blf with tod := some (tbTime c.payload) } }))

/-- Domain numbers of a PTP profile (R337). -/
def ptpDomain (profile d : Nat) : Bool :=
  if profile = 0 then within 24 43 d else if profile = 1 then within 44 63 d else within 0 127 d

/-- The payload checks of PTP_PORT_CONFIG (R337, R346); with base 0xFF only the port is used. -/
def ptpChecks (regs : SMap Word) (p : List Byte) : List (Nat × Bool) :=
  let off := le p 1 1 == 0xFF
  let b := le p 1 1
  let prof := le p 2 1
  let sync := leS p 8 1
  let ann := leS p 9 1
  [(0, within 0 32 (le p 0 1)), (1, off || b ≤ 1)] ++
  (if off then [] else
    [(0, le p 0 1 == 32 || portMode regs (le p 0 1) != 2), (2, within 0 2 prof), (3, within 0 2 (le p 3 1)),
     (1, if b = 1 then prof == 2 && le p 3 1 == 0 else prof != 2), (2, ptpDomain prof (le p 4 1)),
     (8, decide (-7 ≤ sync) && decide (sync ≤ 0)), (9, decide (-3 ≤ ann) && decide (ann ≤ 0)), (10, within 2 10 (le p 10 1)),
     (11, within 1 255 (le p 11 1))])

/-- Clients that a PTP instance may have: those of its server side (R338). -/
def PtpInst.limit (i : PtpInst) : Nat := if i.role = 0 then 0 else le i.payload 16 1

/-- The configured client limit is beyond R338. -/
def Belfry.overClients (f : Belfry) (p : List Byte) : Bool :=
  let others := (f.ptp.filter (fun e => e.1 != le p 0 1)).map (fun e => (e.2.map PtpInst.limit).getD 0)
  decide (32 < le p 16 1) || decide (256 < others.sum + PtpInst.limit ⟨p, none, none, 0, []⟩)

/-- The instance of a port is set or removed (R346). -/
def State.setPtp (s : State) (c : Cmd) : State :=
  let p := c.payload
  let i := if le p 1 1 = 0xFF then none else some ⟨p, none, none, 0, []⟩
  ({ s with blf := { s.blf with ptp := Map.set none s.blf.ptp (le p 0 1) i } }).done c stOk 0

/-- PTP_PORT_CONFIG (R338, R346). -/
def execPtpPortConfig (n : Fin 64) (s : State) : Res :=
  .next (s.serve n (forCode 0x0502) (fun s c => s.checked c (ptpChecks s.regs c.payload)
    (if le c.payload 1 1 != 0xFF && s.blf.overClients c.payload then s.no c stLimit 8 else s.later c)) (fun c s => s.setPtp c))

/-- Words of registers, without clearing counters of class RC. -/
def State.viewWords (s : State) (as : List Nat) : List Byte := as.flatMap (fun a => leBytes 4 (s.view a).toNat)

/-- TIME_STATUS response (R346). -/
def State.timeBytes (s : State) : List Byte :=
  (List.range 3).flatMap (fun b => s.viewWords ((List.range 15).map (fun i => Rg.BLF_TB_CTRL b + 4 + 4 * i))) ++
    leBytes 4 s.blf.tlv.length ++ fit 0 ((s.blf.tlv.length + 3) / 4 * 4) s.blf.tlv

/-- TIME_STATUS (R346). -/
def execTimeStatus (n : Fin 64) (s : State) : Res := .next (s.serve n (forCode 0x0503) (fun s c => s.ok c s.timeBytes) rest)

/-- A new clear code of a channel in the flash image that runs (R351, R402). -/
def Boot.setClear (b : Boot) (ch code : Nat) : Boot :=
  let x := b.running
  if x.header = [] then b else b.setRunning { x with header := splice x.header (16 + 4 * ch) (leBytes 4 code) }

/-- The words of DAC_CONFIG are written, CTRL last, so that a generator starts from the new values (R348, R350). -/
def State.dacWrite (s : State) (p : List Byte) : State :=
  let ch := le p 0 4 % 4
  let w := fun (i : Nat) => BitVec.ofNat 32 (le p (4 + 4 * i) 4)
  let a := Rg.HDC_CH_CTRL ch
  let t := (List.range 6).foldl (fun (s : State) i =>
    s.plain (nth a [Rg.HDC_CH_CODE ch, Rg.HDC_CH_CLEAR ch, Rg.HDC_CH_STEP ch, Rg.HDC_CH_RATE ch, Rg.HDC_CH_AMP ch, Rg.HDC_CH_GAIN ch] i)
      (w (i + 1))) s
  let t := if bit (le p 0 4) 8 then { t with boot := t.boot.setClear ch (le p 12 4 % 0x100000) } else t
  (t.withDx t.dx.driveClear).dacCtrl ch (w 0)

/-- DAC_CONFIG (R347, R350, R351). -/
def execDacConfig (n : Fin 64) (s : State) : Res :=
  .next (s.serve n (forCode 0x0504) (fun s c =>
    let p := c.payload
    let ch := le p 0 4 % 4
    let src := le p 4 4 % 4
    if src = 2 ∧ ch = 0 ∧ s.flag Rg.DRM_STATUS Fd.DRM_STATUS_running then s.no c stWrongState 0
    else s.checked c [(4, dacPermits s.regs ch src && (src != 2 || le p 4 4 / 4 % 4 != 3))] ((s.dacWrite p).ok c [])) rest)

/-- SPAN_LINK_CONFIG takes effect (R308): timeout, mode, routes, then the link; a link that does not train completes at once. -/
def State.setLinkConfig (s : State) (c : Cmd) : State :=
  let p := c.payload
  let l := le p 0 1
  let fl := le p 1 1
  let regs := if le p 4 2 = 0 then s.regs else putR s.regs Rg.SPN_TIMEOUT Fd.SPN_TIMEOUT_timeout_us (le p 4 2)
  let regs := if bit fl 3 then putR regs Rg.SPN_CTRL Fd.SPN_CTRL_mode (le p 6 1) else regs
  let regs := if bit fl 2 then
      (List.range 8).foldl (fun m d => wrR m (Rg.SPN_ROUTE d) (BitVec.ofNat 32 (le p (8 + d) 1 % 64))) regs else regs
  let v : Word := Fd.SPN_LINK_CTRL_err_limit.set (BitVec.ofNat 32 (fl % 4)) (le p 2 1)
  let t := ({ s with regs := regs }).linkCtrl l v
  if (t.span.link l).training then t
  else t.done c stOk (t.getF (Rg.SPN_LINK_STATUS l) Fd.SPN_LINK_STATUS_width)

/-- SPAN_LINK_CONFIG (R308). -/
def execSpanLinkConfig (n : Fin 64) (s : State) : Res :=
  .next (s.serve n (forCode 0x0601) (fun s c =>
    let p := c.payload
    let load := bit (le p 1 1) 3
    s.checked c [(0, within 0 3 (le p 0 1)), (6, !load || within 0 1 (le p 6 1))]
      (if load && le p 6 1 != b2n (relayMode s.regs) && !linksOff s.regs then s.no c stWrongState 0 else s.later c))
    (fun c s => s.setLinkConfig c))

/-- RELAY_ENUMERATE (R307, R309). -/
def execRelayEnumerate (n : Fin 64) (s : State) : Res :=
  .next (s.serve n (forCode 0x0602) (fun s c =>
    if !relayMode s.regs || s.host.self.index != 0 || s.host.cmds.any (fun x => x.dev != 0) then s.no c stWrongState 0 else s.later c) rest)

/-- EYE_SCAN starts a scan (R303, R310); on a lane that has meanwhile lost lock it ends ABORTED. -/
def State.startScan (s : State) (c : Cmd) : State :=
  let p := c.payload
  let l := le p 0 1
  let v : Word := Fd.SPN_SCAN_CTRL_dwell_log2.set (Fd.SPN_SCAN_CTRL_lane.set 1 (le p 1 1)) (le p 2 1)
  let t := ({ s with regs := wr64R s.regs (Rg.SPN_SCAN_ADDR_LO l) (le p 8 8) }).scanCtrl l v
  if t.getF (Rg.SPN_SCAN_STATUS l) Fd.SPN_SCAN_STATUS_state = 1 then t else t.done c stOk 1

/-- EYE_SCAN (R304, R310): a lane that holds no lock permits no scan. DESIGN CHOICE (log entry 138): that is WRONG_STATE. -/
def execEyeScan (n : Fin 64) (s : State) : Res :=
  .next (s.serve n (forCode 0x0603) (fun s c =>
    let p := c.payload
    s.checked c [(0, within 0 3 (le p 0 1)), (1, within 0 4 (le p 1 1)), (2, within 16 31 (le p 2 1)), (8, le p 8 8 % 64 == 0)]
      (if s.getF (Rg.SPN_SCAN_STATUS (le p 0 1)) Fd.SPN_SCAN_STATUS_state = 1 ∨
          !s.flag (Rg.SPN_LANE_STATUS (le p 0 1) (le p 1 1)) Fd.SPN_LANE_STATUS_locked then s.no c stWrongState 0 else s.later c))
    (fun c s => s.startScan c))

end Sys2Proof.Machine
end

