-- ==== Sys2Proof/Machine/Services.lean ====
section
/-! DEFINITION. The queue, power, Lantern, event, snapshot, recorder and maintenance commands of the mailbox (R281, R282, R370, R372,
R384, R388, R399, R404, R405, R412, R413). -/
namespace Sys2Proof.Machine

/-- A queue exists (R281). -/
def State.hasQueue (s : State) (q : Nat) : Bool := s.qm.created.any (fun e => e.1 == q)

/-- Host slots in use (R281). -/
def State.slotsUsed (s : State) : List Nat := s.qm.created.filterMap (·.2)

/-- A ring lies wholly within populated DRAM or the shared memory of one cluster (R281). -/
def ringPlaced (regs : SMap Word) (a n : Nat) : Bool :=
  decide (a + n ≤ dramSize regs) || (List.range 18).any (fun c => decide (sharedBase c ≤ a) && decide (a + n ≤ sharedBase c + 0x800000))

/-- The identifier that a QUEUE_CREATE gets (R281). -/
def State.newQueue (s : State) (p : List Byte) : Nat :=
  if le p 0 4 = 0xFFFFFFFF then chooseFree 4096 1048575 (s.qm.created.map (·.1)) else le p 0 4

/-- Bytes of the ring that a QUEUE_CREATE asks for. -/
def ringBytes (p : List Byte) : Nat := 2 ^ le p 12 1 * (16 * 2 ^ le p 13 1)

/-- A queue shared with the host. -/
def shares (p : List Byte) : Bool := bit (le p 14 1) 0 || bit (le p 14 1) 1

/-- The pin limits hold (R279). -/
def State.pinFits (s : State) (q : Nat) : Bool :=
  decide ((s.pins.filter (fun x => x % 1024 == q % 1024)).length < 4) && decide (s.pins.length < 4096)

/-- The payload checks of QUEUE_CREATE (R57, R279, R281). -/
def State.queueChecks (s : State) (p : List Byte) : List (Nat × Bool) :=
  let q := le p 0 4
  let fl := le p 14 1
  [(0, q == 0xFFFFFFFF || (within 4096 1048575 q && !s.hasQueue q)), (4, le p 4 8 % 4096 == 0), (12, within 4 20 (le p 12 1)),
   (13, within 0 3 (le p 13 1)), (4, ringPlaced s.regs (le p 4 8) (ringBytes p)), (14, !(bit fl 0 && bit fl 1)),
   (14, !bit fl 2 || s.pinFits (s.newQueue p)), (16, decide (1 ≤ le p 16 4)), (12, decide (le p 16 4 ≤ 2 ^ le p 12 1)),
   (20, if shares p then within 0 8191 (le p 20 2) && !s.slotsUsed.contains (le p 20 2) else le p 20 2 == 0)]

/-- State of a queue created by the host (R274, R281). -/
def newQState (p : List Byte) (owner : Nat) : QState :=
  let fl := le p 14 1
  { base := le p 4 8, sizeLog := le p 12 1, esize := le p 13 1, head := 0, tail := 0, stuck := 0, threshold := le p 16 4, owner := owner,
    hostSlot := le p 20 2, flags := BitVec.ofNat 8 (1 + fl % 16 * 4) }

/-- QUEUE_CREATE (R281). DESIGN CHOICE (log entry 206): the creator that R274 keeps is the host, unit 0xC000 (R273). -/
def execQueueCreate (n : Fin 64) (s : State) : Res :=
  .next (s.serve n (forCode 0x0701) (fun s c =>
    let p := c.payload
    let q := s.newQueue p
    let t := s.withQx (s.qx.create q (newQState p hostAgent) (if shares p then some (le p 20 2) else none))
    s.checked c (s.queueChecks p)
      (if le p 0 4 = 0xFFFFFFFF ∧ 1044480 ≤ (s.qm.created.filter (fun e => decide (4096 ≤ e.1))).length then s.no c stLimit 7
      else t.ok c (leBytes 4 q))) rest)

/-- QUEUE_DELETE (R278, R282). -/
def execQueueDelete (n : Fin 64) (s : State) : Res :=
  .next (s.serve n (forCode 0x0702) (fun s c =>
    let q := le c.payload 0 4
    let t := s.queueSeen q
    s.checked c [(0, decide (4096 ≤ q) && s.hasQueue q)]
      (if t.fill ≠ 0 ∧ !bit (le c.payload 4 4) 0 ∧ !t.broken then (s.withQx (s.qx.load q).1).no c stWrongState 0
      else (s.queueGone q).ok c [])) rest)

/-- The payload checks of POWER_STATE_SET (R354, R356, R361, R370). -/
def powerChecks (p : List Byte) : List (Nat × Bool) :=
  let dom := le p 0 1 == 1
  let kept := le p 8 8 / 2 ^ 10 % 2 ^ 18 == 2 ^ 18 - 1
  [(0, within 0 1 (le p 0 1)), (0, dom || within 0 2 (le p 1 1)), (2, !dom || within 0 95 (le p 2 2)),
   (0, !dom || supports (le p 2 2) (le p 1 1)), (8, !bit (le p 4 4) 0 || kept)]

/-- The settings that POWER_STATE_SET loads (R356, R357, R362, R370). -/
def powerLoads (regs : SMap Word) (p : List Byte) : SMap Word :=
  let fl := le p 4 4
  let d := le p 2 2
  let regs := if bit fl 0 then wr64R regs Rg.PWR_KEEP_LO (le p 8 8 / 512 * 512) else regs
  let regs := if bit fl 1 then putR regs Rg.PWR_DEEP_CFG Fd.PWR_DEEP_CFG_dram_keep 1 else regs
  if bit fl 2 ∧ le p 0 1 = 1 ∧ isCluster d then
    putR regs (Rg.PWR_TILE_KEEP (d - 2)) Fd.PWR_TILE_KEEP_banks (le p 16 2)
  else regs

/-- POWER_STATE_SET on a target that stands already, with nothing in flight. -/
def powerStands (regs : SMap Word) (p : List Byte) : Bool :=
  if le p 0 1 = 1 then domFlight regs (le p 2 2) == noReq && domState regs (le p 2 2) == le p 1 1
  else devFlight regs == noReq && devState regs == le p 1 1

/-- The request that POWER_STATE_SET makes (R363, R366); for Deep the power-down record is presented first (R397). -/
def State.powerAsk (s : State) (c : Cmd) : State :=
  let p := c.payload
  if le p 0 1 = 1 then s.powerRequestBy (le p 2 2) (le p 1 1) (sameCmd c)
  else if le p 1 1 = vDeep then
    let t := s.record recDown 6 []
    { t with pwr := { t.pwr with downWait := true } }
  else s.deviceRequestBy (le p 1 1) (sameCmd c)

/-- POWER_STATE_SET (R361, R370, R397). -/
def execPowerStateSet (n : Fin 64) (s : State) : Res :=
  .next (s.serve n (forCode 0x0801) (fun s c =>
    let p := c.payload
    let t := { s with regs := powerLoads s.regs p }
    s.checked c (powerChecks p)
      (if powerStands s.regs p then t.ok c []
      else if le p 0 1 = 0 ∧ devFlight s.regs = noReq ∧ !deviceAllowed s.regs (le p 1 1) then s.no c stWrongState 0
      else t.later c)) (fun c s => s.powerAsk c))

/-- POWER_STATUS response (R370). -/
def State.powerBytes (s : State) : List Byte :=
  s.viewWords ((List.range 16).map (fun i => Rg.PWR_DEVICE + 4 * i)) ++ s.viewWords ((List.range 96).map (fun d => Rg.PWR_DOM d))

/-- POWER_STATUS (R370). -/
def execPowerStatus (n : Fin 64) (s : State) : Res := .next (s.serve n (forCode 0x0802) (fun s c => s.ok c s.powerBytes) rest)

/-- Registers that LANTERN_CONFIG carries, LNT_CTRL to LNT_QUEUES, then the table. -/
def lntWords : List Nat :=
  [0x00, 0x04, 0x08, 0x0C, 0x10, 0x14, 0x18, 0x1C, 0x20, 0x24, 0x28, 0x30, 0x34, 0x38] ++ (List.range 64).map (fun i => 0x200 + 4 * i)

/-- The payload checks of LANTERN_CONFIG: the ranges of the register map, and the rates (R371, R372) in units of 102.4 MHz / 2^32. -/
def lanternChecks (p : List Byte) : List (Nat × Bool) :=
  let h := le p 4 4 / 256 % 64
  let osr := 8 * 2 ^ (le p 4 4 / 4 % 4)
  let rate := le p 8 4
  let agc := le p 24 4
  let target := sgn 8 (agc / 65536)
  [(4, h == 0 || within 16 64 h), (8, decide (rate ≤ 67108864)),
   (4, decide (4800 * osr * 2 ^ 32 ≤ rate * 102400000) && decide (rate * 102400000 ≤ 200000 * osr * 2 ^ 32)),
   (16, within 16 1024 (le p 16 4 / 1024 % 2048) && within 24 255 (le p 16 4 % 256)), (20, within 3 12 (le p 20 4 / 65536 % 16)),
   (24, decide (-40 ≤ target) && decide (target ≤ -6) && within 1 6 (agc / 4096 % 16) && within 16 4095 (agc % 4096)),
   (28, within 1 15 (le p 28 4 / 256 % 16) && within 0 64 (le p 28 4 % 128))]

/-- The words of LANTERN_CONFIG are written in order of offset. -/
def State.lanternWrite (s : State) (p : List Byte) : State :=
  ((List.range (p.length / 4)).zip lntWords).foldl (fun (s : State) e =>
    s.regSet (winBase 14 + e.2) (BitVec.ofNat 32 (le p (4 * e.1) 4))) s

/-- LANTERN_CONFIG (R371, R372). -/
def execLanternConfig (n : Fin 64) (s : State) : Res :=
  .next (s.serve n (forCode 0x0901) (fun s c => s.checked c (lanternChecks c.payload) ((s.lanternWrite c.payload).ok c [])) rest)

/-- The register that EVENT_MASK replaces (R384). -/
def State.maskSet (s : State) (g which : Nat) (v : Word) : State :=
  if which = 0 then s.setEnable g v
  else if which = 1 then { s with regs := wrR s.regs (Rg.EVT_RING g) v } else { s with regs := wrR s.regs (Rg.EVT_RECORD g) v }

/-- EVENT_MASK (R384): the three values after the change. -/
def execEventMask (n : Fin 64) (s : State) : Res :=
  .next (s.serve n (forCode 0x0A01) (fun s c =>
    let p := c.payload
    let g := le p 0 1
    let t := s.maskSet g (le p 1 1) (BitVec.ofNat 32 (le p 4 4))
    s.checked c [(0, within 0 31 g), (1, within 0 2 (le p 1 1))] (t.ok c (t.viewWords [Rg.EVT_ENABLE g, Rg.EVT_RING g, Rg.EVT_RECORD g]))) rest)

/-- SNAPSHOT_REQUEST (R388). -/
def execSnapshotRequest (n : Fin 64) (s : State) : Res :=
  .next (s.serve n (forCode 0x0A02) (fun s c =>
    let regs := putR s.regs Rg.EVT_SNAP_CTRL Fd.EVT_SNAP_CTRL_period_slots (le c.payload 0 2)
    ({ s with regs := putR regs Rg.EVT_SNAP_CTRL Fd.EVT_SNAP_CTRL_request 1 }).later c) rest)

/-- Distance from one sequence number to a later one. -/
def seqDist (a b : Nat) : Nat := (b + 2 ^ 32 - a % 2 ^ 32) % 2 ^ 32

/-- A sequence number lies before another (R391). -/
def seqBefore (a b : Nat) : Bool := serialAfter 32 b a

/-- Records of the ring from a sequence number, oldest first, while they follow one another (R398). -/
def ringRecs (w : Watchtower) (first n : Nat) : List (Nat × Nat × Rec) :=
  ((List.range n).map (fun i => (first + i) % 2 ^ 32)).filterMap (fun q =>
    match Map.get none w.ring (q % 16384) with
    | some e => if e.1 = q then some e else none
    | none => none)

/-- Records of flash from a sequence number, oldest first, while they follow one another (R398). -/
def flashRecs (w : Watchtower) (frm n : Nat) : List (Nat × Nat × Rec) :=
  let es := w.flash.reverse.dropWhile (fun e => seqBefore e.1 frm)
  let first := ((es.head?).map (·.1)).getD frm
  (((List.range es.length).zip es).takeWhile (fun e => e.2.1 == (first + e.1) % 2 ^ 32)).map (·.2) |>.take n

/-- RECORDER_READ response (R398, R399). -/
def State.recorderBytes (s : State) (p : List Byte) : List Byte :=
  let oldest := (s.rd Rg.WTR_OLDEST_SEQ).toNat
  let next := wtrNext s.regs
  let frm := if seqBefore (le p 0 4) oldest then oldest else le p 0 4
  let room := if seqBefore frm next then seqDist frm next else 0
  let es := if le p 6 1 = 0 then ringRecs s.wtr frm (min (le p 4 2) room) else flashRecs s.wtr (le p 0 4) (le p 4 2)
  let first := ((es.head?).map (·.1)).getD (if le p 6 1 = 0 then frm else le p 0 4)
  leBytes 4 first ++ leBytes 2 es.length ++ leBytes 2 0 ++ leBytes 4 oldest ++ leBytes 4 next ++
    es.flatMap (fun e => recBytes e.1 e.2.1 e.2.2)

/-- RECORDER_READ (R399). -/
def execRecorderRead (n : Fin 64) (s : State) : Res :=
  .next (s.serve n (forCode 0x0A03) (fun s c =>
    let p := c.payload
    s.checked c [(4, within 1 63 (le p 4 2)), (6, within 0 1 (le p 6 1))] (s.ok c (s.recorderBytes p))) rest)

/-- A pair of control cores reads the image of a FW_STAGE from DRAM (R253, R412): the state after, and the bytes. -/
def State.imageRead (s : State) (pair : Nat) (p : List Byte) : State × List PByte :=
  let agent := 0x6000 + 2 * pair
  (s.memRead agent (le p 0 8) (le p 8 4), s.memBytes agent (le p 0 8) (le p 8 4))

/-- Offset of the first poisoned byte. -/
def firstPoisoned (bs : List PByte) : Nat := bs.findIdx (·.p)

/-- A standby pair is there (R410, R412). -/
def State.hasStandby (s : State) : Bool := s.boot.pair (1 - activePair s.regs) == .standby

/-- FW_STAGE in the FAILED stage (R404): a valid image goes to slot A. One with poison is not valid (log entry 169). -/
def State.stageFailed (s : State) (c : Cmd) : Ans :=
  let r := s.imageRead 0 c.payload
  let img := vals r.2
  if imgValid img s.boot.secCounter && !anyP r.2 then
    ({ r.1 with boot := { r.1.boot with slotA := ⟨img, .staged⟩ } }).ok c []
  else r.1.no c stAuth 0

/-- The standby pair takes the image of a FW_STAGE (R255, R412): poison in it is a machine check of that pair, and the image does not
verify (log entry 169). -/
def State.stageImage (s : State) (c : Cmd) : Ans :=
  let pair := 1 - activePair s.regs
  let r := s.imageRead pair c.payload
  if anyP r.2 then (r.1.machineCheck pair (le c.payload 0 8 + firstPoisoned r.2)).no c stAuth 0
  else ({ r.1 with boot := { r.1.boot with staging := some (vals r.2) } }).later c

/-- FW_STAGE (R404, R412). -/
def execFwStage (n : Fin 64) (s : State) : Res :=
  .next (s.serve n (forCode 0x0B01) (fun s c =>
    let p := c.payload
    s.checked c [(0, decide (le p 0 8 + le p 8 4 ≤ dramSize s.regs))]
      (if s.failed then s.stageFailed c
      else if !s.hasStandby || s.boot.staging.isSome then s.no c stWrongState 0
      else s.stageImage c)) rest)

/-- FW_ACTIVATE in the FAILED stage (R404): slot A is marked active; the reset follows the answer. -/
def State.activateFailed (s : State) (c : Cmd) : Ans :=
  if s.boot.slotA.state = .staged then
    ({ s with boot := { s.boot with slotA := { s.boot.slotA with state := .active } } }).ok c []
  else s.no c stWrongState 0

/-- FW_ACTIVATE (R413): the takeover comes at the next frame tick, or at once where no tick falls due. -/
def State.activateNext (s : State) : State := if s.drumLive then s else s.activation

/-- The device reset that ends FW_ACTIVATE in the FAILED stage (R404). -/
def State.resetAfter (s t : State) : State :=
  if s.failed ∧ s.boot.slotA.state ≠ t.boot.slotA.state then t.deviceReset 0 else t

/-- FW_ACTIVATE (R404, R413). -/
def execFwActivate (n : Fin 64) (s : State) : Res :=
  .next (s.resetAfter (s.serve n (forCode 0x0B02) (fun s c =>
    s.checked c [(0, within 0 3600 (le c.payload 0 2))]
      (if s.failed then s.activateFailed c
      else if !s.hasStandby || s.boot.other.state != .staged || s.boot.activate.isSome || s.boot.probation then s.no c stWrongState 0
      else ({ s with boot := { s.boot with activate := some (le c.payload 0 2) } }).later c)) (fun _ s => s.activateNext)))

/-- DEBUG_UNLOCK (R405). -/
def execDebugUnlock (n : Fin 64) (s : State) : Res :=
  .next (s.serve n (forCode 0x0B03) (fun s c =>
    match Config.tokenOk s.boot.uniqueId c.payload with
    | some h =>
      if within 1 168 h then (({ s with boot := { s.boot with unlocked := true } }).record 0x0160 s.ctrlUnit [h]).ok c []
      else s.no c stAuth 0
    | none => s.no c stAuth 0) rest)

end Sys2Proof.Machine
end

