-- ==== Sys2Proof/Machine/SpanWire.lean ====
section
/-! DEFINITION. What travels on a span lane: packets as words (R296, R297), lane periods with trailer, scrambling and stuffing
(R285 to R291, R293). -/
namespace Sys2Proof.Machine

/-- Data words of a lane period that carry payload (R289). -/
def laneWords : Nat := 4095

/-- A word from bytes, padded with zeros (R296). -/
def word64 (bs : List Byte) : BitVec 64 := BitVec.ofNat 64 (leNat bs)

/-- Whether a packet carries a payload: writes, read data without an error, relay messages (R296). -/
def pktHasPayload (p : Packet) : Bool := p.kind == 2 || (p.kind == 3 && !p.err) || p.kind == 5

/-- Payload words of a packet of `n` bytes. -/
def payloadWords (n : Nat) : Nat := (n + 7) / 8

/-- The 16-byte header of a packet (R296). -/
def pktHeader (p : Packet) : List Byte :=
  leBytes 1 p.kind ++ leBytes 1 (b2n (anyP p.payload) + 2 * b2n p.err + 4 * (p.hops % 8)) ++ leBytes 1 p.src ++ leBytes 1 p.dst ++
    leBytes 2 p.tag ++ leBytes 2 p.length ++ leBytes 6 p.address ++ leBytes 2 p.credits

/-- Payload words, with a mask word after each group of 8 where any byte is poisoned (R297). -/
def groupWords (masks : Bool) : Nat → List PByte → List (BitVec 64)
  | 0, _ => []
  | _, [] => []
  | fuel + 1, bs =>
    let g := bs.take 64
    let ws := (List.range (payloadWords g.length)).map (fun j => word64 (vals ((g.drop (8 * j)).take 8)))
    let mask := leNat ((List.range 8).map (fun j => BitVec.ofNat 8
      ((List.range 8).foldl (fun n b => n + b2n ((g[8 * j + b]?.map (·.p)).getD false) * 2 ^ b) 0)))
    ws ++ (if masks then [BitVec.ofNat 64 mask] else []) ++ groupWords masks fuel (bs.drop 64)

/-- The words of a packet (R296, R297). -/
def pktWords (p : Packet) : List (BitVec 64) :=
  [word64 ((pktHeader p).take 8), word64 ((pktHeader p).drop 8)] ++
    (if pktHasPayload p then groupWords (anyP p.payload) p.payload.length p.payload else [])

/-- Payload bytes from words, `n` of them left, with poison by the masks (R297). -/
def ungroup (masks : Bool) : Nat → Nat → List (BitVec 64) → List PByte
  | 0, _, _ => []
  | _, 0, _ => []
  | fuel + 1, n, ws =>
    let k := min 8 (payloadWords n)
    let mask : BitVec 64 := if masks then nth 0 ws k else 0
    let bs : List PByte := (List.range (min n 64)).map (fun i =>
      ⟨BitVec.ofNat 8 ((nth 0 ws (i / 8)).toNat / 2 ^ (8 * (i % 8))), mask.getLsbD i⟩)
    bs ++ ungroup masks fuel (n - 64) (ws.drop (k + b2n masks))

/-- Take the packets that lie whole at the front of a run of words (R296); idle words are passed over. Answers the packets and the
words that wait. -/
def parseWords : Nat → List (BitVec 64) → List Packet × List (BitVec 64)
  | 0, ws => ([], ws)
  | _, [] => ([], [])
  | fuel + 1, w :: ws =>
    if w.toNat % 256 = 0 then parseWords fuel ws
    else match ws with
      | [] => ([], [w])
      | v :: rest =>
        let h := leBytes 8 w.toNat ++ leBytes 8 v.toNat
        let flags := le h 1 1
        let p : Packet := ⟨le h 0 1, bit flags 1, bits flags 4 2, le h 2 1, le h 3 1, le h 4 2, le h 6 2, le h 8 6, le h 14 2, []⟩
        let n := if pktHasPayload p then p.length else 0
        let k := payloadWords n + (if bit flags 0 then (payloadWords n + 7) / 8 else 0)
        if rest.length < k then ([], w :: ws)
        else
          let r := parseWords fuel (rest.drop k)
          ({ p with payload := ungroup (bit flags 0) (n + 1) n rest } :: r.1, r.2)

/-- CRC-32 of the payload words of a lane period (R291). -/
def laneCrc (ws : List (BitVec 64)) : BitVec 32 := crc32 (ws.foldr (fun w bs => leBytes 8 w.toNat ++ bs) [])

/-- The trailer of a lane period (R291). -/
def trailer (idle : Bool) (seq : BitVec 15) (ws : List (BitVec 64)) : BitVec 64 :=
  BitVec.ofNat 64 (b2n idle * 2 ^ 47 + seq.toNat * 2 ^ 32 + (laneCrc ws).toNat)

/-- Word i of a link period travels as word i / W of logical lane i mod W (R293): the words of one logical lane. -/
def stripe (w k : Nat) (ws : List (BitVec 64)) : List (BitVec 64) := (List.range laneWords).map (fun j => nth 0 ws (j * w + k))

/-- The words of a link period from those of its logical lanes (R293). -/
def unstripe (w : Nat) (lanes : List (List (BitVec 64))) : List (BitVec 64) :=
  (List.range (laneWords * w)).map (fun i => nth 0 (nth [] lanes (i % w)) (i / w))

/-- Bits of a number, bit 0 first (R285). -/
def wireBits (n v : Nat) : List Bool := (List.range n).map (fun i => v.testBit i)

/-- Number of bits, bit 0 first. -/
def unwire : List Bool → Nat
  | [] => 0
  | b :: bs => b2n b + 2 * unwire bs

/-- Seed of the scrambler of a physical lane (R286). -/
def scramSeed (p : Nat) : BitVec 31 := BitVec.ofNat 31 (0x7FFFFFFF ^^^ (p * 0x01010101))

/-- Scramble or descramble data bits from a state on (R286). -/
def scramble : BitVec 31 → List Bool → List Bool
  | _, [] => []
  | s, b :: bs =>
    let new := s.getLsbD 30 != s.getLsbD 27
    (b != new) :: scramble ((s <<< 1) ||| (if new then 1 else 0)) bs

/-- Insert a complementary bit after 31 identical bits (R287): `run` bits equal to `last` have gone out. -/
def stuff : Bool → Nat → List Bool → List Bool
  | _, _, [] => []
  | last, run, b :: bs =>
    let r := if run ≠ 0 ∧ b = last then run + 1 else 1
    if r = 31 then b :: (!b) :: stuff (!b) 1 bs else b :: stuff b r bs

/-- Remove the bit that follows every run of 31 (R287); `skip` says that the next bit is one. -/
def unstuff : Bool → Nat → Bool → List Bool → List Bool
  | _, _, _, [] => []
  | _, _, true, b :: bs => unstuff b 1 false bs
  | last, run, false, b :: bs =>
    let r := if run ≠ 0 ∧ b = last then run + 1 else 1
    b :: unstuff b r (r == 31) bs

/-- Fill that alternates, beginning with the complement of the last bit (R285). -/
def fillBits : Nat → Bool → List Bool
  | 0, _ => []
  | n + 1, last => (!last) :: fillBits n (!last)

/-- The comma marker (R285): 40 ones, then 40 zeros. -/
def markerBits : List Bool := List.replicate 40 true ++ List.replicate 40 false

/-- What follows the first comma marker of a run of bits, `n` ones having gone before (R288): a marker ends 40 bit times after the first
zero that follows at least 40 ones. -/
def afterMarker : Nat → List Bool → Option (List Bool)
  | _, [] => none
  | n, true :: bs => afterMarker (n + 1) bs
  | n, false :: bs => if 40 ≤ n then some (bs.drop 39) else afterMarker 0 bs

/-- Stuffed bits of a lane period after its comma marker: link-state field and scrambled data (R285 to R287). -/
def laneBits (p : Nat) (comma : BitVec 16) (words : List (BitVec 64)) : List Bool :=
  stuff false 0 (wireBits 16 comma.toNat ++
    scramble (scramSeed p) (words.foldr (fun w bs => wireBits 64 w.toNat ++ bs) []))

/-- The 4,096 data words of a received lane period (R285 to R287). -/
def unlane (p : Nat) (bs : List Bool) : List (BitVec 64) :=
  let ds := scramble (scramSeed p) (((unstuff false 0 false bs).drop 16).take 262144)
  (List.range 4096).map (fun i => BitVec.ofNat 64 (unwire ((ds.drop (64 * i)).take 64)))

/-- The wire bits of the five lanes, filled to the length of the longest (R285). -/
def filled (lanes : List (List Bool)) : List (List Bool) :=
  let m := lanes.foldl (fun n l => max n l.length) 0
  lanes.map (fun l => l ++ fillBits (m - l.length) (l.getLastD false))

end Sys2Proof.Machine
end

