-- ==== Sys2Proof/Machine/Span.lean ====
section
/-! DEFINITION. Span links at work (R283 to R310): training, link periods and their replay, commas, lost lanes, packets, remote
accesses, eye scans, relay numbering. -/
namespace Sys2Proof.Machine

/-- Unit identifier of a link (R368). -/
def linkUnit (l : Nat) : Nat := 0xB007 + 8 * l

/-- How logical lanes run on the good physical lanes (R284, R292, R300): lanes by logical number, spare, out_a, out_b. -/
def assignLanes (good : List Nat) : List Nat × Option Nat × Nat × Nat :=
  let miss := (List.range 4).filter (fun p => !good.contains p)
  let sp := good.contains 4
  match miss with
  | [] => ([0, 1, 2, 3], if sp then some 4 else none, 7, 7)
  | [a] => if sp then ((List.range 4).map (fun k => if k = a then 4 else k), none, a, 7)
      else ((List.range 5).filter good.contains, none, 7, a)
  | a :: b :: _ => ((List.range 5).filter good.contains, none, a, b)

/-- Set a field of the status register of a link. -/
def putLink (regs : SMap Word) (l : Nat) (f : Fld) (n : Nat) : SMap Word := putR regs (Rg.SPN_LINK_STATUS l) f n

/-- Set a field of the status register of a lane. -/
def putLane (regs : SMap Word) (l p : Nat) (f : Fld) (n : Nat) : SMap Word := putR regs (Rg.SPN_LANE_STATUS l p) f n

/-- Registers of a link that runs on `w` lanes (R290, R292). -/
def widthRegs (regs : SMap Word) (l w outA outB : Nat) : SMap Word :=
  let regs := putLink regs l Fd.SPN_LINK_STATUS_state (if w = 4 then lUp else lDegraded)
  let regs := putLink regs l Fd.SPN_LINK_STATUS_width w
  let regs := putLink regs l Fd.SPN_LINK_STATUS_out_a outA
  putLink regs l Fd.SPN_LINK_STATUS_out_b outB

/-- Registers of the lanes of a link at the end of training (R292). -/
def trainedRegs (regs : SMap Word) (l : Nat) (aligned : BitVec 5) (skews : List Nat) : SMap Word :=
  (List.range 5).foldl (fun m p =>
    let ok := b2n (aligned.getLsbD p)
    let m := putLane (putLane m l p Fd.SPN_LANE_STATUS_locked ok) l p Fd.SPN_LANE_STATUS_aligned ok
    let m := putLane (putLane m l p Fd.SPN_LANE_STATUS_retired (1 - ok)) l p Fd.SPN_LANE_STATUS_out (1 - ok)
    putLane m l p Fd.SPN_LANE_STATUS_skew (if ok = 1 then nth 0 skews p else 0)) regs

/-- A SPAN_LINK_CONFIG that waits for the training of a link (R308). -/
def linkCmd (l : Nat) (c : Cmd) : Bool := isCmd 0x0601 c && le c.payload 0 1 == l

/-- The link is up (R292): lanes assigned, unaligned ones retired; fewer than 3 lanes leave it DOWN. -/
def Sx.up (x : Sx) (l : Nat) (t : Trained) : Sx :=
  let good := (List.range 5).filter (fun p => t.aligned.getLsbD p)
  let a := assignLanes good
  let w := min 4 a.1.length
  let regs := trainedRegs x.rep.regs l t.aligned t.skews
  let regs := putLink (putLink regs l Fd.SPN_LINK_STATUS_peer_link t.peerLink) l Fd.SPN_LINK_STATUS_peer_index t.peerIndex
  if good.length < 3 then ({ x with rep := { x.rep with regs := regs } }).down l
  else
    let k := x.span.link l
    { rep := ({ x.rep with regs := widthRegs regs l w a.2.2.1 a.2.2.2 }).completeNow (linkCmd l) stOk w
      span := x.span.setLink l { k with
        training := false, trained := none, lanes := a.1, spare := a.2.1, rxLanes := a.1
        peerOutA := a.2.2.1, peerOutB := a.2.2.2 } }

/-- The peer sends UP, or runs at width 3, which follows UP (R292). -/
def peerUp (st : Nat) : Bool := st == lUp || st == lDegraded

/-- The lanes of this end are aligned (R292): it sends UP, and the link is up when the peer sends UP too. -/
def Sx.aligned (x : Sx) (l : Nat) (t : Trained) : Sx :=
  let k := x.span.link l
  if peerUp k.peerState || decide (((List.range 5).filter (fun p => t.aligned.getLsbD p)).length < 3) then x.up l t
  else { x with span := x.span.setLink l { k with trained := some t } }

/-- LINK_TRAINING_END (R284, R292, R308). -/
def execLinkTrainingEnd (l : Fin 4) (aligned : BitVec 5) (skews : List Nat) (peerLink peerIndex : Nat) (s : State) : Res :=
  .next (s.withLink l (if (s.span.link l).training then s.sx.aligned l ⟨aligned, skews, peerLink, peerIndex⟩ else s.sx))

/-- LINK_TRAINING_TIMEOUT (R292): the link is DOWN. -/
def execLinkTrainingTimeout (l : Fin 4) (s : State) : Res :=
  .next (s.withLink l (if (s.span.link l).training then s.sx.down l else s.sx))

/-- Packets that go into a period of `room` words, in order, as long as credits last (R296, R298): the first carries the credits
that are owed. Answers words, packets that wait, credits, credits still owed. -/
def takePackets : Nat → Nat → Nat → List Packet → List (BitVec 64) × List Packet × Nat × Nat
  | _, credits, owed, [] => ([], [], credits, owed)
  | room, credits, owed, p :: ps =>
    let q := { p with credits := owed }
    let ws := pktWords q
    if room < ws.length ∨ credits < packetUnits q then ([], p :: ps, credits, owed)
    else
      let r := takePackets (room - ws.length) (credits - packetUnits q) 0 ps
      (ws ++ r.1, r.2)

/-- A packet that only returns credits (R296, kind 6); it takes none itself (R298). -/
def creditPacket (src dst owed : Nat) : Packet := ⟨6, false, 0, src, dst, 0, 0, 0, owed, []⟩

/-- Words that the transmitter has to send in a period of `room` words, and the link after taking them. In relay mode credits go with
relay messages only (R307). -/
def Link.take (k : Link) (relay : Bool) (src dst room : Nat) : List (BitVec 64) × Link :=
  let old := k.txWords.take room
  let r := takePackets (room - old.length) k.credits k.owed k.txPkts
  let lone := !relay && r.1 == [] && r.2.2.2 != 0 && decide (old.length + 2 ≤ room)
  (old ++ (if lone then pktWords (creditPacket src dst r.2.2.2) else r.1),
   { k with txWords := k.txWords.drop room, txPkts := r.2.1, credits := r.2.2.1, owed := if lone then 0 else r.2.2.2 })

/-- The held periods from a sequence on, cut anew where the width has changed since they were sent (R295, R300): the words keep their
order, and what no longer fits goes before the next packet. -/
def Link.recut (k : Link) (w : Nat) : Link :=
  let n := laneWords * w
  if k.held.all (fun h => h.2.length == n) then k
  else
    let ws := k.held.foldr (fun h ws => h.2 ++ ws) k.txWords
    let m := k.held.length
    { k with
      held := (List.range m).zip k.held |>.map (fun e => (e.2.1, fit 0 n ((ws.drop (e.1 * n)).take n)))
      txWords := ws.drop (m * n) }

/-- What the transmitter sends in the next period: idle or not, sequence, words; and the link after (R295). -/
def Link.nextPeriod (k : Link) (relay : Bool) (src dst w : Nat) : (Bool × BitVec 15 × List (BitVec 64)) × Link :=
  let n := laneWords * w
  match k.replayFrom with
  | some q =>
    let k := k.recut w
    match k.held.find? (fun h => h.1 == q) with
    | some h =>
      let more := k.held.any (fun h => h.1 == q + 1)
      ((false, q, h.2), { k with replayFrom := if more then some (q + 1) else none, resent := true })
    | none => ((true, 0, fit 0 n []), { k with replayFrom := none, resent := false })
  | none =>
    let k := { k with resent := false }
    if 2 ≤ k.held.length then ((true, 0, fit 0 n []), k)
    else
      let r := k.take relay src dst n
      if r.1 = [] then ((true, 0, fit 0 n []), r.2)
      else
        let ws := fit 0 n r.1
        ((false, k.txSeq, ws), { r.2 with held := k.held ++ [(k.txSeq, ws)], txSeq := k.txSeq + 1 })

/-- Words of each of the five physical lanes of a period (R284, R293): lanes that carry no logical lane send an idle period. -/
def laneData (k : Link) (idle : Bool) (seq : BitVec 15) (ws : List (BitVec 64)) (p : Nat) : List (BitVec 64) :=
  let i := k.lanes.findIdx (· == p)
  if i < k.lanes.length then
    let d := stripe k.lanes.length i ws
    d ++ [trailer idle seq d]
  else
    let d := fit 0 laneWords []
    d ++ [trailer true 0 d]

/-- The link-state field that an end sends (R290); in training its state is UP once its lanes are aligned (R292). -/
def commaField (regs : SMap Word) (l : Nat) (k : Link) : BitVec 16 :=
  let g := fun f => getR regs (Rg.SPN_LINK_STATUS l) f
  BitVec.ofNat 16 ((if k.training ∧ k.trained ≠ none then lUp else g Fd.SPN_LINK_STATUS_state) * 0x4000 + g Fd.SPN_LINK_STATUS_out_a * 0x800 + g Fd.SPN_LINK_STATUS_out_b * 0x100 +
    g Fd.SPN_LINK_STATUS_rx_lost * 0x20 + b2n k.nackTx * 0x10 + k.rxSeq.toNat % 16)

/-- The five lane periods on the wire (R285), as outputs. -/
def periodOut (regs : SMap Word) (l : Nat) (k : Link) (idle : Bool) (seq : BitVec 15) (ws : List (BitVec 64)) : List Out :=
  let c := commaField regs l k
  let bits := filled ((List.range 5).map (fun p => markerBits ++ laneBits p c (laneData k idle seq ws p)))
  ((List.range 5).map (fun p => Out.lane l p (nth [] bits p))).reverse

/-- Relay messages of this device for a link go to it (R70). -/
def Sx.relayDue (x : Sx) (l : Nat) : Sx :=
  let mine := x.rep.host.relayOut.filter (fun e => e.1 == l)
  { rep := { x.rep with host := { x.rep.host with relayOut := x.rep.host.relayOut.filter (fun e => e.1 != l) } }
    span := mine.foldl (fun p e => p.send l e.2) x.span }

/-- Send a link period (R285, R292, R295): commas and idle periods in training, else the next period; a replay counts when it
starts. -/
def Sx.sendPeriod (x : Sx) (l : Nat) : Sx :=
  let x := x.relayDue l
  let k := x.span.link l
  let on := linkOn x.rep.regs l
  if !(k.training || on) then x
  else
    let peer := getR x.rep.regs (Rg.SPN_LINK_STATUS l) Fd.SPN_LINK_STATUS_peer_index
    let r := if on then k.nextPeriod (relayMode x.rep.regs) (ownIndex x.rep.regs) peer k.lanes.length
      else ((true, 0, fit 0 (laneWords * k.lanes.length) []), k)
    let starts := on && k.replayFrom.isSome && !k.resent && !r.1.1
    let rep := if starts then x.rep.bump (Rg.SPN_LINK_REPLAYS l) 1 else x.rep
    { rep := { rep with out := periodOut rep.regs l r.2 r.1.1 r.1.2.1 r.1.2.2 ++ rep.out }
      span := x.span.setLink l r.2 }

/-- LINK_PERIOD_SEND (R285 to R295). -/
def execLinkPeriodSend (l : Fin 4) (s : State) : Res := .next (s.withSx (s.sx.sendPeriod l))

/-- Physical lanes that carry the logical lanes of the peer, by its out_a and out_b (R290, R300). -/
def peerLanes (outA outB : Nat) : List Nat :=
  if outB = 7 then (List.range 4).map (fun k => if k = outA then 4 else k)
  else (List.range 5).filter (fun p => p != outB && p != outA && !(p == 4 && outA == 7))

/-- The lane that an end reports in rx_lost (R299): the lowest one that it has marked out and the peer has not named; 7 for none. -/
def Link.lost (k : Link) : Nat :=
  ((List.range 5).find? (fun p => k.rxOut.contains p && p != k.peerOutA && p != k.peerOutB)).getD 7

/-- Keep a link with the lane that it reports. -/
def Sx.setLost (x : Sx) (l : Nat) (k : Link) : Sx :=
  { rep := { x.rep with regs := putLink x.rep.regs l Fd.SPN_LINK_STATUS_rx_lost k.lost }
    span := x.span.setLink l k }

/-- An EYE_SCAN that waits for the scan of a link (R310). -/
def scanCmd (l : Nat) (c : Cmd) : Bool := isCmd 0x0603 c && le c.payload 0 1 == l

/-- A receive lane has lost lock (R299): marked out, the period in progress discarded, nack; a scan of the lane is aborted (R304). -/
def Sx.laneLost (x : Sx) (l p : Nat) : Sx :=
  let k := x.span.link l
  if k.rxOut.contains p ∨ getR x.rep.regs (Rg.SPN_LANE_STATUS l p) Fd.SPN_LANE_STATUS_out = 1 then x
  else
    let regs := putLane (putLane x.rep.regs l p Fd.SPN_LANE_STATUS_locked 0) l p Fd.SPN_LANE_STATUS_aligned 0
    let regs := putLane regs l p Fd.SPN_LANE_STATUS_out 1
    let scan := getR regs (Rg.SPN_SCAN_STATUS l) Fd.SPN_SCAN_STATUS_state == 1 && getR regs (Rg.SPN_SCAN_CTRL l) Fd.SPN_SCAN_CTRL_lane == p
    let regs := if scan then putR regs (Rg.SPN_SCAN_STATUS l) Fd.SPN_SCAN_STATUS_state 3 else regs
    let rep : Rep := { x.rep with regs := regs }
    let rep := if scan then rep.completeNow (scanCmd l) stOk 1 else rep
    ({ x with rep := rep }).setLost l { k with
      rxOut := (List.range 5).filter (fun q => q == p || k.rxOut.contains q), nackTx := true, discard := true }

/-- A lane is no longer aligned while the end waits for the peer's UP (R292). -/
def Link.unaligned (k : Link) (p : Nat) : Link :=
  { k with trained := k.trained.map (fun t => { t with aligned := t.aligned &&& ~~~((1 : BitVec 5) <<< p) }) }

/-- LANE_LOSS (R292, R299, R304). -/
def execLaneLoss (l : Fin 4) (p : Fin 5) (s : State) : Res :=
  .next (s.withSx (if linkOn s.regs l then s.sx.laneLost l p
    else { s.sx with span := s.span.setLink l ((s.span.link l).unaligned p) }))

/-- Count a trailer CRC failure of a lane in the running second; more than err_limit are a loss of lock (R299). -/
def Sx.crcFail (x : Sx) (l p : Nat) : Sx :=
  let k := x.span.link l
  let sec := x.rep.now / secUnits
  let errs := if Map.get 0 k.crcErrs 5 = sec then k.crcErrs else Map.set 0 [] 5 sec
  let n := Map.get 0 errs p + 1
  let x : Sx := { rep := x.rep.bump (Rg.SPN_LINK_CRC_ERRORS l) 1
                  span := x.span.setLink l { k with crcErrs := Map.set 0 errs p n } }
  if getR x.rep.regs (Rg.SPN_LINK_CTRL l) Fd.SPN_LINK_CTRL_err_limit < n then x.laneLost l p else x

/-- The data words of a received lane, where it arrived whole: they follow the comma marker (R288). -/
def linkLaneOf (lanes : List LanePeriod) (p : Nat) : Option (List (BitVec 64)) :=
  (lanes.find? (fun e => e.lane.val == p)).bind (fun e => (e.bits.bind (afterMarker 0)).map (unlane p))

/-- Trailer of a received lane (R291). -/
def trailOf (ws : List (BitVec 64)) : Nat := (nth 0 ws laneWords).toNat

/-- The CRC of a received lane passes (R291, R294). -/
def laneOk (ws : List (BitVec 64)) : Bool := trailOf ws % 2 ^ 32 == (laneCrc (ws.take laneWords)).toNat

/-- A received link period meets R294: delivered to the link layer, or discarded with nack; an idle one is checked and discarded. The
period in progress at the loss of a lane is discarded, and a lane marked out brings nothing (R299). -/
def Sx.receive (x : Sx) (l : Nat) (lanes : List LanePeriod) : Sx :=
  let got := (List.range 5).map (linkLaneOf lanes)
  let x := (List.range 5).foldl (fun (x : Sx) p => match nth none got p with
    | some ws => if laneOk ws then x else x.crcFail l p
    | none => x) x
  let k := x.span.link l
  let data := k.rxLanes.map (fun p => if k.rxOut.contains p then none else nth none got p)
  let good := data.filterMap (fun d => d.bind (fun ws => if laneOk ws then some ws else none))
  let idle := good != [] && good.all (fun ws => bit (trailOf ws) 47)
  let seqs := good.map (fun ws => bits (trailOf ws) 46 32)
  let q := (k.rxSeq + 1).toNat
  if k.discard then { x with span := x.span.setLink l { k with discard := false } }
  else if idle then x
  else if good.length = data.length ∧ seqs.all (· == q) ∧ good.all (fun ws => !bit (trailOf ws) 47) then
    let ws := k.rxWords ++ unstripe k.rxLanes.length (good.map (·.take laneWords))
    let r := parseWords (ws.length + 1) ws
    { x with span := x.span.setLink l { k with
        rxSeq := k.rxSeq + 1, nackTx := false, rxPkts := k.rxPkts ++ r.1, rxWords := r.2 } }
  else { x with span := x.span.setLink l { k with nackTx := true } }

/-- LINK_PERIOD_RECEIVE (R286, R287, R291, R293, R294). -/
def execLinkPeriodReceive (l : Fin 4) (lanes : List LanePeriod) (s : State) : Res :=
  .next (s.withSx (if linkOn s.regs l then s.sx.receive l lanes else s.sx))

/-- The link runs on other lanes from its next comma on (R300, R302): registers, the re-stripe counted, the link-width event where the
width changes. -/
def Sx.lanesNow (x : Sx) (l : Nat) (lanes : List Nat) (spare : Option Nat) (outA outB : Nat) : Sx :=
  let k := x.span.link l
  let w := lanes.length
  let rep := { x.rep with regs := widthRegs x.rep.regs l w outA outB }.bump (Rg.SPN_LINK_RESTRIPES l) 1
  { rep := if w = k.lanes.length then rep else rep.fire (224 + 4 * l + 1) (linkUnit l) []
    span := x.span.setLink l { k with lanes := lanes, spare := spare } }

/-- The peer reports a lost lane (R300): onto the spare, to width 3, or DOWN. Physical lane 4 lost in use leaves out the lane whose
logical lane ran on it. -/
def Sx.restripe (x : Sx) (l p : Nat) : Sx :=
  let k := x.span.link l
  let outA := getR x.rep.regs (Rg.SPN_LINK_STATUS l) Fd.SPN_LINK_STATUS_out_a
  if k.spare = some p then { x with span := x.span.setLink l { k with spare := none } }
  else if !k.lanes.contains p then x
  else
    let good := (List.range 5).filter (fun q => q != p && (k.lanes.contains q || k.spare == some q))
    if k.spare.isSome then
      let a := assignLanes good
      x.lanesNow l a.1 none a.2.2.1 7
    else if k.lanes.length = 4 then
      if p = 4 then x.lanesNow l good none 7 outA else x.lanesNow l good none outA p
    else x.down l

/-- Free the held periods that an ack names (R295). -/
def Link.acked (k : Link) (ack : Nat) : Link :=
  let i := k.held.findIdx (fun h => h.1.toNat % 16 == ack)
  { k with held := if i < k.held.length then k.held.drop (i + 1) else k.held }

/-- A nack is acted on unless the replay that it asks for is still due or on the wire (R295, and the example after R302). -/
def Link.nacked (k : Link) : Link :=
  if k.replayFrom.isSome || k.resent then k else { k with replayFrom := (k.held.head?).map (·.1) }

/-- A received comma of a link that is not up (R292): the peer's UP ends the wait for it, and its TRAIN trains this end too, unless the
link is held DOWN. -/
def Sx.commaDown (x : Sx) (l st : Nat) : Sx :=
  let heard := fun (x : Sx) => ({ x with span := x.span.setLink l { x.span.link l with peerState := st } } : Sx)
  let k := x.span.link l
  if k.training then
    match k.trained with
    | some t => if peerUp st then (heard x).up l t else heard x
    | none => heard x
  else if st = lTrain ∧ getR x.rep.regs (Rg.SPN_LINK_CTRL l) Fd.SPN_LINK_CTRL_enable = 1 then heard (x.train l)
  else heard x

/-- A received comma takes effect (R290, R292, R295, R299, R300): one with an invalid value is ignored. -/
def Sx.comma (x : Sx) (l : Nat) (c : Nat) : Sx :=
  let outA := bits c 13 11
  let outB := bits c 10 8
  let lost := bits c 7 5
  let ok := (outA ≤ 3 || outA = 7) && (outB ≤ 3 || outB = 7) && (lost ≤ 4 || lost = 7)
  if !ok then x
  else if !linkOn x.rep.regs l then x.commaDown l (bits c 15 14)
  else if bits c 15 14 = lTrain then (x.train l).commaDown l lTrain
  else
    let k := x.span.link l
    let k := { k with peerState := bits c 15 14, peerOutA := outA, peerOutB := outB, rxLanes := peerLanes outA outB }.acked (bits c 3 0)
    let k := if bit c 4 then k.nacked else k
    let x := x.setLost l k
    if lost = 7 then x else x.restripe l lost

/-- COMMA_RECEIVE (R290, R292, R295, R299, R300, R301). -/
def execCommaReceive (l : Fin 4) (c : BitVec 16) (s : State) : Res := .next (s.withLink l (s.sx.comma l c.toNat))

/-- A lane that was out returns to service (R302): width 4 again, or the lane is the idle spare. -/
def Sx.laneBack (x : Sx) (l p : Nat) : Sx :=
  let regs := putLane (putLane x.rep.regs l p Fd.SPN_LANE_STATUS_locked 1) l p Fd.SPN_LANE_STATUS_aligned 1
  let regs := putLane (putLane regs l p Fd.SPN_LANE_STATUS_out 0) l p Fd.SPN_LANE_STATUS_retired 0
  let k := x.span.link l
  let x := ({ x with rep := { x.rep with regs := regs } }).setLost l { k with rxOut := k.rxOut.filter (· != p) }
  let k := x.span.link l
  if k.lanes.contains p ∨ k.spare = some p then x
  else if k.lanes.length = 3 then
    let a := assignLanes ((List.range 5).filter (fun q => q == p || k.lanes.contains q))
    let outA := a.2.2.1
    x.lanesNow l (if a.1.length = 4 then a.1 else k.lanes ++ [p]) none outA 7
  else { x with span := x.span.setLink l { k with spare := some p } }

/-- A lane is out of use in a direction: marked out at this end (R299), or left out by the transmitter at the peer's report (R300). -/
def State.laneOut (s : State) (l p : Nat) : Bool :=
  let k := s.span.link l
  s.flag (Rg.SPN_LANE_STATUS l p) Fd.SPN_LANE_STATUS_out || !(k.lanes.contains p || k.spare == some p)

/-- LANE_RETURN (R301, R302, R415). -/
def execLaneReturn (l : Fin 4) (p : Fin 5) (s : State) : Res :=
  .next (s.withLink l (if s.laneOut l p && linkOn s.regs l then s.sx.laneBack l p else s.sx))

/-- A remote address of device `d` for an address of its local map (R25). -/
def remoteOf (d a : Nat) : Nat :=
  0x100000000000 + d * 0x10000000000 +
    (if a < 0x10000000000 then a else if a < regBase then a - 0x10000000000 + 0x8000000000 else a - regBase + 0xC000000000)

/-- The answer to a request packet (R296). -/
def answerTo (regs : SMap Word) (p : Packet) (err : Bool) (body : List PByte) : Packet :=
  ⟨p.kind + 2, err, 0, ownIndex regs, p.src, p.tag, p.length, p.address, 0, body⟩

/-- Send an answer on the route of its destination; without a route it is lost. -/
def State.sendBack (s : State) (p : Packet) : State :=
  { s with span := match routeTo s.regs p.dst with
    | some l => s.span.send l p
    | none => s.span }

/-- Pass a packet on (R306): with its hop count incremented, or a request is answered with flags bit 1. -/
def State.forward (s : State) (p : Packet) : State :=
  let q := { p with hops := p.hops + 1 }
  if 7 < q.hops ∨ routeTo s.regs p.dst = none then
    if p.kind = 1 ∨ p.kind = 2 then s.sendBack (answerTo s.regs p true []) else s
  else s.sendBack q

/-- A request for this device is applied (R297, R306): an access that meets a decode error is answered with flags bit 1. -/
def State.applyRequest (s : State) (agent : Nat) (p : Packet) : State :=
  let bad := (windowOf p.address).isSome || (s.decodeBad agent p.address p.length).isSome
  if p.kind = 1 then
    let t := s.busRead agent p.address p.length
    (if (windowOf p.address).isSome then s.decodeError p.address else t).sendBack
      (answerTo s.regs p bad (if bad then [] else s.busBytes agent p.address p.length))
  else
    let t := s.busWrite agent p.address p.payload
    (if (windowOf p.address).isSome then s.decodeError p.address else t).sendBack (answerTo s.regs p bad [])

/-- A request of this device has its answer, none for an error: it is no longer outstanding, and a held one keeps what came. -/
def Span.answer (p : Span) (r : SpanReq) (data : Option (List PByte)) : Span :=
  { p with
    reqs := p.reqs.filter (fun q => q.tag != r.tag)
    answers := if r.held then p.answers ++ [⟨r.agent, r.dst, r.addr, r.len, r.isWrite, r.body, data⟩] else p.answers }

/-- The data of a read that nothing holds go to its agent: completions to the host (R325), bytes to another; an error comes to the host
as Unsupported Request and to another as poison (R24). -/
def State.remoteData (s : State) (r : SpanReq) (data : Option (List PByte)) : State :=
  if r.isWrite || r.held then s
  else if r.agent = hostAgent then
    match data with
    | some bs => { s with out := completions r.addr bs ++ s.out }
    | none => { s with out := .unsupported :: s.out }
  else { s with out := .data r.agent (data.getD (poisoned (leBytes r.len 0))) :: s.out }

/-- A write of an engine command met a decode error in another device (R135): a late error of the command. -/
def State.writeLate (s : State) (r : SpanReq) : State :=
  let c := r.agent % 0x1000 / 3
  match r.cmd with
  | some t =>
    let p := s.cup c
    let g := p.tag t
    s.withCx (s.cx.setCup c (p.setTag t { g with late := g.late ++ [(1, remoteOf r.dst r.addr)] }))
  | none => s

/-- An answer arrives for a request of this device (R298, R306): its data go to the agent, or the access meets a decode error. -/
def State.answered (s : State) (p : Packet) : State :=
  match s.span.reqs.find? (fun r => r.tag == p.tag && r.isWrite == (p.kind == 4)) with
  | none => s
  | some r =>
    let t := { s with span := s.span.answer r (if p.err then none else some p.payload) }
    let t := if p.err then (t.decodeError (remoteOf r.dst r.addr)).writeLate r else t
    t.remoteData r (if p.err then none else some p.payload)

/-- A relay message arrives at the root (R70, R307): the response to a forwarded request goes into its mailbox; one to a command that was
answered PENDING completes it. -/
def State.relayed (s : State) (p : Packet) : State :=
  let bs := vals p.payload
  let dev := le bs 5 1
  let tag := le bs 8 2
  let st := le bs 16 2
  let det := le bs 18 2
  let own := fun (c : Cmd) => c.dev == dev && c.tag == tag && c.dev != 0
  if le bs 0 4 ≠ 0x50535733 then s
  else match s.host.cmds.find? (fun c => own c && c.phase == .busy) with
    | some c => match c.mbx with
      | some n => s.withRep (s.rep.respond n c st det (bs.drop 32))
      | none => s
    | none => s.completeNow own st det

/-- The request of a relay message (R70): it waits as one of mailbox 0 (log entry 137). -/
def relayRequest (l : Nat) (p : Packet) : Cmd :=
  let bs := vals p.payload
  { mbx := some 0, lost := false, head := fit 0 32 bs, tag := le bs 8 2, dev := 0, code := le bs 6 2,
    payload := fit 0 (min 4064 (le bs 12 4)) (bs.drop 32), phase := .posted, commit := .other, status := 0, detail := 0,
    relayed := some ⟨l, le bs 5 1, bit p.address 0⟩ }

/-- The bit of the address field that marks the message that numbers a device (log entry 137). -/
def numbering (p : Packet) : Bool := bit p.address 47

/-- A relay message has come to the device that it is for: as many hops as it has to take (log entry 45). -/
def relayEnds (p : Packet) : Bool := p.hops == bits p.address 15 13

/-- A relay message arrives (R70, R307; log entries 45, 137). One that numbers this device gives it its place, the link that it came on
being its upstream link. At the root, and at a device without a number, it is a response. Elsewhere one from upstream is a request,
served here or passed on, and one from below goes up. -/
def State.relayIn (s : State) (l : Nat) (p : Packet) : State :=
  if numbering p && relayEnds p then { s with host := { s.host with self := ⟨p.dst, p.src, l⟩ } }
  else if s.host.self.parent = 0xFF then s.relayed p
  else if l ≠ s.host.self.link then { s with span := s.span.send s.host.self.link { p with hops := p.hops + 1 } }
  else if relayEnds p then { s with host := { s.host with cmds := s.host.cmds ++ [relayRequest l p] } }
  else { s with span := s.span.send (p.address / 2 ^ (1 + 2 * p.hops) % 4) { p with hops := p.hops + 1 } }

/-- Take the oldest packet of a link: the credits that it returns, and those owed for the buffer that it frees (R298). -/
def Link.takePacket (k : Link) (p : Packet) : Link :=
  { k with
    rxPkts := k.rxPkts.tail
    credits := min 2048 (k.credits + p.credits)
    owed := if p.kind = 6 then k.owed else k.owed + packetUnits p }

/-- A packet in hand (R306, R307). -/
def State.packet (s : State) (l : Nat) (p : Packet) : State :=
  if relayMode s.regs then (if p.kind = 5 then s.relayIn l p else s)
  else if p.kind = 0 ∨ 5 ≤ p.kind then s
  else if p.dst ≠ ownIndex s.regs then s.forward p
  else if p.kind = 1 ∨ p.kind = 2 then s.applyRequest (linkUnit l) p
  else s.answered p

/-- SPAN_PACKET_RECEIVE (R296 to R298, R306, R307). -/
def execSpanPacketReceive (l : Fin 4) (s : State) : Res :=
  let k := s.span.link l
  .next (match k.rxPkts with
    | [] => s
    | p :: _ => ({ s with span := s.span.setLink l (k.takePacket p) }).packet l p)

/-- REMOTE_WINDOW_ACCESS (R24, R25, R306, R307): an access of an agent to a remote window becomes packets on the route of the device;
to its own window it is local; without a place it meets a decode error. -/
def execRemoteWindowAccess (agent addr len : Nat) (wr : Option (List PByte)) (s : State) : Res :=
  .next (match windowOf addr with
    | none => s
    | some _ => match placeOf s.regs addr, wr with
      | .there d l x, some bs => { s with span := s.span.request (ownIndex s.regs) agent d l x bs.length (some bs) }
      | .there d l x, none => { s with span := s.span.request (ownIndex s.regs) agent d l x len none }
      | _, some bs => s.busWrite agent addr bs
      | _, none =>
        let t := s.busRead agent addr len
        { t with out := .data agent (s.busBytes agent addr len) :: t.out })

/-- SPAN_REQUEST_TIMEOUT (R24, R298): the request completes as a decode error. -/
def execSpanRequestTimeout (tag : Nat) (s : State) : Res :=
  .next (match s.span.reqs.find? (fun r => r.tag == tag) with
    | none => s
    | some r =>
      let rep := (s.rep.bump (Rg.SPN_LINK_TIMEOUTS r.link) 1).fire (224 + 4 * r.link + 2) (linkUnit r.link) []
      let t := (s.withRep rep).decodeError (remoteOf r.dst r.addr)
      (({ t with span := s.span.answer r none }).writeLate r).remoteData r none)

/-- Bytes of the records of an eye scan (R304): errors and bits compared of each point. -/
def scanBytes (dwell : Nat) (errors : List Word) : List Byte :=
  errors.foldr (fun e bs => leBytes 4 e.toNat ++ leBytes 4 (2 ^ dwell) ++ bs) []

/-- EYE_SCAN_END (R304, R310): the records are written; all 4,096 of them make the scan DONE, fewer end it ABORTED. -/
def execEyeScanEnd (l : Fin 4) (errors : List Word) (s : State) : Res :=
  let es := errors.take 4096
  let done := decide (es.length = 4096)
  let a := s.rd64 (Rg.SPN_SCAN_ADDR_LO l)
  let t := s.busWrite (linkUnit l) a (clean (scanBytes (s.getF (Rg.SPN_SCAN_CTRL l) Fd.SPN_SCAN_CTRL_dwell_log2) es))
  let regs := putR t.regs (Rg.SPN_SCAN_STATUS l) Fd.SPN_SCAN_STATUS_points (min 4095 es.length)
  let regs := putR regs (Rg.SPN_SCAN_STATUS l) Fd.SPN_SCAN_STATUS_state (if done then 2 else 3)
  .next (if s.getF (Rg.SPN_SCAN_STATUS l) Fd.SPN_SCAN_STATUS_state = 1 then
      ({ t with regs := regs }).completeNow (scanCmd l) stOk (if done then 0 else 1)
    else s)

/-- A device of the tree as it is numbered (R307): its place among those found, counted from 1 with the root 0, its entry in the table,
the links from the root to it. -/
structure RelayNode where
  found : Nat
  dev : RelayDev
  path : List Nat
  deriving DecidableEq, Repr

/-- The children of the device numbered `i`, in ascending order of link (R307). -/
def relayChildren (devs : List RelayDev) (i : Nat) (n : RelayNode) : List RelayNode :=
  (List.range 4).flatMap (fun l => match devs.findIdx? (· == ⟨n.found, l⟩) with
    | some j => [⟨j + 1, ⟨i, l⟩, n.path ++ [l]⟩]
    | none => [])

/-- The tree numbered breadth first (R307): at most 64 devices with the root, at most 6 hops away. -/
def relayTree (devs : List RelayDev) : List RelayNode :=
  ((List.range 64).foldl (fun ns i => match ns[i]? with
    | some n => if n.path.length < 6 then ns ++ relayChildren devs i n else ns
    | none => ns) [⟨0, ⟨0, 0⟩, []⟩]).take 64

/-- The message that numbers a device. DESIGN CHOICE (log entry 137). -/
def numberPacket (i : Nat) (n : RelayNode) : Packet :=
  ⟨5, false, 0, n.dev.parent, i, 0, 1, 2 ^ 47 + relayAddress false n.path, 0, [⟨0, false⟩]⟩

/-- RELAY_ENUMERATE_DONE (R307, R309): the table holds the root and the numbered devices, and each of them is told its number. -/
def execRelayEnumerateDone (devs : List RelayDev) (s : State) : Res :=
  let ns : List RelayNode := relayTree devs
  let wait := s.host.cmds.any (fun c => isCmd 0x0602 c && c.phase == .pending)
  .next (if wait then
      ({ s with
        host := { s.host with relay := ns.map RelayNode.dev }
        span := (((List.range 64).zip ns).tail).foldl (fun p (e : Nat × RelayNode) => p.send (e.2.path.headD 0) (numberPacket e.1 e.2)) s.span }).completeNow
        (isCmd 0x0602) stOk ns.length
    else s)

end Sys2Proof.Machine
end

