-- ==== Sys2Proof/Machine/StartUp.lean ====
section
/-! DEFINITION. The stages of start-up (R403 to R405). -/
namespace Sys2Proof.Machine

/-- State of the system queue of a cluster (R240, R273, R279): entries of 128 bytes, pinned; its ring is Psiwyn's choice (log entry 28). -/
def systemQueue (q owner : Nat) : QState :=
  { base := Config.sysRing q * 4096, sizeLog := 4 + Config.sysRing (q + 2 ^ 20) % 17, esize := 3, head := 0, tail := 0, stuck := 0,
    threshold := 0, owner := owner, hostSlot := 0, flags := 0x13 }

/-- Create the system queues. -/
def State.systemQueues (s : State) : State :=
  (List.range 18).foldl (fun s q => s.withQx (s.qx.create q (systemQueue q s.ctrlUnit) none)) s

/-- Psiwyn writes the calibration table as the boot calibration leaves it (R164, R165): the valid rows, in control memory. -/
def State.calibrate (s : State) : State :=
  (List.range 1024).foldl (fun s r => match Config.calBoot r with
    | some e => s.memWrite s.ctrlUnit (calAddr r) (clean (fit 0 64 (calBytes e.1 0 e.2)))
    | none => s) s

/-- SERVICES (R403): queue manager, events and recorder started, a new lock epoch unless the wake began it, strict mode ended; Psiwyn makes the system queues and
turns admission on. -/
def State.services (s : State) : State :=
  let regs := putR (putR s.regs Rg.QMG_CTRL Fd.QMG_CTRL_enable 1) Rg.PPT_CTRL Fd.PPT_CTRL_enable 1
  let regs := wr64R (wr64R (wr64R regs Rg.QMG_STATE_BASE_LO (Config.psiAddr 0)) Rg.QMG_HOST_TABLE_LO (Config.psiAddr 1))
    Rg.EVT_FW_BASE_LO (Config.psiAddr 2)
  let s := { s with regs := leaveStrictAll (putR regs Rg.WTR_CTRL Fd.WTR_CTRL_flash_en 1) }
  let s := if s.boot.short || s.boot.woken then s else s.withTx (((s.tx.epoch 0 true).epoch 1 true).epoch 2 true)
  let s := if s.boot.short then s else s.calibrate
  s.systemQueues.rebudget.startRecorder

/-- Stages that a start-up runs, as the mask of record 0x0100. -/
def stageMask (short : Bool) : Nat := if short then 0xF2 else 0xFE

/-- BOOT_STAGE_END (R403 to R405): the work of the stage that ends, and the next one. -/
def execBootStageEnd (r : StageEnd) (s : State) : Res :=
  let k := bootStage s.regs
  let go := fun (s : State) (n : Nat) => { s with regs := putStage s.regs n }
  .next (if s.boot.inReset || s.boot.tripHold then s
    else match r.failed with
    | some cause => if 1 ≤ k ∧ k ≤ 7 then s.bootFail k cause else s
    | none =>
      match k with
      | 1 =>
        let s := { s with boot := { s.boot with unlocked := false } }
        if s.flag Rg.BOOT_STRAPS Fd.BOOT_STRAPS_boot_src then s.bootFail 1 0
        else if s.boot.short then go s 4
        else go (s.memClear (sramBase + 0x4800000) (sramBase + 0x5000000)) 2
      | 2 =>
        let b := { s.boot with runsB := s.boot.slotB.state == .active && s.boot.slotA.state != .active }
        let s := { s with boot := b }
        let s := match r.fallback with
          | some cause =>
            let s := s.record 0x0102 s.ctrlUnit [b2n b.runsB, cause]
            { s with boot := { s.boot with runsB := !b.runsB } }
          | none => s
        go (s.loadClears s.boot.running.header) 3
      | 3 =>
        let ms := le s.boot.running.header 32 4
        let regs := if s.boot.running.header = [] then s.regs else putR s.regs Rg.BOOT_WDT_CTRL Fd.BOOT_WDT_CTRL_timeout_ms ms
        let regs := putR regs Rg.PCE_MBX_GLOBAL Fd.PCE_MBX_GLOBAL_active_pair (b2n r.pair0Bad)
        go { s with
          regs := regs
          boot := { s.boot with
            pair0 := if r.pair0Bad then .retired else .active
            pair1 := if r.pair0Bad then .active else .standby } } 4
      | 4 =>
        let s := if s.boot.short then s else s.applyRepairs
        go { s with regs := putR s.regs Rg.MEC_DDR_CONFIG Fd.MEC_DDR_CONFIG_trained 1 } 5
      | 5 => go { s with regs := if s.boot.short then s.regs else regionTable s.regs } 6
      | 6 =>
        if s.boot.short then go (((List.range 18).filter (fun c => role s.regs c == rActive)).foldl State.standBy s) 7
        else
          let n := ((List.range 18).filter (fun c => r.passed.getLsbD c)).length
          let s := s.assignRoles r.passed
          if n < 8 then s.bootFail 6 0 else go s 7
      | 7 =>
        let short := s.boot.short
        let s := s.services
        let s := ({ s with regs := putStage s.regs 8, boot := { s.boot with short := false, woken := false } }).endpointUp
        s.record 0x0100 s.ctrlUnit [imgVersion s.boot.running.header, b2n s.boot.runsB, stageMask short, s.now / 983040]
      | _ => s)

end Sys2Proof.Machine
end

