-- ==== Sys2Proof/Machine/Vector.lean ====
section
/-! DEFINITION. The vector extension of the Ziliend core (R212 to R229). -/
namespace Sys2Proof.Machine

/-- Element width in bytes (R212). -/
def eszW (esz : Nat) : Nat := 2 ^ esz

/-- Element `i` of a vector with elements of `w` bytes. -/
def VReg.elem (r : VReg) (w i : Nat) : Nat := (r.v >>> (8 * w * i)).toNat % 2 ^ (8 * w)

/-- An element is poisoned when any of its bytes is (R213). -/
def VReg.bad (r : VReg) (w i : Nat) : Bool := (r.p >>> (w * i)).toNat % 2 ^ w != 0

/-- Write an element and the poison of all its bytes (R213). -/
def VReg.put (r : VReg) (w i n : Nat) (p : Bool) : VReg :=
  let m : BitVec 512 := BitVec.ofNat 512 (2 ^ (8 * w) - 1) <<< (8 * w * i)
  let q : BitVec 64 := BitVec.ofNat 64 (2 ^ w - 1) <<< (w * i)
  { v := (r.v &&& ~~~ m) ||| (BitVec.ofNat 512 (n % 2 ^ (8 * w)) <<< (8 * w * i))
    p := if p then r.p ||| q else r.p &&& ~~~ q }

/-- A vector register. -/
def Core.vec (c : Core) (i : Nat) : VReg := Map.get VReg.zero c.v i

/-- Replace a vector register. -/
def Core.setVec (c : Core) (i : Nat) (r : VReg) : Core := { c with v := Map.set VReg.zero c.v i r }

/-- A predicate register; PD0 reads as all ones (R214). -/
def Core.pred (c : Core) (i : Nat) : BitVec 64 := if i = 0 then BitVec.allOnes 64 else Map.get 0 c.pd i

/-- Replace a predicate register; writes to PD0 are discarded (R214). -/
def Core.setPred (c : Core) (i : Nat) (p : BitVec 64) : Core := if i = 0 then c else { c with pd := Map.set 0 c.pd i p }

/-- A vector with its active elements from `f`, the others kept or zeroed (R215). -/
def vmake (old : VReg) (z : Bool) (w n : Nat) (active : Nat → Bool) (f : Nat → Nat × Bool) : VReg :=
  (List.range n).foldl (fun r i =>
    if active i then r.put w i (f i).1 (f i).2 else if z then r.put w i 0 false else r) old

/-- A predicate of `n` elements from `f`; the bits above are cleared (R214). -/
def pmake (n : Nat) (f : Nat → Bool) : BitVec 64 :=
  BitVec.ofNat 64 ((List.range n).foldl (fun r i => r + (if f i then 2 ^ i else 0)) 0)

/-- Registers of a core after a vector instruction that completes (R225). -/
def vdone (regs : SMap Word) (k : Nat) : SMap Word := putR regs (Rg.ZCR_VSTART k) Fd.ZCR_VSTART_vstart 0

/-- Replace a core and end a vector instruction. -/
def State.vend (s : State) (k : Nat) (c : Core) : State :=
  { s with regs := vdone s.regs k, cores := Map.set Core.reset s.cores k c }

/-- A consumption of a poisoned element (R222, R227): the lowest one is kept; VSTART holds `v`. -/
def State.vpoison (s : State) (k elem v : Nat) : Act :=
  let regs := putR s.regs (Rg.ZCR_VSTATUS k) Fd.ZCR_VSTATUS_fault_elem elem
  let regs2 := putR regs (Rg.ZCR_VSTART k) Fd.ZCR_VSTART_vstart v
  .trap { s with regs := regs2 } xvPoison none

/-- Run a vector instruction. -/
def State.vrun (s : State) (x : Ins) (body : State → Act) : State := s.runIns x 4 false body

/-- Element arithmetic (R218, R222): each active element of the sources gives a result and whether it saturated. `two` says that the
second source is used. -/
def vecBody (k : Nat) (o : Vop) (w : Nat) (two : Bool) (f : Nat → Nat → Nat × Bool) (s : State) : Act :=
  let c := s.core k
  let n := 64 / w
  let a := c.vec o.vs1
  let b := c.vec o.vs2
  let act := fun i => (c.pred o.pg).getLsbD i
  match (List.range n).find? (fun i => act i && (a.bad w i || (two && b.bad w i))) with
  | some i => s.vpoison k i 0
  | none =>
    let r := vmake (c.vec o.vd) o.z w n act (fun i => ((f (a.elem w i) (b.elem w i)).1, false))
    let sat := (List.range n).any (fun i => act i && (f (a.elem w i) (b.elem w i)).2)
    let t := s.vend k (c.setVec o.vd r)
    .ok { t with regs := noteVsat t.regs k sat }

/-- An integer result saturated to elements of `w` bytes. -/
def vsat (w : Nat) (x : Int) : Nat × Bool := (twos (8 * w) (satS (8 * w) x), decide (satS (8 * w) x ≠ x))

/-- Element arithmetic by signed values, for esz 0 to 2 (R212). -/
def State.varith (s : State) (x : Ins) (o : Vop) (two : Bool) (f : Nat → Int → Int → Nat × Bool) : State :=
  let w := eszW o.esz
  s.vrun x (fun s =>
    if o.esz.val = 3 then .trap s xIllegal none
    else vecBody x.core o w two (fun a b => f w (sgn (8 * w) a) (sgn (8 * w) b)) s)

/-- VADDS (R218). -/
def execVadds (x : Ins) (o : Vop) (s : State) : Res := .next (s.varith x o true (fun w a b => vsat w (a + b)))

/-- VSUBS (R218). -/
def execVsubs (x : Ins) (o : Vop) (s : State) : Res := .next (s.varith x o true (fun w a b => vsat w (a - b)))

/-- VABSS (R218). -/
def execVabss (x : Ins) (o : Vop) (s : State) : Res := .next (s.varith x o false (fun w a _ => vsat w a.natAbs))

/-- VNEGS (R218). -/
def execVnegs (x : Ins) (o : Vop) (s : State) : Res := .next (s.varith x o false (fun w a _ => vsat w (-a)))

/-- VMULHR (R219). -/
def execVmulhr (x : Ins) (o : Vop) (s : State) : Res :=
  .next (s.varith x o true (fun w a b => vsat w (rndEven (a * b) (8 * w - 1))))

/-- VCMULHR (R218, R219): 32-bit lanes of 16-bit I and Q, in its .H form alone. -/
def execVcmulhr (x : Ins) (o : Vop) (conj : Bool) (s : State) : Res :=
  let mul := fun (a b : Nat) =>
    let i := fun (v : Nat) => sgn 16 v
    let q := fun (v : Nat) => sgn 16 (v / 65536)
    let bq := if conj then -(q b) else q b
    let re := vsat 2 (rndEven (i a * i b - q a * bq) 15)
    let im := vsat 2 (rndEven (i a * bq + q a * i b) 15)
    (re.1 + im.1 * 65536, re.2 || im.2)
  .next (s.vrun x (fun s => if o.esz.val ≠ 1 then .trap s xIllegal none else vecBody x.core o 4 true mul s))

/-- A shift by an amount within the element (R218). -/
def State.vshift (s : State) (x : Ins) (o : Vop) (amt : Nat) (f : Nat → Int → Nat × Bool) : State :=
  let w := eszW o.esz
  s.vrun x (fun s =>
    if o.esz.val = 3 ∨ 8 * w ≤ amt then .trap s xIllegal none
    else vecBody x.core o w false (fun a _ => f w (sgn (8 * w) a)) s)

/-- VSHRR (R218). -/
def execVshrr (x : Ins) (o : Vop) (amt : Nat) (s : State) : Res :=
  .next (s.vshift x o amt (fun w a => (twos (8 * w) (rndEven a amt), false)))

/-- VSHLS (R218). -/
def execVshls (x : Ins) (o : Vop) (amt : Nat) (s : State) : Res :=
  .next (s.vshift x o amt (fun w a => vsat w (a * 2 ^ amt)))

/-- VNARR (R218, R222): elements halved in width into the low half of vd, whose high half stands; poison goes with the data. -/
def execVnarr (x : Ins) (o : Vop) (amt : Nat) (s : State) : Res :=
  let k := x.core.val
  let w := eszW o.esz
  .next (s.vrun x (fun s =>
    if o.esz.val = 0 ∨ o.esz.val = 3 ∨ 8 * w ≤ amt then .trap s xIllegal none
    else
      let c := s.core k
      let a := c.vec o.vs1
      let n := 64 / w
      let act := fun i => (c.pred o.pg).getLsbD i
      let f := fun i => vsat (w / 2) (rndEven (sgn (8 * w) (a.elem w i)) amt)
      let r := vmake (c.vec o.vd) o.z (w / 2) n act (fun i => ((f i).1, a.bad w i))
      let t := s.vend k (c.setVec o.vd r)
      .ok { t with regs := noteVsat t.regs k ((List.range n).any (fun i => act i && (f i).2)) }))

/-- VWID (R218, R222): elements of the low half doubled in width; poison goes with the data. -/
def execVwid (x : Ins) (o : Vop) (s : State) : Res :=
  let k := x.core.val
  let w := eszW o.esz
  .next (s.vrun x (fun s =>
    if 2 ≤ o.esz.val then .trap s xIllegal none
    else
      let c := s.core k
      let a := c.vec o.vs1
      let r := vmake (c.vec o.vd) o.z (2 * w) (32 / w) (fun i => (c.pred o.pg).getLsbD i)
        (fun i => (twos (16 * w) (sgn (8 * w) (a.elem w i)), a.bad w i))
      .ok (s.vend k (c.setVec o.vd r))))

/-- VADD (R218): wraps. -/
def execVadd (x : Ins) (o : Vop) (s : State) : Res := .next (s.varith x o true (fun w a b => (twos (8 * w) (a + b), false)))

/-- VSUB (R218): wraps. -/
def execVsub (x : Ins) (o : Vop) (s : State) : Res := .next (s.varith x o true (fun w a b => (twos (8 * w) (a - b), false)))

/-- VMUL (R218): the low half. -/
def execVmul (x : Ins) (o : Vop) (s : State) : Res := .next (s.varith x o true (fun w a b => (twos (8 * w) (a * b), false)))

/-- VECTOR_LOGIC (R222, R228). -/
def execVectorLogic (x : Ins) (opc : BitVec 6) (o : Vop) (s : State) : Res :=
  let w := eszW o.esz
  .next (s.vrun x (fun s =>
    if o.esz.val = 3 then .trap s xIllegal none
    else vecBody x.core o w true (fun a b => (Config.vlogic opc (8 * w) a b, false)) s))

/-- VECTOR_COMPARE (R214, R222, R228): vd names a predicate. -/
def execVectorCompare (x : Ins) (opc : BitVec 6) (o : Vop) (s : State) : Res :=
  let k := x.core.val
  let w := eszW o.esz
  let n := 64 / w
  .next (s.vrun x (fun s =>
    let c := s.core k
    let a := c.vec o.vs1
    let b := c.vec o.vs2
    let act := fun i => (c.pred o.pg).getLsbD i
    if o.esz.val = 3 ∨ 16 ≤ o.vd.val then .trap s xIllegal none
    else match (List.range n).find? (fun i => act i && (a.bad w i || b.bad w i)) with
      | some i => s.vpoison k i 0
      | none =>
        let old := c.pred o.vd
        .ok (s.vend k (c.setPred o.vd (pmake n (fun i =>
          if act i then Config.vcmp opc (8 * w) (a.elem w i) (b.elem w i) else !o.z && old.getLsbD i))))))

/-- VECTOR_PERMUTE (R222, R228): elements move with their poison. -/
def execVectorPermute (x : Ins) (opc : BitVec 6) (o : Vop) (s : State) : Res :=
  let k := x.core.val
  let w := eszW o.esz
  let n := 64 / w
  .next (s.vrun x (fun s =>
    if o.esz.val = 3 then .trap s xIllegal none
    else
      let c := s.core k
      let a := c.vec o.vs1
      let b := c.vec o.vs2
      let src := fun i => Config.vperm opc (8 * w) a.v b.v i % (2 * n)
      let r := vmake (c.vec o.vd) o.z w n (fun i => (c.pred o.pg).getLsbD i) (fun i =>
        if src i < n then (a.elem w (src i), a.bad w (src i)) else (b.elem w (src i - n), b.bad w (src i - n)))
      .ok (s.vend k (c.setVec o.vd r))))

/-- VECTOR_REDUCTION (R222, R228): the active elements of the first source into a general register. -/
def execVectorReduction (x : Ins) (opc : BitVec 6) (rd : Fin 32) (o : Vop) (s : State) : Res :=
  let k := x.core.val
  let w := eszW o.esz
  .next (s.vrun x (fun s =>
    let c := s.core k
    let a := c.vec o.vs1
    let act := (List.range (64 / w)).filter (fun i => (c.pred o.pg).getLsbD i)
    if o.esz.val = 3 then .trap s xIllegal none
    else match act.find? (fun i => a.bad w i) with
      | some i => s.vpoison k i 0
      | none => .ok (s.vend k (c.setReg .g rd ⟨Config.vreduce opc (8 * w) (act.map (a.elem w)), false⟩))))

/-- PREDICATE_LOGIC (R228): the bits of the elements; those above are cleared (R214). -/
def execPredicateLogic (x : Ins) (opc : BitVec 6) (d : PredEsz) (s1 s2 : Fin 16) (s : State) : Res :=
  let k := x.core.val
  .next (s.vrun x (fun s =>
    let c := s.core k
    let r := Config.plogic opc (c.pred s1) (c.pred s2)
    if d.esz.val = 3 then .trap s xIllegal none
    else .ok (s.vend k (c.setPred d.p (pmake (64 / eszW d.esz) (fun i => r.getLsbD i))))))

/-- VPLT (R216). -/
def execVplt (x : Ins) (pd : Fin 16) (gs gt : Fin 32) (esz : Fin 4) (s : State) : Res :=
  let k := x.core.val
  let n := 64 / eszW esz
  .next (s.vrun x (fun s =>
    let c := s.core k
    if esz.val = 3 then .trap s xIllegal none
    else arith2 s (c.reg .g gs) (c.reg .g gt) (fun a b =>
      let f := fun i => decide (a.toNat + i < b.toNat)
      let t := s.vend k (c.setPred pd (pmake n f))
      .ok { t with regs := putFlag t.regs k (f 0) })))

/-- VINC (R217). -/
def execVinc (x : Ins) (gd : Fin 32) (esz : Fin 4) (s : State) : Res :=
  let k := x.core.val
  .next (s.vrun x (fun s =>
    let c := s.core k
    let r := c.reg .g gd
    if esz.val = 3 then .trap s xIllegal none
    else arith2 s r r (fun a _ => .ok (s.vend k (c.setReg .g gd ⟨a + BitVec.ofNat 32 (64 / eszW esz), false⟩)))))

/-- VDUP (R228): a register or an immediate into every active element, with its poison. -/
def execVdup (x : Ins) (vd : Fin 32) (src : GImm) (pg : Fin 16) (z : Bool) (esz : Fin 4) (s : State) : Res :=
  let k := x.core.val
  let w := eszW esz
  .next (s.vrun x (fun s =>
    if esz.val = 3 then .trap s xIllegal none
    else
      let c := s.core k
      let r := c.gimm src
      .ok (s.vend k (c.setVec vd (vmake (c.vec vd) z w (64 / w) (fun i => (c.pred pg).getLsbD i) (fun _ => (r.v.toNat, r.p)))))))

/-- VMOVG (R222, R228): one element into a general register; the bits above a narrow element, and an element beyond the vector, are
open (log entry 22). An inactive element is not used: the register keeps its value, or is zero where z is 1 (log entry 205). -/
def execVmovg (x : Ins) (gd : Fin 32) (vs : Fin 32) (idx : GImm) (o : GovEsz) (s : State) : Res :=
  let k := x.core.val
  let esz := o.esz
  let w := eszW esz
  .next (s.vrun x (fun s =>
    let c := s.core k
    let a := c.vec vs
    let i := c.gimm idx
    let j := i.v.toNat
    if esz.val = 3 then .trap s xIllegal none
    else if i.p then .trap s xPoison none
    else if 64 / w ≤ j then .ok ((s.vend k (c.setReg .g gd ⟨BitVec.ofNat 32 (s.peek 0), false⟩)).drawn 1)
    else if !(c.pred o.pg).getLsbD j then .ok (s.vend k (if o.z then c.setReg .g gd ⟨0, false⟩ else c))
    else if a.bad w j then s.vpoison k j 0
    else .ok (s.vend k (c.setReg .g gd ⟨if w = 4 then BitVec.ofNat 32 (a.elem w j) else widen esz (a.elem w j), false⟩))))

/-- VPTST (R222). -/
def execVptst (x : Ins) (pd : Fin 16) (vs : Fin 32) (pg : Fin 16) (esz : Fin 4) (s : State) : Res :=
  let k := x.core.val
  let w := eszW esz
  let n := 64 / w
  .next (s.vrun x (fun s =>
    if esz.val = 3 then .trap s xIllegal none
    else
      let c := s.core k
      let f := fun i => (c.pred pg).getLsbD i && (c.vec vs).bad w i
      let t := s.vend k (c.setPred pd (pmake n f))
      .ok { t with regs := putFlag t.regs k ((List.range n).any f) }))

/-- Set ZCR_VLIM and end the instruction. -/
def State.setVlim (s : State) (k n : Nat) : State :=
  { s with regs := putR (vdone s.regs k) (Rg.ZCR_VLIM k) Fd.ZCR_VLIM_vlim n }

/-- ZCR_VLIM. -/
def vlim (regs : SMap Word) (k : Nat) : Nat := getR regs (Rg.ZCR_VLIM k) Fd.ZCR_VLIM_vlim

/-- VLIMSET (R226). -/
def execVlimset (x : Ins) (s : State) : Res :=
  .next (s.vrun x (fun s => .ok (s.setVlim x.core 64)))

/-- VLIMW (R226). -/
def execVlimw (x : Ins) (gs : Fin 32) (s : State) : Res :=
  let k := x.core.val
  .next (s.vrun x (fun s =>
    let r := (s.core k).reg .g gs
    arith2 s r r (fun a _ => .ok (s.setVlim k (min a.toNat 64)))))

/-- VLIMR (R226). -/
def execVlimr (x : Ins) (gd : Fin 32) (s : State) : Res :=
  let k := x.core.val
  .next (s.vrun x (fun s => .ok (s.vend k ((s.core k).setReg .g gd ⟨BitVec.ofNat 32 (vlim s.regs k), false⟩))))

/-- VLIMP (R226). -/
def execVlimp (x : Ins) (pd pg : Fin 16) (esz : Fin 4) (s : State) : Res :=
  let k := x.core.val
  let w := eszW esz
  let n := 64 / w
  .next (s.vrun x (fun s =>
    if esz.val = 3 then .trap s xIllegal none
    else
      let c := s.core k
      let g := c.pred pg
      let f := fun i => g.getLsbD i && decide (i * w < vlim s.regs k)
      let t := s.vend k (c.setPred pd (pmake n f))
      let d := (t.core k).pred pd
      .ok { t with regs := putFlag t.regs k ((List.range n).all (fun i => d.getLsbD i == g.getLsbD i)) }))

/-- What stops a restartable access (R224). -/
inductive VFault where
  | decode (a : Nat)
  | align (a : Nat)
  | poison
  deriving DecidableEq, Repr

/-- ZCR_VSTART. -/
def vstart (regs : SMap Word) (k : Nat) : Nat := getR regs (Rg.ZCR_VSTART k) Fd.ZCR_VSTART_vstart

/-- Elements of `w` bytes at addresses, as accesses that stay within 64-byte lines: first address and elements (R189). -/
def lineRuns (w : Nat) : List (Nat × Nat) → List (Nat × List Nat)
  | [] => []
  | (i, a) :: es =>
    match lineRuns w es with
    | [] => [(a, [i])]
    | (b, js) :: rs => if b = a + w ∧ a / 64 = b / 64 then (a, i :: js) :: rs else (a, [i]) :: (b, js) :: rs

/-- The first active element from VSTART on that faults, of elements with their addresses (none: a poisoned index or address). -/
def State.vfault (s : State) (k w : Nat) (es : List (Nat × Option Word)) : Option (Nat × VFault) :=
  es.findSome? (fun e => match e.2 with
    | none => some (e.1, .poison)
    | some a =>
      if a.toNat % w ≠ 0 then some (e.1, .align a.toNat)
      else (s.coreBad k a.toNat w).map (fun b => (e.1, .decode b)))

/-- The exception of a faulting element (R224, R227): VSTART holds it. -/
def State.vtrap (s : State) (k elem : Nat) (f : VFault) : Act :=
  let t := { s with regs := putR s.regs (Rg.ZCR_VSTART k) Fd.ZCR_VSTART_vstart elem }
  match f with
  | .decode a => .trap (t.coreDecode k a) xvDecode (some (BitVec.ofNat 32 a))
  | .align a => .trap t xvAlign (some (BitVec.ofNat 32 a))
  | .poison => s.vpoison k elem elem

/-- Elements at addresses, each an access of its own (R223). -/
def eachRun (es : List (Nat × Nat)) : List (Nat × List Nat) := es.map (fun e => (e.2, [e.1]))

/-- Load elements into a vector by accesses: `lane` bytes wide, `ext` makes a lane from a datum of `w` bytes. -/
def State.vloads (s : State) (k vd w lane : Nat) (ext : Nat → Nat) (runs : List (Nat × List Nat)) : State :=
  runs.foldl (fun (s : State) r =>
    let n := w * r.2.length
    let bs := s.coreBytes k r.1 n
    let t := s.coreRead k r.1 n
    let c := t.core k
    let v := ((List.range r.2.length).zip r.2).foldl (fun (v : VReg) e =>
      let d := (bs.drop (w * e.1)).take w
      v.put lane e.2 (ext (leNat (vals d))) (anyP d)) (c.vec vd)
    t.setCore k (c.setVec vd v)) s

/-- Store elements of a vector by accesses. -/
def State.vstores (s : State) (k vs w lane : Nat) (runs : List (Nat × List Nat)) : State :=
  let v := (s.core k).vec vs
  runs.foldl (fun (s : State) r =>
    s.coreWrite k r.1 (r.2.flatMap (fun i => (leBytes w (v.elem lane i)).map (fun b => (⟨b, v.bad lane i⟩ : PByte))))) s

/-- A restartable access (R224 to R226): elements below the fault complete; the fault is raised, or, first-fault, ends the
instruction where it is not the first active element. `es` are the active elements from VSTART on; `move` makes the accesses;
`finish` what completion does beside; `lane` the bytes by which ZCR_VLIM counts. -/
def State.restartable (s : State) (k w lane n : Nat) (ff : Bool) (es : List (Nat × Option Word))
    (move : State → List (Nat × Nat) → State) (finish : Core → Core) : Act :=
  if n ≤ vstart s.regs k then .trap s xvStart none
  else
    let good := fun (hi : Nat) => es.filterMap (fun e => if e.1 < hi then e.2.map (fun a => (e.1, a.toNat)) else none)
    match s.vfault k w es with
    | none =>
      let t := move s (good n)
      .ok (t.vend k (finish (t.core k)))
    | some (i, f) =>
      let t := move s (good i)
      if ff && (es.head?.map (·.1)) != some i then
        let u := t.vend k (finish (t.core k))
        .ok { u with regs := putR u.regs (Rg.ZCR_VLIM k) Fd.ZCR_VLIM_vlim (min (vlim u.regs k) (i * lane)) }
      else t.vtrap k i f

/-- Active elements from VSTART on. -/
def State.vactive (s : State) (k pg n : Nat) : List Nat :=
  (List.range n).filter (fun i => decide (vstart s.regs k ≤ i) && ((s.core k).pred pg).getLsbD i)

/-- Unit of an address offset (R220): the vector length, but bytes where mode 4 wraps. -/
def vecUnit (c : Core) (m : AMode) : Nat := if m.mode.val = 4 ∧ (c.reg .w m.a).v ≠ 0 then 1 else 64

/-- A contiguous access of a vector (R220): its address operand, then `go` with the elements and what completion does to An. -/
def contiguous (k : Nat) (m : AMode) (pg esz : Nat) (s : State)
    (go : Nat → List (Nat × Option Word) → (Core → Core) → Act) : Act :=
  let w := eszW esz
  let act := s.vactive k pg (64 / w)
  if esz = 3 ∨ m.mode.val = 5 then .trap s xIllegal none
  else match (s.core k).ea m w (vecUnit (s.core k) m) with
    | .at ea new => go w (act.map (fun i => (i, some (ea + BitVec.ofNat 32 (i * w))))) (fun c => c.post m.a new)
    | .bad c =>
      if c = xPoison then go w (act.map (fun i => (i, none))) (fun c => c)
      else .trap s c none

/-- VLD (R220, R221). -/
def execVld (x : Ins) (vd : Fin 32) (m : AMode) (pg : Fin 16) (esz : Fin 4) (s : State) : Res :=
  let k := x.core.val
  .next (s.vrun x (fun s => contiguous k m pg esz s (fun w es fin =>
    s.restartable k w w (64 / w) false es (fun s l => s.vloads k vd w w id (lineRuns w l)) fin)))

/-- VST (R220, R221). -/
def execVst (x : Ins) (vs : Fin 32) (m : AMode) (pg : Fin 16) (esz : Fin 4) (s : State) : Res :=
  let k := x.core.val
  .next (s.vrun x (fun s => contiguous k m pg esz s (fun w es fin =>
    s.restartable k w w (64 / w) false es (fun s l => s.vstores k vs w w (lineRuns w l)) fin)))

/-- Elements of a gather or scatter with their addresses (R223); none where the index or the address register is poisoned. -/
def State.lanes (s : State) (k : Nat) (o : Gop) : List (Nat × Option Word) :=
  let c := s.core k
  let a := c.reg .a o.a
  let vi := c.vec o.vi
  (s.vactive k o.pg 16).map (fun i =>
    (i, if a.p || vi.bad 4 i then none else some (a.v + (BitVec.ofNat 32 (vi.elem 4 i) <<< o.sh.val))))

/-- A gathered datum of `w` bytes as a lane (R223). -/
def laneOf (w : Nat) (sx : Bool) (n : Nat) : Nat := if sx then n else twos 32 (sgn (8 * w) n)

/-- A gather (R223, R224). -/
def gather (k : Nat) (o : Gop) (ff : Bool) (s : State) : Act :=
  let w := eszW o.esz
  if o.esz.val = 3 then .trap s xIllegal none
  else s.restartable k w 4 16 ff (s.lanes k o) (fun s l => s.vloads k o.vd w 4 (laneOf w o.sx) (eachRun l)) id

/-- VGATH (R223). -/
def execVgath (x : Ins) (o : Gop) (s : State) : Res := .next (s.vrun x (gather x.core o false))

/-- VSCAT (R223): lanes in ascending order, so the higher lane's value stands. -/
def execVscat (x : Ins) (o : Gop) (s : State) : Res :=
  let k := x.core.val
  let w := eszW o.esz
  .next (s.vrun x (fun s =>
    if o.esz.val = 3 then .trap s xIllegal none
    else s.restartable k w 4 16 false (s.lanes k o) (fun s l => s.vstores k o.vd w 4 (eachRun l)) id))

/-- VLDFF (R226). -/
def execVldff (x : Ins) (f : FfForm) (s : State) : Res :=
  let k := x.core.val
  .next (s.vrun x (fun s => match f with
    | .contiguous vd m pg esz => contiguous k m pg esz s (fun w es fin =>
        s.restartable k w w (64 / w) true es (fun s l => s.vloads k vd w w id (lineRuns w l)) fin)
    | .gather o => gather k o true s))

/-- An access to bytes `js` of a record of `n` bytes, which is not restartable and aligned to 8 bytes (R228, R229): vector causes. Bytes
that only inactive elements reach are not accessed (R215). -/
def State.vaccess (s : State) (k : Nat) (ea : Word) (n : Nat) (js : List Nat) (go : Unit → Act) : Act :=
  if ea.toNat % 8 ≠ 0 then s.vtrap k 0 (.align ea.toNat)
  else match (if js.length = n then s.coreBad k ea.toNat n else js.findSome? (fun j => s.coreBad k (ea.toNat + j) 1)) with
    | some a => s.vtrap k 0 (.decode a)
    | none => go ()

/-- Elements that a governing predicate makes active (R214). -/
def Core.actives (c : Core) (pg n : Nat) : List Nat := (List.range n).filter (fun i => (c.pred pg).getLsbD i)

/-- Run an access of a whole record under a governing predicate (R215; log entry 170): with no active element it makes none and raises
nothing; `go` has the active elements. -/
def governed (k pg esz : Nat) (s : State) (go : List Nat → Act) : Act :=
  let act := (s.core k).actives pg (64 / eszW esz)
  if esz = 3 then .trap s xIllegal none
  else if act = [] then .ok (s.vend k (s.core k))
  else go act

/-- Read bytes from a core address on, part by part of the core's address space. -/
def State.readParts (s : State) (k ca n : Nat) : List PByte × State :=
  (coreParts ca n).foldl (fun r p => (r.1 ++ r.2.coreBytes k p.1 p.2, r.2.coreRead k p.1 p.2)) ([], s)

/-- Write bytes from a core address on, part by part of the core's address space. -/
def State.writeParts (s : State) (k ca : Nat) (bs : List PByte) : State :=
  (coreParts ca bs.length).foldl (fun s p => s.coreWrite k p.1 ((bs.drop (p.1 - ca)).take p.2)) s

/-- Read bytes `js` of a record of `n` bytes; those not read come as zeros. -/
def State.readRecord (s : State) (k ca n : Nat) (js : List Nat) : List PByte × State :=
  if js.length = n then s.readParts k ca n
  else (List.range n).foldl (fun r j =>
    if js.contains j then
      let q := r.2.readParts k (ca + j) 1
      (r.1 ++ q.1, q.2)
    else (r.1 ++ [⟨0, false⟩], r.2)) ([], s)

/-- Write bytes `js` of a record. -/
def State.writeRecord (s : State) (k ca : Nat) (js : List Nat) (bs : List PByte) : State :=
  if js.length = bs.length then s.writeParts k ca bs
  else js.foldl (fun s j => s.writeParts k (ca + j) ((bs.drop j).take 1)) s

/-- Bytes of a predicate of `n` elements that active elements reach: all eight where every element is active. -/
def predBytes (n : Nat) (act : List Nat) : List Nat :=
  if act.length = n then List.range 8 else (List.range 8).filter (fun j => act.any (fun i => i / 8 == j))

/-- The address operand of a predicate access of 8 bytes. -/
def predAddr (k : Nat) (m : AMode) (s : State) (js : List Nat) (go : Word → Word → Act) : Act :=
  match (s.core k).ea m 8 8 with
  | .at ea new => s.vaccess k ea 8 js (fun _ => go ea new)
  | .bad c => if c = xPoison then s.vpoison k 0 0 else .trap s c none

/-- VLDP (R214, R228): the bits of active elements are loaded, the others stand, and those above the elements are cleared; a predicate
holds no poison, so poisoned bytes are consumed. -/
def execVldp (x : Ins) (pd : Fin 16) (m : GovMode) (s : State) : Res :=
  let k := x.core.val
  let n := 64 / eszW m.esz
  .next (s.vrun x (fun s => governed k m.pg m.esz s (fun act => predAddr k m.m s (predBytes n act) (fun ea new =>
    let r := s.readRecord k ea.toNat 8 (predBytes n act)
    let bs := r.1
    let t := r.2
    let raw := leNat (vals bs)
    let old := (s.core k).pred pd
    let p := pmake n (fun i => if act.contains i then raw.testBit i else old.getLsbD i)
    match act.find? (fun i => (nth ⟨0, false⟩ bs (i / 8)).p) with
    | some i => t.vpoison k i 0
    | none => .ok (t.vend k (((t.core k).post m.m.a new).setPred pd p))))))

/-- VSTP (R215, R228): the bytes that active elements reach. -/
def execVstp (x : Ins) (pd : Fin 16) (m : GovMode) (s : State) : Res :=
  let k := x.core.val
  .next (s.vrun x (fun s => governed k m.pg m.esz s (fun act =>
    let js := predBytes (64 / eszW m.esz) act
    predAddr k m.m s js (fun ea new =>
    let t := s.writeRecord k ea.toNat js (clean (leBytes 8 ((s.core k).pred pd).toNat))
    .ok (t.vend k ((t.core k).post m.m.a new))))))

/-- The address of a vector save area: An, 8-byte aligned (R229). -/
def saveAddr (k a : Nat) (s : State) (js : List Nat) (go : Word → Act) : Act :=
  let r := (s.core k).reg .a a
  if r.p then s.vpoison k 0 0 else s.vaccess k r.v 72 js (fun _ => go r.v)

/-- A saved vector (R229): its data bytes and its poison mask. -/
def vecOf (bs : List Byte) : VReg := ⟨BitVec.ofNat 512 (leNat (bs.take 64)), BitVec.ofNat 64 (leNat (bs.drop 64))⟩

/-- Take some elements of one vector, with the poison of each of their bytes, and the rest of another. -/
def VReg.mix (old new : VReg) (w : Nat) (act : List Nat) : VReg :=
  let m : BitVec 64 := BitVec.ofNat 64 (act.foldl (fun n i => n + (2 ^ w - 1) * 2 ^ (w * i)) 0)
  let d : BitVec 512 := BitVec.ofNat 512 (act.foldl (fun n i => n + (2 ^ (8 * w) - 1) * 2 ^ (8 * w * i)) 0)
  ⟨(old.v &&& ~~~ d) ||| (new.v &&& d), (old.p &&& ~~~ m) ||| (new.p &&& m)⟩

/-- Bytes of the record of a vector that some elements reach: their data, and the mask bytes that hold a bit of theirs; all 72 where every
element is active. -/
def recordBytes (w : Nat) (act : List Nat) : List Nat :=
  if act.length = 64 / w then List.range 72
  else (List.range 72).filter (fun j => if j < 64 then act.contains (j / w)
    else (List.range 8).any (fun b => act.contains (((j - 64) * 8 + b) / w)))

/-- VLDX (R215, R229): the active elements and their poison exactly. -/
def execVldx (x : Ins) (vd : Fin 32) (a : GovAddr) (s : State) : Res :=
  let k := x.core.val
  .next (s.vrun x (fun s => governed k a.pg a.esz s (fun act => saveAddr k a.a s (recordBytes (eszW a.esz) act) (fun ea =>
    let r := s.readRecord k ea.toNat 72 (recordBytes (eszW a.esz) act)
    let c := r.2.core k
    .ok (r.2.vend k (c.setVec vd ((c.vec vd).mix (vecOf (vals r.1)) (eszW a.esz) act)))))))

/-- VSTX (R229): the data bytes of the active elements without poison, then the mask. -/
def execVstx (x : Ins) (vs : Fin 32) (a : GovAddr) (s : State) : Res :=
  let k := x.core.val
  .next (s.vrun x (fun s => governed k a.pg a.esz s (fun act => saveAddr k a.a s (recordBytes (eszW a.esz) act) (fun ea =>
    let v := (s.core k).vec vs
    let bs := clean (leBytes 64 v.v.toNat ++ leBytes 8 v.p.toNat)
    let t := s.writeRecord k ea.toNat (recordBytes (eszW a.esz) act) bs
    .ok (t.vend k (t.core k))))))

end Sys2Proof.Machine
end

