-- ==== Sys2Proof/Machine/Dispatch.lean ====
section
/-! DEFINITION. One arm per command: its meaning, or its refusal by name. -/
namespace Sys2Proof.Machine

def exec (i : Instr) (s : State) : Host.Outcome State Fault Refusal :=
  match i with
  | .tickArrival t => Sys2Proof.Machine.execTickArrival t s
  | .tickHandling sensors => Sys2Proof.Machine.execTickHandling sensors s
  | .watchdogFire item => Sys2Proof.Machine.execWatchdogFire item s
  | .itemCompletion item => Sys2Proof.Machine.execItemCompletion item s
  | .staleWrite unit gen => Sys2Proof.Machine.execStaleWrite unit gen s
  | .gatedItemStart item => Sys2Proof.Machine.execGatedItemStart item s
  | .lateResultDescriptor grant => Sys2Proof.Machine.execLateResultDescriptor grant s
  | .transmissionReport grant => Sys2Proof.Machine.execTransmissionReport grant s
  | .rejectedEnqueueRetry => Sys2Proof.Machine.execRejectedEnqueueRetry s
  | .drumEnable v => Sys2Proof.Machine.execDrumEnable v s
  | .drumDisable v => Sys2Proof.Machine.execDrumDisable v s
  | .drumFirstTick t => Sys2Proof.Machine.execDrumFirstTick t s
  | .drumResume t => Sys2Proof.Machine.execDrumResume t s
  | .drumRealignment t => Sys2Proof.Machine.execDrumRealignment t s
  | .mailboxDoorbell n v => Sys2Proof.Machine.execMailboxDoorbell n v s
  | .mailboxRelease n v => Sys2Proof.Machine.execMailboxRelease n v s
  | .nringConsumerWrite v => Sys2Proof.Machine.execNringConsumerWrite v s
  | .notificationBacklogDrain => Sys2Proof.Machine.execNotificationBacklogDrain s
  | .hostDiscardsClear v => Sys2Proof.Machine.execHostDiscardsClear v s
  | .bar0WriteDiscard off data ep => Sys2Proof.Machine.execBar0WriteDiscard off data ep s
  | .expertWindowAccess off size wr ep => Sys2Proof.Machine.execExpertWindowAccess off size wr ep s
  | .expertLeaseExpiry => Sys2Proof.Machine.execExpertLeaseExpiry s
  | .relayHopTimeout n hop => Sys2Proof.Machine.execRelayHopTimeout n hop s
  | .identify n => Sys2Proof.Machine.execIdentify n s
  | .ping n => Sys2Proof.Machine.execPing n s
  | .nringSetup n => Sys2Proof.Machine.execNringSetup n s
  | .msixMap n => Sys2Proof.Machine.execMsixMap n s
  | .levelSet n => Sys2Proof.Machine.execLevelSet n s
  | .expertAcquire n => Sys2Proof.Machine.execExpertAcquire n s
  | .expertRelease n => Sys2Proof.Machine.execExpertRelease n s
  | .expertRead n => Sys2Proof.Machine.execExpertRead n s
  | .expertWrite n => Sys2Proof.Machine.execExpertWrite n s
  | .expertClass n => Sys2Proof.Machine.execExpertClass n s
  | .functionExpertRead n => Sys2Proof.Machine.execFunctionExpertRead n s
  | .functionExpertWrite n => Sys2Proof.Machine.execFunctionExpertWrite n s
  | .carrierAdd n => Sys2Proof.Machine.execCarrierAdd n s
  | .carrierRemove n => Sys2Proof.Machine.execCarrierRemove n s
  | .carrierQuery n => Sys2Proof.Machine.execCarrierQuery n s
  | .drumStart n => Sys2Proof.Machine.execDrumStart n s
  | .drumStop n => Sys2Proof.Machine.execDrumStop n s
  | .flowAdd n => Sys2Proof.Machine.execFlowAdd n s
  | .flowRemove n => Sys2Proof.Machine.execFlowRemove n s
  | .budgetSet n => Sys2Proof.Machine.execBudgetSet n s
  | .cadenceBind n => Sys2Proof.Machine.execCadenceBind n s
  | .cadenceUnbind n => Sys2Proof.Machine.execCadenceUnbind n s
  | .clusterStatus n => Sys2Proof.Machine.execClusterStatus n s
  | .clusterRetire n => Sys2Proof.Machine.execClusterRetire n s
  | .clusterRepair n => Sys2Proof.Machine.execClusterRepair n s
  | .clusterRepairTestEnd c pass testStep => Sys2Proof.Machine.execClusterRepairTestEnd c pass testStep s
  | .ethPortConfig n => Sys2Proof.Machine.execEthPortConfig n s
  | .ecpriFlowMap n => Sys2Proof.Machine.execEcpriFlowMap n s
  | .timebaseConfigure n => Sys2Proof.Machine.execTimebaseConfigure n s
  | .timebaseLoadEstimate n => Sys2Proof.Machine.execTimebaseLoadEstimate n s
  | .timebaseSetTime n => Sys2Proof.Machine.execTimebaseSetTime n s
  | .timebaseTimeOfDay n => Sys2Proof.Machine.execTimebaseTimeOfDay n s
  | .timeOfDayTimeout => Sys2Proof.Machine.execTimeOfDayTimeout s
  | .ptpPortConfig n => Sys2Proof.Machine.execPtpPortConfig n s
  | .timeStatus n => Sys2Proof.Machine.execTimeStatus n s
  | .dacConfig n => Sys2Proof.Machine.execDacConfig n s
  | .spanLinkConfig n => Sys2Proof.Machine.execSpanLinkConfig n s
  | .relayEnumerate n => Sys2Proof.Machine.execRelayEnumerate n s
  | .relayEnumerateDone devs => Sys2Proof.Machine.execRelayEnumerateDone devs s
  | .eyeScan n => Sys2Proof.Machine.execEyeScan n s
  | .queueCreate n => Sys2Proof.Machine.execQueueCreate n s
  | .queueDelete n => Sys2Proof.Machine.execQueueDelete n s
  | .powerStateSet n => Sys2Proof.Machine.execPowerStateSet n s
  | .powerStatus n => Sys2Proof.Machine.execPowerStatus n s
  | .lanternConfig n => Sys2Proof.Machine.execLanternConfig n s
  | .eventMask n => Sys2Proof.Machine.execEventMask n s
  | .snapshotRequest n => Sys2Proof.Machine.execSnapshotRequest n s
  | .recorderRead n => Sys2Proof.Machine.execRecorderRead n s
  | .fwStage n => Sys2Proof.Machine.execFwStage n s
  | .fwStageDone selfTest => Sys2Proof.Machine.execFwStageDone selfTest s
  | .fwActivate n => Sys2Proof.Machine.execFwActivate n s
  | .probationEnd => Sys2Proof.Machine.execProbationEnd s
  | .debugUnlock n => Sys2Proof.Machine.execDebugUnlock n s
  | .debugUnlockExpiry => Sys2Proof.Machine.execDebugUnlockExpiry s
  | .controlLockstepDisagree => Sys2Proof.Machine.execControlLockstepDisagree s
  | .controlMachineCheck pair addr => Sys2Proof.Machine.execControlMachineCheck pair addr s
  | .heartbeatTimeout => Sys2Proof.Machine.execHeartbeatTimeout s
  | .takeoverComplete => Sys2Proof.Machine.execTakeoverComplete s
  | .pairRecovery pair pass => Sys2Proof.Machine.execPairRecovery pair pass s
  | .pcieDomainReset => Sys2Proof.Machine.execPcieDomainReset s
  | .pcieEndpointReady => Sys2Proof.Machine.execPcieEndpointReady s
  | .bar2Read off len => Sys2Proof.Machine.execBar2Read off len s
  | .bar2Write off data ep => Sys2Proof.Machine.execBar2Write off data ep s
  | .fronthaulRxFrame port f => Sys2Proof.Machine.execFronthaulRxFrame port f s
  | .uplaneTx item => Sys2Proof.Machine.execUplaneTx item s
  | .synceSquelch o => Sys2Proof.Machine.execSynceSquelch o s
  | .portLinkChange port up lock an => Sys2Proof.Machine.execPortLinkChange port up lock an s
  | .apply c => Sys2Proof.Machine.execApply c s
  | .apply2 c => Sys2Proof.Machine.execApply2 c s
  | .gram c => Sys2Proof.Machine.execGram c s
  | .chol c => Sys2Proof.Machine.execChol c s
  | .solve c => Sys2Proof.Machine.execSolve c s
  | .ldpcDecode c => Sys2Proof.Machine.execLdpcDecode c s
  | .turboDecode c => Sys2Proof.Machine.execTurboDecode c s
  | .ldpcTb c => Sys2Proof.Machine.execLdpcTb c s
  | .turboTb c => Sys2Proof.Machine.execTurboTb c s
  | .polarDci c => Sys2Proof.Machine.execPolarDci c s
  | .polarPbch c => Sys2Proof.Machine.execPolarPbch c s
  | .polarUciDec c => Sys2Proof.Machine.execPolarUciDec c s
  | .engineResultReturn c tag => Sys2Proof.Machine.execEngineResultReturn c tag s
  | .lateError c tag parity => Sys2Proof.Machine.execLateError c tag parity s
  | .lateErrorPop c k v => Sys2Proof.Machine.execLateErrorPop c k v s
  | .tagFree c tag => Sys2Proof.Machine.execTagFree c tag s
  | .ciss x r1 a eng h => Sys2Proof.Machine.execCiss x r1 a eng h s
  | .commitToken c tag => Sys2Proof.Machine.execCommitToken c tag s
  | .ccmt x r2 => Sys2Proof.Machine.execCcmt x r2 s
  | .ckil x r2 => Sys2Proof.Machine.execCkil x r2 s
  | .ctstE x eng => Sys2Proof.Machine.execCtstE x eng s
  | .ctstT x r2 => Sys2Proof.Machine.execCtstT x r2 s
  | .crkl x r1 r2 => Sys2Proof.Machine.execCrkl x r1 r2 s
  | .systemQueueTake c => Sys2Proof.Machine.execSystemQueueTake c s
  | .core0LockstepDisagree c => Sys2Proof.Machine.execCore0LockstepDisagree c s
  | .spareActivationDone c pass => Sys2Proof.Machine.execSpareActivationDone c pass s
  | .retiredClusterDrained c => Sys2Proof.Machine.execRetiredClusterDrained c s
  | .load x file size rd m => Sys2Proof.Machine.execLoad x file size rd m s
  | .store x file size rs m => Sys2Proof.Machine.execStore x file size rs m s
  | .alu x form opc func rd rs1 rs2 => Sys2Proof.Machine.execAlu x form opc func rd rs1 rs2 s
  | .aluImmediate x form opc rd rs1 imm => Sys2Proof.Machine.execAluImmediate x form opc rd rs1 imm s
  | .compare x opc rs1 b => Sys2Proof.Machine.execCompare x opc rs1 b s
  | .mac x acc rs1 rs2 frac wide halves => Sys2Proof.Machine.execMac x acc rs1 rs2 frac wide halves s
  | .msu x acc rs1 rs2 frac wide halves => Sys2Proof.Machine.execMsu x acc rs1 rs2 frac wide halves s
  | .cmac x acc rs1 rs2 => Sys2Proof.Machine.execCmac x acc rs1 rs2 s
  | .mva x form acc rd => Sys2Proof.Machine.execMva x form acc rd s
  | .sta x form acc m => Sys2Proof.Machine.execSta x form acc m s
  | .expa x acc rd => Sys2Proof.Machine.execExpa x acc rd s
  | .clra x acc => Sys2Proof.Machine.execClra x acc s
  | .bexpclr x => Sys2Proof.Machine.execBexpclr x s
  | .tapm x acc o move => Sys2Proof.Machine.execTapm x acc o move s
  | .ld2 x size rdx rdy o => Sys2Proof.Machine.execLd2 x size rdx rdy o s
  | .ldst x size rd rs o => Sys2Proof.Machine.execLdst x size rd rs o s
  | .branch x cond disp => Sys2Proof.Machine.execBranch x cond disp s
  | .call x cond disp => Sys2Proof.Machine.execCall x cond disp s
  | .loop x count last => Sys2Proof.Machine.execLoop x count last s
  | .lpsave x a => Sys2Proof.Machine.execLpsave x a s
  | .lprest x a => Sys2Proof.Machine.execLprest x a s
  | .rti0 x => Sys2Proof.Machine.execRti0 x s
  | .rti1 x => Sys2Proof.Machine.execRti1 x s
  | .mfz x rd off => Sys2Proof.Machine.execMfz x rd off s
  | .mtz x rs off => Sys2Proof.Machine.execMtz x rs off s
  | .ptst x file rs => Sys2Proof.Machine.execPtst x file rs s
  | .wait x => Sys2Proof.Machine.execWait x s
  | .sync x => Sys2Proof.Machine.execSync x s
  | .interruptLevel0 k => Sys2Proof.Machine.execInterruptLevel0 k s
  | .interruptLevel1 k => Sys2Proof.Machine.execInterruptLevel1 k s
  | .storeBufferDrain k => Sys2Proof.Machine.execStoreBufferDrain k s
  | .coreRunStart k v => Sys2Proof.Machine.execCoreRunStart k v s
  | .coreRunStop k v => Sys2Proof.Machine.execCoreRunStop k v s
  | .coreTimerExpiry k => Sys2Proof.Machine.execCoreTimerExpiry k s
  | .softInterruptSet k v => Sys2Proof.Machine.execSoftInterruptSet k v s
  | .vadds x o => Sys2Proof.Machine.execVadds x o s
  | .vsubs x o => Sys2Proof.Machine.execVsubs x o s
  | .vabss x o => Sys2Proof.Machine.execVabss x o s
  | .vnegs x o => Sys2Proof.Machine.execVnegs x o s
  | .vmulhr x o => Sys2Proof.Machine.execVmulhr x o s
  | .vcmulhr x o conj => Sys2Proof.Machine.execVcmulhr x o conj s
  | .vshrr x o amt => Sys2Proof.Machine.execVshrr x o amt s
  | .vshls x o amt => Sys2Proof.Machine.execVshls x o amt s
  | .vnarr x o amt => Sys2Proof.Machine.execVnarr x o amt s
  | .vwid x o => Sys2Proof.Machine.execVwid x o s
  | .vadd x o => Sys2Proof.Machine.execVadd x o s
  | .vsub x o => Sys2Proof.Machine.execVsub x o s
  | .vmul x o => Sys2Proof.Machine.execVmul x o s
  | .vectorLogic x opc o => Sys2Proof.Machine.execVectorLogic x opc o s
  | .vectorCompare x opc o => Sys2Proof.Machine.execVectorCompare x opc o s
  | .vectorPermute x opc o => Sys2Proof.Machine.execVectorPermute x opc o s
  | .vectorReduction x opc rd o => Sys2Proof.Machine.execVectorReduction x opc rd o s
  | .predicateLogic x opc d s1 s2 => Sys2Proof.Machine.execPredicateLogic x opc d s1 s2 s
  | .vld x vd m pg esz => Sys2Proof.Machine.execVld x vd m pg esz s
  | .vst x vs m pg esz => Sys2Proof.Machine.execVst x vs m pg esz s
  | .vldff x f => Sys2Proof.Machine.execVldff x f s
  | .vgath x o => Sys2Proof.Machine.execVgath x o s
  | .vscat x o => Sys2Proof.Machine.execVscat x o s
  | .vplt x pd gs gt esz => Sys2Proof.Machine.execVplt x pd gs gt esz s
  | .vinc x gd esz => Sys2Proof.Machine.execVinc x gd esz s
  | .vdup x vd src pg z esz => Sys2Proof.Machine.execVdup x vd src pg z esz s
  | .vmovg x gd vs idx o => Sys2Proof.Machine.execVmovg x gd vs idx o s
  | .vptst x pd vs pg esz => Sys2Proof.Machine.execVptst x pd vs pg esz s
  | .vlimset x => Sys2Proof.Machine.execVlimset x s
  | .vlimw x gs => Sys2Proof.Machine.execVlimw x gs s
  | .vlimr x gd => Sys2Proof.Machine.execVlimr x gd s
  | .vlimp x pd pg esz => Sys2Proof.Machine.execVlimp x pd pg esz s
  | .vldp x pd m => Sys2Proof.Machine.execVldp x pd m s
  | .vstp x pd m => Sys2Proof.Machine.execVstp x pd m s
  | .vldx x vd a => Sys2Proof.Machine.execVldx x vd a s
  | .vstx x vs a => Sys2Proof.Machine.execVstx x vs a s
  | .memoryRead agent addr len upset => Sys2Proof.Machine.execMemoryRead agent addr len upset s
  | .memoryWrite agent addr data => Sys2Proof.Machine.execMemoryWrite agent addr data s
  | .writeMergeFlush agent addr => Sys2Proof.Machine.execWriteMergeFlush agent addr s
  | .regionInit n v => Sys2Proof.Machine.execRegionInit n v s
  | .regionInitDone n => Sys2Proof.Machine.execRegionInitDone n s
  | .scrubVisit addr upset => Sys2Proof.Machine.execScrubVisit addr upset s
  | .repairRecordWrite addr => Sys2Proof.Machine.execRepairRecordWrite addr s
  | .errorInjectArm v => Sys2Proof.Machine.execErrorInjectArm v s
  | .errorInjectDisarm v => Sys2Proof.Machine.execErrorInjectDisarm v s
  | .dmaChannelStart e ch v => Sys2Proof.Machine.execDmaChannelStart e ch v s
  | .dmaCopy e ch => Sys2Proof.Machine.execDmaCopy e ch s
  | .dmaFill e ch => Sys2Proof.Machine.execDmaFill e ch s
  | .dmaCompare e ch => Sys2Proof.Machine.execDmaCompare e ch s
  | .dmaEnqueue e ch => Sys2Proof.Machine.execDmaEnqueue e ch s
  | .dmaDequeue e ch => Sys2Proof.Machine.execDmaDequeue e ch s
  | .dmaDescriptorComplete e ch => Sys2Proof.Machine.execDmaDescriptorComplete e ch s
  | .dmaLeaveStrict e v => Sys2Proof.Machine.execDmaLeaveStrict e v s
  | .dmaAbort e ch v => Sys2Proof.Machine.execDmaAbort e ch v s
  | .dmaAbortComplete e ch written => Sys2Proof.Machine.execDmaAbortComplete e ch written s
  | .pacingMarkCross e ch => Sys2Proof.Machine.execPacingMarkCross e ch s
  | .queueEnqueue agent q entry => Sys2Proof.Machine.execQueueEnqueue agent q entry s
  | .enqueueWriteResponse q => Sys2Proof.Machine.execEnqueueWriteResponse q s
  | .queueDequeue agent q => Sys2Proof.Machine.execQueueDequeue agent q s
  | .dequeueReadReturn q => Sys2Proof.Machine.execDequeueReadReturn q s
  | .queueInspect v => Sys2Proof.Machine.execQueueInspect v s
  | .linkEnable l v => Sys2Proof.Machine.execLinkEnable l v s
  | .linkDisable l v => Sys2Proof.Machine.execLinkDisable l v s
  | .linkRetrain l v => Sys2Proof.Machine.execLinkRetrain l v s
  | .linkTrainingEnd l aligned skews peerLink peerIndex => Sys2Proof.Machine.execLinkTrainingEnd l aligned skews peerLink peerIndex s
  | .linkTrainingTimeout l => Sys2Proof.Machine.execLinkTrainingTimeout l s
  | .linkPeriodSend l => Sys2Proof.Machine.execLinkPeriodSend l s
  | .linkPeriodReceive l lanes => Sys2Proof.Machine.execLinkPeriodReceive l lanes s
  | .commaReceive l c => Sys2Proof.Machine.execCommaReceive l c s
  | .laneLoss l p => Sys2Proof.Machine.execLaneLoss l p s
  | .laneReturn l p => Sys2Proof.Machine.execLaneReturn l p s
  | .spanPacketReceive l => Sys2Proof.Machine.execSpanPacketReceive l s
  | .remoteWindowAccess agent addr len wr => Sys2Proof.Machine.execRemoteWindowAccess agent addr len wr s
  | .spanRequestTimeout tag => Sys2Proof.Machine.execSpanRequestTimeout tag s
  | .eyeScanStart l v => Sys2Proof.Machine.execEyeScanStart l v s
  | .eyeScanEnd l errors => Sys2Proof.Machine.execEyeScanEnd l errors s
  | .ptpAnnounce port a => Sys2Proof.Machine.execPtpAnnounce port a s
  | .ptpSync port master t2 t1 => Sys2Proof.Machine.execPtpSync port master t2 t1 s
  | .ptpFollowUp port master t1 => Sys2Proof.Machine.execPtpFollowUp port master t1 s
  | .ptpDelayReq port client => Sys2Proof.Machine.execPtpDelayReq port client s
  | .ptpDelayResp port master t3 t4 => Sys2Proof.Machine.execPtpDelayResp port master t3 t4 s
  | .announceTimeout port => Sys2Proof.Machine.execAnnounceTimeout port s
  | .holdoverGradeEval b => Sys2Proof.Machine.execHoldoverGradeEval b s
  | .ppsInEdge => Sys2Proof.Machine.execPpsInEdge s
  | .ppsOutPulse => Sys2Proof.Machine.execPpsOutPulse s
  | .frameOutPulse => Sys2Proof.Machine.execFrameOutPulse s
  | .txTimestamp port ident requested dropped => Sys2Proof.Machine.execTxTimestamp port ident requested dropped s
  | .txtsPop p v => Sys2Proof.Machine.execTxtsPop p v s
  | .keeperRatioUpdate units => Sys2Proof.Machine.execKeeperRatioUpdate units s
  | .timeLatch b v => Sys2Proof.Machine.execTimeLatch b v s
  | .dacStepTick ch request => Sys2Proof.Machine.execDacStepTick ch request s
  | .dacClearPinAssert => Sys2Proof.Machine.execDacClearPinAssert s
  | .dacClearPinRelease => Sys2Proof.Machine.execDacClearPinRelease s
  | .dacCauseClear v => Sys2Proof.Machine.execDacCauseClear v s
  | .powerDomainRequest d v => Sys2Proof.Machine.execPowerDomainRequest d v s
  | .deviceStateRequest v => Sys2Proof.Machine.execDeviceStateRequest v s
  | .powerCommit u => Sys2Proof.Machine.execPowerCommit u s
  | .quiesceTimeout u refuser => Sys2Proof.Machine.execQuiesceTimeout u refuser s
  | .powerExitComplete u => Sys2Proof.Machine.execPowerExitComplete u s
  | .clusterNapWake c => Sys2Proof.Machine.execClusterNapWake c s
  | .wakePin => Sys2Proof.Machine.execWakePin s
  | .keeperAlarm => Sys2Proof.Machine.execKeeperAlarm s
  | .deepWakeResume ticks hashOk => Sys2Proof.Machine.execDeepWakeResume ticks hashOk s
  | .lanternTxStart => Sys2Proof.Machine.execLanternTxStart s
  | .lanternTxEnd => Sys2Proof.Machine.execLanternTxEnd s
  | .preambleDetect power => Sys2Proof.Machine.execPreambleDetect power s
  | .syncWordFound rssi => Sys2Proof.Machine.execSyncWordFound rssi s
  | .windowExpiry => Sys2Proof.Machine.execWindowExpiry s
  | .packetEnd raw => Sys2Proof.Machine.execPacketEnd raw s
  | .agcMeasurement rssi codeErrors => Sys2Proof.Machine.execAgcMeasurement rssi codeErrors s
  | .lanternSpiCommand v => Sys2Proof.Machine.execLanternSpiCommand v s
  | .spiFrameEnd miso => Sys2Proof.Machine.execSpiFrameEnd miso s
  | .lanternRxRetry => Sys2Proof.Machine.execLanternRxRetry s
  | .eventStatusClear g v => Sys2Proof.Machine.execEventStatusClear g v s
  | .snapRequestBit v => Sys2Proof.Machine.execSnapRequestBit v s
  | .snapshotBoundary => Sys2Proof.Machine.execSnapshotBoundary s
  | .snapshotComplete => Sys2Proof.Machine.execSnapshotComplete s
  | .recordWrite => Sys2Proof.Machine.execRecordWrite s
  | .floodEnd => Sys2Proof.Machine.execFloodEnd s
  | .flashProgram ok => Sys2Proof.Machine.execFlashProgram ok s
  | .checkpoint => Sys2Proof.Machine.execCheckpoint s
  | .recordSlotLatch v => Sys2Proof.Machine.execRecordSlotLatch v s
  | .powerOn => Sys2Proof.Machine.execPowerOn s
  | .resetAssert => Sys2Proof.Machine.execResetAssert s
  | .resetRelease straps => Sys2Proof.Machine.execResetRelease straps s
  | .bootStageEnd r => Sys2Proof.Machine.execBootStageEnd r s
  | .deviceWatchdogExpiry => Sys2Proof.Machine.execDeviceWatchdogExpiry s
  | .watchdogKick v => Sys2Proof.Machine.execWatchdogKick v s
  | .funcReset v => Sys2Proof.Machine.execFuncReset v s
  | .funcResetDone => Sys2Proof.Machine.execFuncResetDone s
  | .thermalWarning r => Sys2Proof.Machine.execThermalWarning r s
  | .thermalTrip rs => Sys2Proof.Machine.execThermalTrip rs s
  | .thermalTripRelease rs => Sys2Proof.Machine.execThermalTripRelease rs s
  | .registerWrite addr size v poison => Sys2Proof.Machine.execRegisterWrite addr size v poison s
  | .registerReadClear addr size => Sys2Proof.Machine.execRegisterReadClear addr size s
  | .ret x => Sys2Proof.Machine.execRet x s
  | .invalidRequest n => Sys2Proof.Machine.execInvalidRequest n s
  | .mailboxRequestWrite n off data => Sys2Proof.Machine.execMailboxRequestWrite n off data s
  | .timebaseApplied => Sys2Proof.Machine.execTimebaseApplied s
  | .aonSupplyLoss => Sys2Proof.Machine.execAonSupplyLoss s
  | .ptpMessageTransmit port k => Sys2Proof.Machine.execPtpMessageTransmit port k s

end Sys2Proof.Machine
end

