-- ==== Sys2Proof/Safety.lean ====
section
/-! DEFINITION. What a safe state of the block is: the bounds that the spec puts on its queues, and the canonical form of its
memory. -/
namespace Sys2Proof.Machine

/-- The tick queue holds at most two ticks (R47). -/
def State.tickQueueOk (s : State) : Prop := s.drum.queue.length ≤ 2

/-- Every transmit timestamp queue holds at most 64 entries (R341). -/
def State.stampsOk (s : State) : Prop := ∀ p : Nat, (s.blf.stamps p).length ≤ 64

/-- Every late-error queue of every cluster holds at most 16 entries (R239). -/
def State.latesOk (s : State) : Prop := ∀ c k : Nat, ((s.cup c).late k).length ≤ 16

/-- Registers that a report changes (R68, R383, R393): the status words of the event groups, the count of raises, the recorder's
status and count of suppressed records, the producer of the notification ring and the count of lost notifications. -/
def reportReg (a : Nat) : Prop :=
  (∃ g, g < 32 ∧ a = Rg.EVT_STATUS g) ∨ a = Rg.EVT_RAISES ∨ a = Rg.WTR_STATUS ∨ a = Rg.WTR_SUPPRESSED ∨
    a = Rg.PCE_NRING_PRODUCER ∨ a = Rg.PCE_NRING_LOST

/-- Memory lists rising addresses and no zero byte. -/
def State.memOk (s : State) : Prop := Memory.wf s.mem = true

end Sys2Proof.Machine
end

