-- ==== Sys2Proof/WellFormed.lean ====
section
/-! DEFINITION. Which commands are well formed: operands within the widths and layouts that the spec gives them. The meaning of a command
does not depend on it; it says which terms stand for something that can reach the block. -/
namespace Sys2Proof

/-- A number below a bound. -/
def below (n k : Nat) : Bool := decide (k < n)

/-- A number from 1 to a bound. -/
def within1 (n k : Nat) : Bool := decide (1 ≤ k) && decide (k ≤ n)

/-- A signed field of `w` bits. -/
def signedFits (w : Nat) (x : Int) : Bool := decide (-(2 ^ (w - 1) : Int) ≤ x) && decide (x < (2 ^ (w - 1) : Int))

/-- A register, or an immediate that a signed field of `w` bits holds (R203). -/
def GImm.fits (w : Nat) (b : GImm) : Bool :=
  match b with
  | .reg _ => true
  | .imm v => signedFits w v.toInt

/-- A register, or an immediate of the five bits of class 0x9 (R228); whether they are signed is not stated, so both readings pass. -/
def GImm.short (b : GImm) : Bool :=
  match b with
  | .reg _ => true
  | .imm v => below 32 v.toNat || signedFits 5 v.toInt

/-- A device address: 48 bits (R22). -/
def isAddr (a : Nat) : Bool := below (2 ^ 48) a

/-- A unit identifier: 16 bits (R368). -/
def isUnit (u : Nat) : Bool := below 65536 u

/-- A queue identifier: 20 bits (R273). -/
def isQueue (q : Nat) : Bool := below 1048576 q

/-- A source port identity or a clock identity: 64 bits (R334). -/
def isIdentity (n : Nat) : Bool := below (2 ^ 64) n

/-- A sensor reading: Q8.8 (R162). -/
def sensorWf (r : Sensor) : Bool := signedFits 16 r.temp

/-- A PTP time: 48 bits of seconds, nanoseconds below one second (R339). -/
def PtpTime.wf (t : PtpTime) : Bool := below (2 ^ 48) t.sec && below 1000000000 t.ns

/-- An Announce dataset (R334). -/
def Announce.wf (a : Announce) : Bool :=
  below 256 a.domain && isIdentity a.identity && below 256 a.priority1 && below 256 a.clockClass && below 256 a.accuracy && below 65536 a.variance &&
    below 256 a.priority2 && below 65536 a.steps

/-- One PRB block: its number, and the bytes of a compressed block (R90). -/
def PrbBlock.wf (b : PrbBlock) : Bool := below 275 b.prb && [25, 28, 37, 43].contains b.bytes.length

/-- Content of a received frame (R316, R317). -/
def FrameKind.wf : FrameKind → Bool
  | .uplane eaxc _ blocks => below 65536 eaxc && blocks.all PrbBlock.wf
  | .cplane eaxc _ start count => below 65536 eaxc && below 276 start && below 276 count
  | .delay _ => true
  | .other => true
  | .mgmt body => decide (body.length ≤ 9000)

/-- A lane period that arrived whole carries at least its link-state field and its data (R285). -/
def lanePeriodWf (p : LanePeriod) : Bool := (p.bits.map (fun b => decide (262240 ≤ b.length))).getD true

/-- Operands of class 0x5 (R203): offsets of 8 bits. -/
def Dual.wf (o : Dual) : Bool := signedFits 8 o.xoff && signedFits 8 o.yoff

/-- Operands of VLDFF (R228). -/
def FfForm.wf : FfForm → Bool
  | .contiguous _ m _ _ => signedFits 5 m.off
  | .gather _ => true

/-- A well-formed command. -/
def Instr.wf : Instr → Bool
  | .tickArrival _ => true
  | .tickHandling sensors => sensors.all sensorWf
  | .watchdogFire _ => true
  | .itemCompletion _ => true
  | .staleWrite _ _ => true
  | .gatedItemStart _ => true
  | .lateResultDescriptor _ => true
  | .transmissionReport _ => true
  | .rejectedEnqueueRetry => true
  | .drumEnable _ => true
  | .drumDisable _ => true
  | .drumFirstTick _ => true
  | .drumResume _ => true
  | .drumRealignment _ => true
  | .mailboxDoorbell _ _ => true
  | .mailboxRelease _ _ => true
  | .nringConsumerWrite _ => true
  | .notificationBacklogDrain => true
  | .hostDiscardsClear _ => true
  | .bar0WriteDiscard off data _ => decide (off + data.length ≤ 0x1000000)
  | .expertWindowAccess off size wr _ => decide (off + size ≤ 0x1000000) && (wr.map (fun d => d.length == size)).getD true
  | .expertLeaseExpiry => true
  | .relayHopTimeout _ hop => below 64 hop
  | .identify _ => true
  | .ping _ => true
  | .nringSetup _ => true
  | .msixMap _ => true
  | .levelSet _ => true
  | .expertAcquire _ => true
  | .expertRelease _ => true
  | .expertRead _ => true
  | .expertWrite _ => true
  | .expertClass _ => true
  | .functionExpertRead _ => true
  | .functionExpertWrite _ => true
  | .carrierAdd _ => true
  | .carrierRemove _ => true
  | .carrierQuery _ => true
  | .drumStart _ => true
  | .drumStop _ => true
  | .flowAdd _ => true
  | .flowRemove _ => true
  | .budgetSet _ => true
  | .cadenceBind _ => true
  | .cadenceUnbind _ => true
  | .clusterStatus _ => true
  | .clusterRetire _ => true
  | .clusterRepair _ => true
  | .clusterRepairTestEnd _ _ _ => true
  | .ethPortConfig _ => true
  | .ecpriFlowMap _ => true
  | .timebaseConfigure _ => true
  | .timebaseLoadEstimate _ => true
  | .timebaseSetTime _ => true
  | .timebaseTimeOfDay _ => true
  | .timeOfDayTimeout => true
  | .ptpPortConfig _ => true
  | .timeStatus _ => true
  | .dacConfig _ => true
  | .spanLinkConfig _ => true
  | .relayEnumerate _ => true
  | .relayEnumerateDone devs => decide (devs.length < 256) && devs.all (fun d => below 256 d.parent && below 4 d.link)
  | .eyeScan _ => true
  | .queueCreate _ => true
  | .queueDelete _ => true
  | .powerStateSet _ => true
  | .powerStatus _ => true
  | .lanternConfig _ => true
  | .eventMask _ => true
  | .snapshotRequest _ => true
  | .recorderRead _ => true
  | .fwStage _ => true
  | .fwStageDone _ => true
  | .fwActivate _ => true
  | .probationEnd => true
  | .debugUnlock _ => true
  | .debugUnlockExpiry => true
  | .controlLockstepDisagree => true
  | .controlMachineCheck _ addr => isAddr addr
  | .heartbeatTimeout => true
  | .takeoverComplete => true
  | .pairRecovery _ _ => true
  | .pcieDomainReset => true
  | .pcieEndpointReady => true
  | .bar2Read off len => decide (off + len ≤ 0x1000000000)
  | .bar2Write off data _ => decide (off + data.length ≤ 0x1000000000)
  | .fronthaulRxFrame _ f => f.kind.wf
  | .uplaneTx _ => true
  | .synceSquelch _ => true
  | .portLinkChange _ _ _ _ => true
  | .apply _ => true
  | .apply2 _ => true
  | .gram _ => true
  | .chol _ => true
  | .solve _ => true
  | .ldpcDecode _ => true
  | .turboDecode _ => true
  | .ldpcTb _ => true
  | .turboTb _ => true
  | .polarDci _ => true
  | .polarPbch _ => true
  | .polarUciDec _ => true
  | .engineResultReturn _ _ => true
  | .lateError _ _ _ => true
  | .lateErrorPop _ _ _ => true
  | .tagFree _ _ => true
  | .ciss _ _ _ _ _ => true
  | .commitToken _ _ => true
  | .ccmt _ _ => true
  | .ckil _ _ => true
  | .ctstE _ _ => true
  | .ctstT _ _ => true
  | .crkl _ _ _ => true
  | .systemQueueTake _ => true
  | .core0LockstepDisagree _ => true
  | .spareActivationDone _ _ => true
  | .retiredClusterDrained _ => true
  | .load _ _ _ _ m => signedFits 10 m.off
  | .store _ _ _ _ m => signedFits 10 m.off
  | .alu _ _ _ _ _ _ _ => true
  | .aluImmediate _ _ _ _ _ _ => true
  | .compare _ _ _ b => GImm.fits 11 b
  | .mac _ _ _ _ _ _ _ => true
  | .msu _ _ _ _ _ _ _ => true
  | .cmac _ _ _ _ => true
  | .mva _ _ _ _ => true
  | .sta _ _ _ m => signedFits 7 m.off
  | .expa _ _ _ => true
  | .clra _ _ => true
  | .bexpclr _ => true
  | .tapm _ _ o move => o.wf && signedFits 8 move
  | .ld2 _ _ _ _ o => o.wf
  | .ldst _ _ _ _ o => o.wf
  | .branch _ _ disp => signedFits 23 disp
  | .call _ _ disp => signedFits 23 disp
  | .loop _ _ _ => true
  | .lpsave _ _ => true
  | .lprest _ _ => true
  | .rti0 _ => true
  | .rti1 _ => true
  | .mfz _ _ off => below 4096 off
  | .mtz _ _ off => below 4096 off
  | .ptst _ _ _ => true
  | .wait _ => true
  | .sync _ => true
  | .interruptLevel0 _ => true
  | .interruptLevel1 _ => true
  | .storeBufferDrain _ => true
  | .coreRunStart _ _ => true
  | .coreRunStop _ _ => true
  | .coreTimerExpiry _ => true
  | .softInterruptSet _ _ => true
  | .vadds _ _ => true
  | .vsubs _ _ => true
  | .vabss _ _ => true
  | .vnegs _ _ => true
  | .vmulhr _ _ => true
  | .vcmulhr _ _ _ => true
  | .vshrr _ _ amt => below 32 amt
  | .vshls _ _ amt => below 32 amt
  | .vnarr _ _ amt => below 32 amt
  | .vwid _ _ => true
  | .vadd _ _ => true
  | .vsub _ _ => true
  | .vmul _ _ => true
  | .vectorLogic _ _ _ => true
  | .vectorCompare _ _ _ => true
  | .vectorPermute _ _ _ => true
  | .vectorReduction _ _ _ _ => true
  | .predicateLogic _ _ _ _ _ => true
  | .vld _ _ m _ _ => signedFits 5 m.off
  | .vst _ _ m _ _ => signedFits 5 m.off
  | .vldff _ f => f.wf
  | .vgath _ _ => true
  | .vscat _ _ => true
  | .vplt _ _ _ _ _ => true
  | .vinc _ _ _ => true
  | .vdup _ _ src _ _ _ => src.short
  | .vmovg _ _ _ idx _ => idx.short
  | .vptst _ _ _ _ _ => true
  | .vlimset _ => true
  | .vlimw _ _ => true
  | .vlimr _ _ => true
  | .vlimp _ _ _ _ => true
  | .vldp _ _ m => signedFits 5 m.m.off
  | .vstp _ _ m => signedFits 5 m.m.off
  | .vldx _ _ _ => true
  | .vstx _ _ _ => true
  | .memoryRead agent addr len _ => isUnit agent && isAddr addr && isAddr (addr + len)
  | .memoryWrite agent addr data => isUnit agent && isAddr addr && isAddr (addr + data.length)
  | .writeMergeFlush agent addr => isUnit agent && isAddr addr
  | .regionInit _ _ => true
  | .regionInitDone _ => true
  | .scrubVisit addr _ => isAddr addr
  | .repairRecordWrite addr => isAddr addr
  | .errorInjectArm _ => true
  | .errorInjectDisarm _ => true
  | .dmaChannelStart _ _ _ => true
  | .dmaCopy _ _ => true
  | .dmaFill _ _ => true
  | .dmaCompare _ _ => true
  | .dmaEnqueue _ _ => true
  | .dmaDequeue _ _ => true
  | .dmaDescriptorComplete _ _ => true
  | .dmaLeaveStrict _ _ => true
  | .dmaAbort _ _ _ => true
  | .dmaAbortComplete _ _ written => below 4294967296 written
  | .pacingMarkCross _ _ => true
  | .queueEnqueue agent q entry => isUnit agent && isQueue q && [16, 32, 64, 128].contains entry.length
  | .enqueueWriteResponse q => isQueue q
  | .queueDequeue agent q => isUnit agent && isQueue q
  | .dequeueReadReturn q => isQueue q
  | .queueInspect _ => true
  | .linkEnable _ _ => true
  | .linkDisable _ _ => true
  | .linkRetrain _ _ => true
  | .linkTrainingEnd _ _ skews peerLink peerIndex => decide (skews.length ≤ 5) && below 4 peerLink && below 256 peerIndex
  | .linkTrainingTimeout _ => true
  | .linkPeriodSend _ => true
  | .linkPeriodReceive _ lanes => decide (lanes.length ≤ 5) && lanes.all lanePeriodWf
  | .commaReceive _ _ => true
  | .laneLoss _ _ => true
  | .laneReturn _ _ => true
  | .spanPacketReceive _ => true
  | .remoteWindowAccess agent addr len wr => isUnit agent && isAddr addr && (wr.map (fun d => d.length == len)).getD true
  | .spanRequestTimeout tag => below 65536 tag
  | .eyeScanStart _ _ => true
  | .eyeScanEnd _ errors => decide (errors.length ≤ 4096)
  | .ptpAnnounce _ a => a.wf
  | .ptpSync _ master t2 t1 => isIdentity master && t2.wf && (t1.map PtpTime.wf).getD true
  | .ptpFollowUp _ master t1 => isIdentity master && t1.wf
  | .ptpDelayReq _ client => isIdentity client
  | .ptpDelayResp _ master t3 t4 => isIdentity master && t3.wf && t4.wf
  | .announceTimeout _ => true
  | .holdoverGradeEval _ => true
  | .ppsInEdge => true
  | .ppsOutPulse => true
  | .frameOutPulse => true
  | .txTimestamp _ _ _ _ => true
  | .txtsPop _ _ => true
  | .keeperRatioUpdate _ => true
  | .timeLatch _ _ => true
  | .dacStepTick _ _ => true
  | .dacClearPinAssert => true
  | .dacClearPinRelease => true
  | .dacCauseClear _ => true
  | .powerDomainRequest _ _ => true
  | .deviceStateRequest _ => true
  | .powerCommit _ => true
  | .quiesceTimeout _ _ => true
  | .powerExitComplete _ => true
  | .clusterNapWake _ => true
  | .wakePin => true
  | .keeperAlarm => true
  | .deepWakeResume _ _ => true
  | .lanternTxStart => true
  | .lanternTxEnd => true
  | .preambleDetect power => signedFits 16 power
  | .syncWordFound rssi => signedFits 16 rssi
  | .windowExpiry => true
  | .packetEnd raw => decide (1 ≤ raw.length) && decide (raw.length ≤ 258)
  | .agcMeasurement rssi _ => signedFits 16 rssi
  | .lanternSpiCommand _ => true
  | .spiFrameEnd _ => true
  | .lanternRxRetry => true
  | .eventStatusClear _ _ => true
  | .snapRequestBit _ => true
  | .snapshotBoundary => true
  | .snapshotComplete => true
  | .recordWrite => true
  | .floodEnd => true
  | .flashProgram _ => true
  | .checkpoint => true
  | .recordSlotLatch _ => true
  | .powerOn => true
  | .resetAssert => true
  | .resetRelease _ => true
  | .bootStageEnd r => (r.failed.map (below 65536)).getD true && (r.fallback.map (within1 4)).getD true
  | .deviceWatchdogExpiry => true
  | .watchdogKick _ => true
  | .funcReset _ => true
  | .funcResetDone => true
  | .thermalWarning r => sensorWf r
  | .thermalTrip rs => rs.all sensorWf
  | .thermalTripRelease rs => rs.all sensorWf
  | .registerWrite addr size _ _ => isAddr addr && [1, 2, 4, 8].contains size
  | .registerReadClear addr size => isAddr addr && [1, 2, 4, 8].contains size
  | .ret _ => true
  | .invalidRequest _ => true
  | .mailboxRequestWrite _ off data => decide (off + data.length ≤ 0x1000)
  | .timebaseApplied => true
  | .aonSupplyLoss => true
  | .ptpMessageTransmit _ _ => true

end Sys2Proof
end

