-- ==== Sys2Proof/Certificates/Slice0/Obligations.lean ====
section
/-! DEFINITION. The statements about the block, for the provers: what each command does where it takes effect and what it leaves, and
what every step keeps. -/
namespace Sys2Proof.Claims
open Sys2Proof.Machine

/-- The command answers a next state, and `P` holds of it. -/
def Answers (i : Instr) (s : State) (P : State → Prop) : Prop := ∃ t, exec i s = .next t ∧ P t

/-- Every register but those listed reads as before. -/
def RegsBut (l : List Nat) (s t : State) : Prop := ∀ a, a ∉ l → t.rd a = s.rd a

/-- Every register but those listed and those that a report changes reads as before. -/
def QuietBut (l : List Nat) (s t : State) : Prop := ∀ a, a ∉ l → ¬ reportReg a → t.rd a = s.rd a

/-- The events of a group that are set, but for its counter-saturated event (bit 31), which a full counter raises by itself (R385). -/
def events (s : State) (g : Nat) : Word := s.rd (Rg.EVT_STATUS g) &&& 0x7FFFFFFF#32

/-- Event `ev` has been raised and no other, outside group 12, where lost notifications and lost records are reported: its status bit
is set and the other events stand (R383). -/
def Raised (ev : Nat) (s t : State) : Prop :=
  ∀ g, g < 32 → g ≠ 12 → events t g = if g = ev / 32 then events s g ||| bitW (ev % 32) else events s g

/-- No event has been raised outside group 12. -/
def NoneRaised (s t : State) : Prop := ∀ g, g < 32 → g ≠ 12 → events t g = events s g

/-- Nothing but registers, outputs, the host interface and the recorder's input has changed. -/
def OnlyReports (s t : State) : Prop := t = { s with regs := t.regs, out := t.out, host := t.host, wtr := t.wtr }

/-- The counter has gone up by `n`, and stops at its greatest value (R385). -/
def CountedBy (a n : Nat) (s t : State) : Prop := t.rd a = BitVec.ofNat 32 (min 0xFFFFFFFF ((s.rd a).toNat + n))

/-- Mailbox `n` holds the request `c`, the oldest, for this device; it passes the checks before its payload (R57), no reset of the
PCIe domain has taken the mailbox from it, and it came over no relay link. -/
def Asked (s : State) (n : Fin 64) (c : Cmd) : Prop :=
  s.waiting n = some c ∧ s.verdict n c = none ∧ c.dev = 0 ∧ c.lost = false ∧ c.relayed = none

/-- Mailbox `n` is DONE, its response area holds the response to `c` with this status, detail and payload, and the message of the mailbox
is the last thing that went out (R55 to R63, R69). -/
def Answered (n : Fin 64) (c : Cmd) (status detail : Nat) (payload : List Byte) (t : State) : Prop :=
  mbxState t.regs n = 3 ∧ t.host.bytes (rspArea n) (32 + payload.length) = responseBytes c status detail payload ∧
    t.out.head? = some (.msix (vectorOf t.host (32 + n)))

/-- As `Answered`, and nothing but the mailbox, the message and the books of outstanding commands has changed. -/
def AnsweredOnly (n : Fin 64) (c : Cmd) (status detail : Nat) (payload : List Byte) (s t : State) : Prop :=
  Answered n c status detail payload t ∧ t = { s with regs := t.regs, out := t.out, host := t.host } ∧ t.out.tail = s.out ∧
    RegsBut [Rg.PCE_MBX_STATE n] s t ∧
    t.host = { s.host with bar0 := t.host.bar0, cmds := t.host.cmds, order := t.host.order } ∧
    ∀ a, a < rspArea n ∨ rspArea n + 32 + payload.length ≤ a → Memory.byte t.host.bar0 a = Memory.byte s.host.bar0 a

/-- The command waits for its commit or its end, with this payload (R63). -/
def Waits (c : Cmd) (keep : List Byte) (t : State) : Prop :=
  ∃ k ∈ t.host.cmds, k.tag = c.tag ∧ k.dev = c.dev ∧ k.code = c.code ∧ k.phase = .pending ∧ k.payload = keep

/-- The loop registers of a core (R196). -/
def loopRegs (k : Nat) : List Nat :=
  Rg.ZCR_LOOP_DEPTH k :: (List.range 4).flatMap (fun n => [Rg.ZCR_LOOP_START k n, Rg.ZCR_LOOP_END k n, Rg.ZCR_LOOP_COUNT k n])

/-- The core of `x` issues, is in the middle of no access to another device, the instruction is no reserved one, and no active loop level
ends at it (R187, R196, R204). -/
def Runs (x : Ins) (s : State) : Prop :=
  s.issues x.core = true ∧ x.illegal = false ∧ atLoopEnd (loopsOf s.regs x.core) (s.core x.core).pc = false ∧
    s.span.busy (coreAgent x.core) = false

/-- No part of an access of core `k` leads to another device. -/
abbrev Near (s : State) (k ca n : Nat) : Prop :=
  (coreParts ca n).all (fun p => match coreTarget s.regs k p.1 with
    | .dev a => (match placeOf s.regs a with | .there _ _ _ => false | .here _ => true | .nowhere => true)
    | .tile _ => true
    | .zcr _ => true
    | .unmapped => true) = true

/-- An address does not lead to another device. -/
abbrev Local (s : State) (a : Nat) : Prop :=
  (match placeOf s.regs a with | .there _ _ _ => false | .here _ => true | .nowhere => true) = true

/-- An instruction of `n` bytes has completed: the core goes on behind it, its cycle is counted, and no other core has changed. -/
def Next (x : Ins) (n : Nat) (s t : State) : Prop :=
  (t.core x.core).pc = (s.core x.core).pc + BitVec.ofNat 32 n ∧
    t.rd64 (Rg.ZCR_CYCLES_LO x.core) = (s.rd64 (Rg.ZCR_CYCLES_LO x.core) + 1) % 2 ^ 64 ∧ ∀ j, j ≠ x.core.val → t.core j = s.core j

/-- As `Next`, and beside the core nothing has changed but its cycle count and the registers listed. -/
def Done (x : Ins) (n : Nat) (l : List Nat) (s t : State) : Prop :=
  Next x n s t ∧ RegsBut (Rg.ZCR_CYCLES_LO x.core :: (Rg.ZCR_CYCLES_LO x.core + 4) :: l) s t ∧
    t = { s with regs := t.regs, cores := t.cores, evt := { s.evt with epochs := t.evt.epochs } }

/-- Of a core only the general register `rd` has changed, which holds `v`, and the program counter. -/
def GWritten (x : Ins) (rd : Nat) (v : SReg) (s t : State) : Prop :=
  t.core x.core = { s.core x.core with g := (t.core x.core).g, pc := (t.core x.core).pc, waiting := false } ∧
    (t.core x.core).reg .g rd = v ∧ ∀ i, i ≠ rd → (t.core x.core).reg .g i = (s.core x.core).reg .g i

/-- Of a core only the program counter has changed, and that it waits no more. -/
def CoreKept (x : Ins) (s t : State) : Prop :=
  t.core x.core = { s.core x.core with pc := (t.core x.core).pc, waiting := false }

/-- The banks of a core have changed places: G0 to G15, A0 to A7, ACC0 to ACC3 with their poison; the other registers stand (R206). -/
def swapped (c d : Core) : Prop :=
  (∀ i, i < 16 → d.reg .g i = Map.get SReg.zero c.sg i ∧ Map.get SReg.zero d.sg i = c.reg .g i) ∧
    (∀ i, i < 8 → d.reg .a i = Map.get SReg.zero c.sa i ∧ Map.get SReg.zero d.sa i = c.reg .a i) ∧
    (∀ i, i < 4 → d.accu i = Map.get AReg.zero c.sacc i ∧ Map.get AReg.zero d.sacc i = c.accu i) ∧
    (∀ i, 16 ≤ i → d.reg .g i = c.reg .g i) ∧ (∀ i, 8 ≤ i → d.reg .a i = c.reg .a i) ∧ (∀ i, 4 ≤ i → d.accu i = c.accu i) ∧
    d.s = c.s ∧ d.w = c.w ∧ d.o = c.o ∧ d.v = c.v ∧ d.pd = c.pd ∧ d.link = c.link ∧ d.sb = c.sb

/-- Core `k` has met an exception (R209, R210): its registers, other cores and memory stand; ZCR_EADDR holds the address where there is one. At
thread level pc, cause and F are kept and it goes on at level 1; else it stops with a fatal fault, and its issued commands are killed. -/
def Traps (k cause : Nat) (addr : Option Word) (s t : State) : Prop :=
  let c := s.core k
  t.mem = s.mem ∧ (∀ j, j ≠ k → t.core j = s.core j) ∧ t.core k = { c with pc := (t.core k).pc, waiting := false } ∧
    (∀ a, addr = some a → t.rd (Rg.ZCR_EADDR k) = a) ∧
    (if coreLevel s.regs k = 0 then
      t.rd (Rg.ZCR_EPC1 k) = c.pc ∧ t.rd (Rg.ZCR_ESR1 k) = BitVec.ofNat 32 (cause * 256 + b2n (flagF s.regs k)) ∧
        coreLevel t.regs k = 1 ∧ flagF t.regs k = flagF s.regs k ∧ coreRuns t.regs k = coreRuns s.regs k
    else coreRuns t.regs k = false ∧ t.getF (Rg.ZCR_ESR1 k) Fd.ZCR_ESR1_fatal = 1 ∧ t.getF (Rg.ZCR_ESR1 k) Fd.ZCR_ESR1_cause = cause ∧
      (t.rd (Rg.EVT_STATUS (13 + k / 8))).getLsbD (k % 8) = true ∧ (t.core k).pc = c.pc ∧
      ∀ tag, tag < 256 → ((t.cup (k / 8)).tag tag).state = .issued → ((t.cup (k / 8)).tag tag).owner ≠ k % 8) ∧
    (cause ≠ 0x04 → QuietBut [Rg.ZCR_CYCLES_LO k, Rg.ZCR_CYCLES_LO k + 4, Rg.ZCR_EPC1 k, Rg.ZCR_ESR1 k, Rg.ZCR_EADDR k, Rg.ZCR_STATUS k,
      Rg.ZCR_CTRL k, Rg.CPL_TAGS (k / 8), Rg.CPL_KILLS (k / 8), Rg.CPL_KILLS_IGNORED (k / 8)] s t)

end Sys2Proof.Claims

open Sys2Proof Sys2Proof.Machine Sys2Proof.Claims

/-- Step: the command at the front of the queue is executed with the queue's rest; on an empty queue the block idles for one cycle of the clock, in which
the ports send the management frames that wait (the model's choice, log entries 7 and 193). -/
def Obligations.StepRunsTheFrontCommand : Prop :=
  (∀ (c : Instr) (rest : List Instr) (s : State), step { s with pending := c :: rest } = exec c { s with pending := rest }) ∧
    ∀ s : State, s.pending = [] → step s = .next s.idle

/-- R47, for TICK_ARRIVAL: the tick that follows the last one is handled at once, or waits at the end of the tick queue while the sequencer is busy,
counted; while two wait it is a fatal timing fault, with its event and the reset of Drum (R48). Belfry latches the studio time with it (R175). R45, R46, R47: handling a symbol tick that begins no
slot leaves DRM_POSITION and the counts at the tick's, and the sequencer takes the oldest tick of the queue. -/
def Obligations.TicksArriveAndAreHandled : Prop :=
  (∀ (s : State) (l : Tick), s.drum.last = some l → s.ticking = true →
    let n := l.next s.scs s.offset
    let k := { n with studio := (s.passTo n.time).phase 1 }
    (s.drum.cur = none → Answers (.tickArrival k.time) s fun u =>
      u.drum = { s.drum with cur := some k, last := some k } ∧ u.mem = s.mem ∧ u.ppt = s.ppt ∧ u.now = s.now + (k.time - s.rt)) ∧
    (∀ c, s.drum.cur = some c → s.drum.queue.length < 2 → Answers (.tickArrival k.time) s fun u =>
      u.drum = { s.drum with queue := s.drum.queue ++ [k], last := some k } ∧ CountedBy Rg.DRM_TICKQ_QUEUED 1 s u ∧
        u.getF Rg.DRM_STATUS Fd.DRM_STATUS_tickq_depth = s.drum.queue.length + 1 ∧ u.mem = s.mem ∧ u.ppt = s.ppt) ∧
    (∀ c, s.drum.cur = some c → 2 ≤ s.drum.queue.length → ¬ 1 ∈ s.boot.resetUnits → Answers (.tickArrival k.time) s fun u =>
      (u.rd (Rg.EVT_STATUS 0)).getLsbD 2 = true ∧ u.boot.resetUnits = 1 :: s.boot.resetUnits ∧ u.drum.cur = none ∧
        u.drum.queue = [] ∧ u.drum.items = s.drum.items ∧ u.drum.last = s.drum.last ∧ u.mem = s.mem)) ∧
  (∀ (s : State) (t : Tick) (sensors : List Sensor), s.drum.cur = some t → t.slot = false → t.frame = false →
    s.tickQueueOk →
    Answers (.tickHandling sensors) s fun u =>
      u.drum.cur = s.drum.queue.head? ∧ u.drum.queue = s.drum.queue.tail ∧
        u.rd Rg.DRM_POSITION = BitVec.ofNat 32 (positionOf s.scs s.offset t.time) ∧
        u.rd64 Rg.DRM_SYM_COUNT_LO = t.symC % 2 ^ 64 ∧ u.rd64 Rg.DRM_SLOT_COUNT_LO = t.slotC % 2 ^ 64 ∧
        u.rd64 Rg.DRM_FRAME_COUNT_LO = t.frameC % 2 ^ 64 ∧
        u.getF Rg.DRM_STATUS Fd.DRM_STATUS_tickq_depth = s.drum.queue.length - 1)

/-- R39, R40: the watchdog of an item in flight whose edge has come, while ticks are issued: the item has expired and its unit is late, the late-item
event is raised, DRM_LAST_LATE_ITEM names it, and the expiry is counted against its cluster, which meets cause 0, unless the unit that it read was
late. R44: a write whose generation is stale is discarded and counted and raises the stale-write event; one whose generation is its unit's leaves all
of this. R38, R95: a gated item starts when the ingress item that gates it has ended, and is late input where the unit it reads is late; an item in
flight that has done its work and is on time is complete. R39: the watchdog does not stop an item: one that has expired on a cluster still starts, and
ends when it has done its work, and stays late. R44: one whose output unit has another generation by then ends with its writes discarded. R38, R105: a
decoding item that completes is complete in the books. R101: an LLR saturates
at -127 and +127, is negated where the scrambling bit is 1, and is never -128. R120: a compressed block has the smallest exponent from 0 to 15 with
which every value, shifted with convergent rounding, fits the mantissa. -/
def Obligations.ItemsRunAndMayBeLate : Prop :=
  (∀ (s : State) (id : Nat) (i : Item), s.drum.item id = some i → i.inFlight = true → refFrom s.nowRef i.edge = true →
    s.flag Rg.DRM_STATUS Fd.DRM_STATUS_running = true →
    let charged := decide (i.cluster < 18) && !i.lateInput && !(i.gate.isSome && !i.begun && (s.drum.unit i.unitRef).late)
    Answers (.watchdogFire id) s fun u =>
      (u.drum.unit i.outUnit).late = true ∧ (∀ x, x ≠ i.outUnit → u.drum.unit x = s.drum.unit x) ∧
        u.drum.items = s.drum.items.map (fun x => if x.id = i.id then
          { x with phase := .expired, done := x.done || x.phase == .admitted || decide (18 ≤ x.cluster) } else x) ∧
        u.rd Rg.DRM_LAST_LATE_ITEM = BitVec.ofNat 32 i.id ∧ (u.rd (Rg.EVT_STATUS 0)).getLsbD 0 = true ∧
        (charged = true → CountedBy Rg.DRM_LATE_COUNT 1 s u ∧ u.rd Rg.DRM_LATE_UPSTREAM = s.rd Rg.DRM_LATE_UPSTREAM ∧
          (u.rd (Rg.PPT_CLUSTER i.cluster)).getLsbD 0 = true) ∧
        (charged = false → CountedBy Rg.DRM_LATE_UPSTREAM 1 s u ∧ u.rd Rg.DRM_LATE_COUNT = s.rd Rg.DRM_LATE_COUNT) ∧
        u.mem = s.mem ∧ u.qm = s.qm ∧ u.dma = s.dma ∧ u.cores = s.cores ∧ u.boot = s.boot) ∧
  (∀ (s : State) (unit : Nat) (gen : Fin 16),
    ((s.drum.unit unit).gen ≠ gen.val → Answers (.staleWrite unit gen) s fun u =>
      CountedBy Rg.DRM_STALE_WRITES 1 s u ∧ Raised 1 s u ∧ u.flag Rg.DRM_FAULT Fd.DRM_FAULT_stale_write = true ∧
        QuietBut [Rg.DRM_STALE_WRITES, Rg.DRM_FAULT] s u ∧ OnlyReports s u) ∧
    ((s.drum.unit unit).gen = gen.val → exec (.staleWrite unit gen) s = .next s)) ∧
  ((∀ (s : State) (id : Nat) (i : Item), s.drum.item id = some i → i.runs = true → i.begun = false → i.gate.isSome = true →
    s.drum.gateOpen i = true → Answers (.gatedItemStart id) s fun u =>
      u = { s with drum := u.drum } ∧ u.drum = { s.drum with items := u.drum.items } ∧
        u.drum.items = s.drum.items.map fun x =>
          if x.id = id then
            { x with
              phase := if x.phase = .released then .started else x.phase
              begun := true
              lateInput := x.lateInput || (s.drum.unit i.unitRef).late }
          else x) ∧
  (∀ (s : State) (id : Nat) (i : Item), s.drum.item id = some i → i.runs = true → s.workDone i = true → s.drum.staleItem i = true →
    Answers (.itemCompletion id) s fun u =>
      CountedBy Rg.DRM_STALE_WRITES 1 s u ∧ Raised 1 s u ∧ u.drum.units = s.drum.units ∧ u.mem = s.mem ∧ u.ppt = s.ppt ∧
        u.drum.items = (s.drum.items.map fun x => if x.id = i.id then { x with done := true } else x)) ∧
  (∀ (s : State) (id : Nat) (i : Item), s.drum.item id = some i → i.runs = true → s.workDone i = true → s.drum.staleItem i = false →
    i.phase = .expired → Answers (.itemCompletion id) s fun u =>
      u.drum.units = s.drum.units ∧ u.qm = s.qm ∧ u.boot = s.boot ∧ (i.work.writes = false → u = { s with drum := u.drum }) ∧
        u.drum.items = (s.drum.items.map fun x => if x.id = i.id then { x with done := true } else x)) ∧
  (∀ (s : State) (id : Nat) (i : Item), s.drum.item id = some i → i.runs = true → i.inFlight = true → s.workDone i = true →
    s.drum.staleItem i = false → s.onTime i = true → i.work ≠ .decoding → Answers (.itemCompletion id) s fun u =>
      u = {
        s with drum := u.drum, ppt := u.ppt, mem := u.mem, mec := u.mec, regs := u.regs, out := u.out, host := u.host, wtr := u.wtr,
               evt := u.evt, free := u.free } ∧ u.drum.units = s.drum.units ∧
        (i.work.writes = false → u = { s with drum := u.drum }) ∧
        u.drum.items = (s.drum.items.map fun x => if x.id = i.id then { x with phase := .complete } else x))) ∧
  (∀ (s : State) (id : Nat) (i : Item), s.drum.item id = some i → i.runs = true → i.inFlight = true → s.workDone i = true →
    s.drum.staleItem i = false → s.onTime i = true → i.work = .decoding → Answers (.itemCompletion id) s fun u =>
      u.drum.units = s.drum.units ∧ (∀ x ∈ u.drum.items, x.id = i.id → x.phase = .complete) ∧ u.drum.items.length = s.drum.items.length) ∧
  (∀ (scrambled : Bool) (v : Int), -127 ≤ (llrByte scrambled v).toInt ∧ (llrByte scrambled v).toInt ≤ 127 ∧
    (-127 ≤ v → v ≤ 127 → (llrByte scrambled v).toInt = if scrambled then -v else v)) ∧
  (∀ (m : Nat) (row : List Cell), 0 < m →
    let holds := fun (e : Nat) (x : Int × Int) => -(2 ^ (m - 1) : Int) ≤ shiftOut false e x.1 0 x.2 ∧ shiftOut false e x.1 0 x.2 < 2 ^ (m - 1)
    let all := fun (e : Nat) => ∀ c ∈ row, holds e (c.e, c.re) ∧ holds e (c.e, c.im)
    let e := ((compress m row).headD 0).toNat
    e ≤ 15 ∧ (∀ k, k < e → ¬ all k) ∧ ((∃ k, k ≤ 15 ∧ all k) → all e))

/-- R49, R51: a write of 1 to DRM_CTRL.enable makes a stopped Drum wait for its first tick; a write of 0 ends that wait at once, and leaves a running Drum
to its next frame tick. Nothing but DRM_CTRL and DRM_STATUS changes; a write to a running Drum keeps master_scs. R48, R49, R50: the first tick carries
counts of 0 and is a frame tick; a train that resumes after a fault or a step counts on by the ticks that air time holds, or by one of each kind where
radio time has moved back, and DRM_LOST_TICKS names those not issued. -/
def Obligations.TickTrainStartsStopsAndResumes : Prop :=
  (∀ (s : State) (v : Word),
    (Fd.DRM_CTRL_enable.get v = 1 → Answers (.drumEnable v) s fun u =>
      u = { s with regs := u.regs } ∧ RegsBut [Rg.DRM_CTRL, Rg.DRM_STATUS] s u ∧
        u.getF Rg.DRM_CTRL Fd.DRM_CTRL_enable = 1 ∧ u.getF Rg.DRM_CTRL Fd.DRM_CTRL_start_mode = Fd.DRM_CTRL_start_mode.get v ∧
        u.getF Rg.DRM_STATUS Fd.DRM_STATUS_running = s.getF Rg.DRM_STATUS Fd.DRM_STATUS_running ∧
        (s.drumLive = false → u.getF Rg.DRM_CTRL Fd.DRM_CTRL_master_scs = Fd.DRM_CTRL_master_scs.get v ∧
          u.getF Rg.DRM_STATUS Fd.DRM_STATUS_waiting = 1) ∧
        (s.drumLive = true → u.getF Rg.DRM_CTRL Fd.DRM_CTRL_master_scs = s.getF Rg.DRM_CTRL Fd.DRM_CTRL_master_scs)) ∧
    (Fd.DRM_CTRL_enable.get v = 0 → Answers (.drumDisable v) s fun u =>
      u = { s with regs := u.regs } ∧ RegsBut [Rg.DRM_CTRL, Rg.DRM_STATUS] s u ∧
        u.getF Rg.DRM_CTRL Fd.DRM_CTRL_enable = 0 ∧
        u.getF Rg.DRM_STATUS Fd.DRM_STATUS_running = s.getF Rg.DRM_STATUS Fd.DRM_STATUS_running ∧
        (s.drumLive = false → u.getF Rg.DRM_STATUS Fd.DRM_STATUS_waiting = 0) ∧
        (s.drumLive = true → u.getF Rg.DRM_CTRL Fd.DRM_CTRL_master_scs = s.getF Rg.DRM_CTRL Fd.DRM_CTRL_master_scs))) ∧
  ((∀ (s : State) (t : Nat), s.startsNow = true → s.nextFrame t = true → Answers (.drumFirstTick t) s fun u =>
    (∃ q, u.drum.last = some ⟨t, true, true, 0, 0, 0, q⟩) ∧ u.drum.cur = u.drum.last ∧ u.drum.queue = [] ∧ u.drum.items = [] ∧
      u.mem = s.mem ∧ u.cores = s.cores ∧ u.now = s.now + (t - s.rt)) ∧
  (∀ (s : State) (t f : Nat) (l : Tick), s.drum.faultAt = some f → s.drum.stepAt = none → s.drum.last = some l →
    ¬ 1 ∈ s.boot.resetUnits → s.firstSlotAfter f t = true → s.rt ≤ t → Answers (.drumResume t) s fun u =>
      let a := symNo s.scs s.offset l.time
      let b := symNo s.scs s.offset t
      u.drum.faultAt = none ∧ (∃ k, u.drum.last = some k ∧ k.time = t ∧ k.slot = true ∧
        k.symC = l.symC + (if a < b then b - a else 1) ∧ l.slotC ≤ k.slotC ∧ l.frameC ≤ k.frameC) ∧
      u.rd Rg.DRM_LOST_TICKS = BitVec.ofNat 32 (min 0xFFFFFFFF (b - a - 1)) ∧
      u.getF Rg.DRM_STATUS Fd.DRM_STATUS_realigned = 1 ∧ u.mem = s.mem ∧ u.cores = s.cores) ∧
  (∀ (s : State) (t f : Nat) (l : Tick), s.drum.stepAt = some f → s.drum.last = some l → s.drum.cur = none → s.drum.queue = [] →
    ¬ 1 ∈ s.boot.resetUnits → s.firstFrameAfter f t = true → s.rt ≤ t → Answers (.drumRealignment t) s fun u =>
      let a := symNo s.scs s.offset l.time
      let b := symNo s.scs s.offset t
      u.drum.stepAt = none ∧ (∃ k, u.drum.last = some k ∧ k.time = t ∧ k.slot = true ∧ k.frame = true ∧
        k.symC = l.symC + (if a < b then b - a else 1) ∧ (¬ a < b → k.slotC = l.slotC + 1 ∧ k.frameC = l.frameC + 1)) ∧
      u.drum.items.any (fun i => i.phase == .admitted || i.inFlight) = false ∧ u.cores = s.cores))

/-- R106, R107, R126: a late block is answered with a result descriptor that says late and names no buffer, a grant whose last egress edge has passed with
a report; each once, counted, and kept for another try where its queue refuses it. R106, R126, R240: the entries that were rejected are all tried
again, and never become more. -/
def Obligations.GrantsAreAnsweredOnce : Prop :=
  ((∀ (s : State) (id : Nat) (g : Grant), s.ppt.grant id = some g → g.downlink = false → g.answered = false → g.status &&& gLate ≠ 0 →
    Answers (.lateResultDescriptor id) s fun u =>
      let m := { s.flowBump (le g.raw 0 4) 1 1 with ppt := s.ppt.updGrant id (fun g => { g with answered := true }) }
      let entry := resultBytes g.raw (gLate ||| (g.status &&& (gErased ||| gReplayed))) 0 0 0 0xFF 0
      u.ppt.grants = s.ppt.grants.map (fun x => if x.id = id then { x with answered := true } else x) ∧
        u.qm = (m.enqueue m.ctrlUnit (answerQueue g.raw) (clean entry)).qm ∧
        u.ppt.retries = (if m.enqueueStatus m.ctrlUnit (answerQueue g.raw) (clean entry) = qOk then s.ppt.retries
          else s.ppt.retries ++ [⟨answerQueue g.raw, entry, none, le g.raw 0 4, false, []⟩]) ∧
        u.drum = s.drum ∧ u.dma = s.dma ∧ u.cores = s.cores ∧ u.boot = s.boot) ∧
  (∀ (s : State) (id : Nat) (g : Grant), s.ppt.grant id = some g → g.downlink = true → g.admitted.isSome = true → g.answered = false →
    let car := s.ppt.carPayload (le g.raw 8 2)
    refFrom s.nowRef (refShift (BitVec.ofNat 32 (le g.raw 4 4)) ((s.plan (le g.raw 8 2) car).egress (lastSym g.raw)).edge) = true →
    Answers (.transmissionReport id) s fun u =>
      let m := { s with ppt := s.ppt.updGrant id (fun g => { g with answered := true }) }
      let entry := reportBytes g.raw (g.report g.age (carAgeLimit car)) g.muted g.cluster (min 255 g.age)
      u.ppt.grants = s.ppt.grants.map (fun x => if x.id = id then { x with answered := true } else x) ∧
        u.qm = (m.enqueue m.ctrlUnit (answerQueue g.raw) (clean entry)).qm ∧
        u.ppt.retries = (if m.enqueueStatus m.ctrlUnit (answerQueue g.raw) (clean entry) = qOk then s.ppt.retries
          else s.ppt.retries ++ [⟨answerQueue g.raw, entry, none, le g.raw 0 4, true, []⟩]) ∧
        u.drum = s.drum ∧ u.dma = s.dma ∧ u.cores = s.cores ∧ u.boot = s.boot)) ∧
  (∀ s : State, Answers .rejectedEnqueueRetry s fun u =>
    u.ppt.retries.length ≤ s.ppt.retries.length ∧ u.ppt.grants = s.ppt.grants ∧ u.drum = s.drum ∧ u.dma = s.dma ∧ u.boot = s.boot ∧
      (s.ppt.retries = [] → u = s))

/-- R58, R61, R62, R64: a doorbell to an idle mailbox whose tag is the request's posts the request last in order, any other is ignored and counted; a
release takes a mailbox from DONE to IDLE and ends its finished command; the host's bytes enter the request area of a mailbox that is IDLE or DONE,
and of no other. R54, R325: a discarded write of BAR0 is counted in host_discards, which stops at its greatest value, and which a write of 1 to
clear_discards returns to 0; a write to the MSI-X table (R52) is kept. R7: one to a register that is poisoned, misaligned or of another width than 32 bits
raises the register-access event of its block. Nothing else changes. -/
def Obligations.MailboxHostSide : Prop :=
  ((∀ (s : State) (n : Fin 64) (v : Word),
    (ready s.regs = true → mbxState s.regs n = 0 → Fd.PCE_MBX_DOORBELL_tag.get v = (requestOf s.host n).tag →
      Answers (.mailboxDoorbell n v) s fun u =>
        mbxState u.regs n = 1 ∧ u.getF (Rg.PCE_MBX_STATE n) Fd.PCE_MBX_STATE_tag = Fd.PCE_MBX_DOORBELL_tag.get v ∧
          u.host = { s.host with order := s.host.order ++ [n.val], cmds := s.host.cmds ++ [requestOf s.host n] } ∧
          RegsBut [Rg.PCE_MBX_STATE n] s u ∧ u = { s with regs := u.regs, host := u.host }) ∧
    (¬ (ready s.regs = true ∧ mbxState s.regs n = 0 ∧ Fd.PCE_MBX_DOORBELL_tag.get v = (requestOf s.host n).tag) →
      Answers (.mailboxDoorbell n v) s fun u =>
        CountedBy (Rg.PCE_MBX_IGNORED n) 1 s u ∧ QuietBut [Rg.PCE_MBX_IGNORED n] s u ∧ OnlyReports s u ∧
          u.host.cmds = s.host.cmds ∧ u.host.order = s.host.order ∧ NoneRaised s u)) ∧
  (∀ (s : State) (n : Fin 64) (v : Word), Fd.PCE_MBX_RELEASE_release.get v = 1 → mbxState s.regs n = 3 →
    Answers (.mailboxRelease n v) s fun u =>
      mbxState u.regs n = 0 ∧ RegsBut [Rg.PCE_MBX_STATE n] s u ∧ u = { s with regs := u.regs, host := u.host } ∧
        u.host = { s.host with cmds := s.host.cmds.filter fun c => !(c.mbx == some n.val && c.phase == .done) }) ∧
  (∀ (s : State) (n : Fin 64) (off : Nat) (data : List Byte), off + data.length ≤ 4096 →
    (mbxState s.regs n = 0 ∨ mbxState s.regs n = 3 → Answers (.mailboxRequestWrite n off data) s fun u =>
      u.host.bytes (reqArea n + off) data.length = data ∧
        (∀ a, a < reqArea n + off ∨ reqArea n + off + data.length ≤ a → Memory.byte u.host.bar0 a = Memory.byte s.host.bar0 a) ∧
        u = { s with host := { s.host with bar0 := u.host.bar0 } }) ∧
    (mbxState s.regs n = 1 ∨ mbxState s.regs n = 2 → Answers (.mailboxRequestWrite n off data) s fun u =>
      u = { s with regs := u.regs } ∧ RegsBut [Rg.PCE_MBX_GLOBAL] s u ∧
        u.getF Rg.PCE_MBX_GLOBAL Fd.PCE_MBX_GLOBAL_host_discards =
          min 0xFFFF (s.getF Rg.PCE_MBX_GLOBAL Fd.PCE_MBX_GLOBAL_host_discards + 1)))) ∧
  ((∀ (s : State) (off : Nat) (data : List Byte) (ep : Bool), bar0Discards off ep = true →
    Answers (.bar0WriteDiscard off data ep) s fun u =>
      let bad := fun (a : Nat) => bar0Reg off = some a ∧ (ep = true ∨ off % 4 ≠ 0 ∨ data.length ≠ 4)
      QuietBut [Rg.PCE_MBX_GLOBAL] s u ∧ OnlyReports s u ∧
        u.getF Rg.PCE_MBX_GLOBAL Fd.PCE_MBX_GLOBAL_host_discards =
          min 0xFFFF (s.getF Rg.PCE_MBX_GLOBAL Fd.PCE_MBX_GLOBAL_host_discards + 1) ∧
        (∀ a, bad a → (u.rd (Rg.EVT_STATUS (groupOf a))).getLsbD 30 = true) ∧
        ((∀ a, ¬ bad a) → u = { s with regs := u.regs } ∧ RegsBut [Rg.PCE_MBX_GLOBAL] s u)) ∧
  (∀ (s : State) (off : Nat) (data : List Byte) (a : Nat), bar0Discards off false = false → bar0Reg off = some a →
    (off % 4 ≠ 0 ∨ data.length ≠ 4) → Answers (.bar0WriteDiscard off data false) s fun u =>
      QuietBut [] s u ∧ OnlyReports s u ∧ (u.rd (Rg.EVT_STATUS (groupOf a))).getLsbD 30 = true) ∧
  (∀ (s : State) (off : Nat) (data : List Byte), 0x90000 ≤ off → off + data.length ≤ 0x90400 → data ≠ [] →
    Answers (.bar0WriteDiscard off data false) s fun u => u.host.bytes off data.length = data ∧
      u = { s with host := { s.host with bar0 := u.host.bar0 } }) ∧
  (∀ (s : State) (v : Word), Fd.PCE_MBX_GLOBAL_clear_discards.get v = 1 → Answers (.hostDiscardsClear v) s fun u =>
    u = { s with regs := u.regs } ∧ RegsBut [Rg.PCE_MBX_GLOBAL] s u ∧
      u.getF Rg.PCE_MBX_GLOBAL Fd.PCE_MBX_GLOBAL_host_discards = 0))

/-- R66, R68: after the host has moved its consumer index, and after a drain, the ring is full or nothing waits any more: no overflow summary and no
notification of the backlog. What changes is the ring and the backlog. -/
def Obligations.NotificationsDrain : Prop :=
  (∀ (s : State) (v : Word), s.host.ring.sizeLog ≤ 16 → Answers (.nringConsumerWrite v) s fun u =>
    (u.host.ring.room = false ∨ (u.host.backlog = [] ∧ u.host.lostCount = 0)) ∧
      u.getF Rg.PCE_NRING_CONSUMER Fd.PCE_NRING_CONSUMER_consumer = Fd.PCE_NRING_CONSUMER_consumer.get v % s.host.ring.size ∧
      RegsBut [Rg.PCE_NRING_CONSUMER, Rg.PCE_NRING_PRODUCER] s u ∧ u = { s with regs := u.regs, out := u.out, host := u.host } ∧
      u.host.bar0 = s.host.bar0 ∧ u.host.levels = s.host.levels ∧ u.host.lease = s.host.lease) ∧
  (∀ s : State, Answers .notificationBacklogDrain s fun u =>
    (u.host.ring.room = false ∨ (u.host.backlog = [] ∧ u.host.lostCount = 0)) ∧
      RegsBut [Rg.PCE_NRING_PRODUCER] s u ∧ u = { s with regs := u.regs, out := u.out, host := u.host } ∧
      u.host.bar0 = s.host.bar0 ∧ u.host.levels = s.host.levels ∧ u.host.lease = s.host.lease)

/-- R54, R70 to R72: reserved space of BAR0 reads as zero, and so does the expert window without a lease; with one, a write of a register whose class forbids it, or under a read-only lease, is
discarded, counted and raised; the lease ends at its expiry, with a notification; a silent hop answers the forwarded request of a mailbox with
RELAY_TIMEOUT and its number. -/
def Obligations.ExpertWindowAndRelay : Prop :=
  (∀ (s : State) (off size : Nat) (ep : Bool), 0x800000 ≤ off → off + size ≤ 0x1000000 → s.host.lease = none →
    exec (.expertWindowAccess off size none ep) s = .next { s with out := .completion (leBytes size 0) false :: s.out }) ∧
  (∀ (s : State) (off size : Nat) (ep : Bool),
    ((0xA0000 ≤ off ∧ off + size ≤ 0x200000) ∨ (0x300000 ≤ off ∧ off + size ≤ 0x800000)) → 0 < size →
    exec (.expertWindowAccess off size none ep) s = .next { s with out := .completion (leBytes size 0) false :: s.out }) ∧
  (∀ (s : State) (off size : Nat) (bs : List Byte) (l : Lease), 0x800000 ≤ off → off + size ≤ 0x1000000 → s.host.lease = some l →
    (l.rw = false ∨ s.denies (l.base + (off - 0x800000)) = true) → Answers (.expertWindowAccess off size (some bs) false) s fun u =>
      CountedBy Rg.PCE_EXPERT_DENIED 1 s u ∧ (u.rd (Rg.EVT_STATUS 12)).getLsbD 0 = true ∧ NoneRaised s u ∧
        QuietBut [Rg.PCE_EXPERT_DENIED] s u ∧ OnlyReports s u) ∧
  (∀ (s : State) (off size : Nat) (ep : Bool) (l : Lease), 0x800000 ≤ off → off + size ≤ 0x1000000 → s.host.lease = some l →
    let a := l.base + (off - 0x800000)
    let m := s.memSync hostAgent
    Local s a → Answers (.expertWindowAccess off size none ep) s fun u => u = { m.busRead hostAgent a size with out :=
      (if (m.decodeBad hostAgent a size).isSome then [.unsupported] else completions a (m.busBytes hostAgent a size)) ++
        (m.busRead hostAgent a size).out }) ∧
  (∀ (s : State) (off size : Nat) (bs : List Byte) (l : Lease), 0x800000 ≤ off → off + size ≤ 0x1000000 → s.host.lease = some l →
    l.rw = true → s.denies (l.base + (off - 0x800000)) = false →
    exec (.expertWindowAccess off size (some bs) false) s = .next (s.busWrite hostAgent (l.base + (off - 0x800000)) (clean bs))) ∧
  (∀ (s : State) (l : Lease), s.host.lease = some l → Answers .expertLeaseExpiry s fun u =>
    u.host.lease = none ∧ QuietBut [] s u ∧ OnlyReports s u ∧ u.host.cmds = s.host.cmds ∧ u.host.bar0 = s.host.bar0) ∧
  (∀ (s : State) (n : Fin 64) (hop : Nat) (c : Cmd), s.host.forwarded n = some c → c.lost = false → c.relayed = none →
    Answers (.relayHopTimeout n hop) s fun u =>
      mbxState u.regs n = 3 ∧ u.host.bytes (rspArea n) 32 = responseBytes c stRelayTimeout hop [] ∧
        u.out = .msix (vectorOf s.host (32 + n)) :: s.out ∧ RegsBut [Rg.PCE_MBX_STATE n] s u ∧
        u = { s with regs := u.regs, out := u.out, host := u.host })

/-- R57 to R60, R74 to R76: a request that fails a check before its payload is answered with the first failure in the order magic, version, CRC, length,
device, command, tag, and nothing else happens; one that fails none is left to its own command. R327: a request whose mailbox a reset of the PCIe
domain has taken is answered into no mailbox; its final status goes out as a notification. -/
def Obligations.InvalidRequestsGetTheFirstFailure : Prop :=
  (∀ (s : State) (n : Fin 64) (c : Cmd), s.waiting n = some c → c.lost = false → c.relayed = none →
    let len := le c.head 12 4
    let magic := le c.head 0 4 = 0x50535733
    let version := le c.head 4 1 = 3
    let crc := le c.head 28 2 = requestCrc c
    let fits := len ≤ 4064 ∧ len % 4 = 0 ∧ lengthFits c.code len c.payload = true
    let device := c.dev = 0 ∨ (relayMode s.regs = true ∧ c.dev < 64 ∧ c.dev < s.host.relay.length)
    let command := isCode c.code = true ∧ (isExpert c.code = true → s.host.levels.getLsbD n = true)
    (¬ magic → Answers (.invalidRequest n) s (AnsweredOnly n c 0x02 0 [] s)) ∧
    (magic → ¬ version → Answers (.invalidRequest n) s (AnsweredOnly n c 0x03 0x0303 [] s)) ∧
    (magic → version → ¬ crc → Answers (.invalidRequest n) s (AnsweredOnly n c 0x04 0 [] s)) ∧
    (magic → version → crc → ¬ fits → Answers (.invalidRequest n) s (AnsweredOnly n c 0x05 0 [] s)) ∧
    (magic → version → crc → fits → ¬ device → Answers (.invalidRequest n) s (AnsweredOnly n c 0x06 c.dev [] s)) ∧
    (magic → version → crc → fits → device → ¬ command → Answers (.invalidRequest n) s (AnsweredOnly n c 0x07 0 [] s)) ∧
    (magic → version → crc → fits → device → command → c.tag = 0 ∨ tagTaken s.host.cmds c = true →
      Answers (.invalidRequest n) s (AnsweredOnly n c 0x08 0 [] s)) ∧
    (s.verdict n c = none → exec (.invalidRequest n) s = .next s)) ∧
  (∀ (s : State) (n : Fin 64) (c : Cmd), s.waiting n = some c → c.lost = true → c.relayed = none →
    (∀ e, s.verdict n c = some e → Answers (.invalidRequest n) s fun u =>
      u.host.bar0 = s.host.bar0 ∧ QuietBut [] s u ∧ OnlyReports s u) ∧
    (s.verdict n c = none → c.dev = 0 → c.code = 0x0002 → Answers (.ping n) s fun u =>
      u.host.bar0 = s.host.bar0 ∧ QuietBut [] s u ∧ OnlyReports s u))

/-- R77, R81: IDENTIFY answers 48 bytes that name the part, PING returns its payload, EXPERT_CLASS answers the class of its address; nothing else changes.
R66, R68, R76, R78, R79: NRING_SETUP starts the ring anew and writes what waits once it is enabled; LEVEL_SET in mailbox 0 sets the level of every
mailbox but mailbox 0, and answers WRONG_STATE elsewhere; MSIX_MAP gives each source the vector of its last entry and leaves the others. -/
def Obligations.QueriesRingLevelsAndVectors : Prop :=
  (∀ (s : State) (n : Fin 64) (c : Cmd), Asked s n c →
    (c.code = 0x0001 → Answers (.identify n) s fun u => ∃ p : List Byte, AnsweredOnly n c 0 0 p s u ∧ p.length = 48 ∧
      le p 0 4 = 0x4864 ∧ le p 4 1 = 0xB0 ∧ le p 5 1 = 3 ∧ (relayMode s.regs = false → le p 6 1 = 0) ∧ le p 7 1 = b2n (relayMode s.regs) ∧
      le p 13 1 = activePair s.regs ∧ le p 14 1 = bootStage s.regs ∧
      le p 15 1 = b2n (s.boot.pair0 == .standby || s.boot.pair1 == .standby) ∧ (relayMode s.regs = false → le p 34 2 = 0xFFFF) ∧
      (relayMode s.regs = true → s.host.self.index < 256 → s.host.self.parent < 256 → s.host.self.link < 256 →
        le p 6 1 = s.host.self.index ∧ le p 34 1 = s.host.self.parent ∧ le p 35 1 = s.host.self.link)) ∧
    (c.code = 0x0002 → Answers (.ping n) s (AnsweredOnly n c 0 0 c.payload s)) ∧
    (c.code = 0x0084 → Answers (.expertClass n) s (AnsweredOnly n c 0 0 (leBytes 4 (regClassOf (le c.payload 0 8))) s))) ∧
  (∀ (s : State) (n : Fin 64) (c : Cmd), Asked s n c →
    (c.code = 0x0003 → le c.payload 0 8 % 4096 = 0 → 8 ≤ le c.payload 8 1 → le c.payload 8 1 ≤ 16 → Answers (.nringSetup n) s fun u =>
      Answered n c 0 0 [] u ∧ u.host.ring.addr = le c.payload 0 8 ∧ u.host.ring.sizeLog = le c.payload 8 1 ∧
        u.host.ring.enabled = bit (le c.payload 9 1) 0 ∧ u.getF Rg.PCE_NRING_CONSUMER Fd.PCE_NRING_CONSUMER_consumer = 0 ∧
        (bit (le c.payload 9 1) 0 = false → u.host.ring.fill = 0 ∧ u.host.backlog = s.host.backlog ∧
          u.getF Rg.PCE_NRING_PRODUCER Fd.PCE_NRING_PRODUCER_producer = 0 ∧
          u.getF Rg.PCE_NRING_PRODUCER Fd.PCE_NRING_PRODUCER_phase = 1) ∧
        (bit (le c.payload 9 1) 0 = true → u.host.ring.room = false ∨ (u.host.backlog = [] ∧ u.host.lostCount = 0)) ∧
        u = { s with regs := u.regs, out := u.out, host := u.host }) ∧
    (c.code = 0x0005 → n = 0 → Answers (.levelSet n) s fun u =>
      Answered n c 0 0 (leBytes 8 u.host.levels.toNat) u ∧ u.host.levels = BitVec.ofNat 64 (le c.payload 0 8) &&& ~~~ 1#64 ∧
        RegsBut [Rg.PCE_MBX_STATE n] s u ∧ u = { s with regs := u.regs, out := u.out, host := u.host }) ∧
    (c.code = 0x0005 → n ≠ 0 → Answers (.levelSet n) s (AnsweredOnly n c 0x0C 0 [] s)) ∧
    (c.code = 0x0004 → (∀ e ∈ msixEntries c.payload, e.1 ≤ 96 ∧ e.2 ≤ 63) → Answers (.msixMap n) s fun u =>
      (∀ source, vectorOf u.host source = match (msixEntries c.payload).reverse.find? (fun e => e.1 == source) with
        | some e => e.2
        | none => vectorOf s.host source) ∧
      mbxState u.regs n = 3 ∧ RegsBut [Rg.PCE_MBX_STATE n] s u ∧ u = { s with regs := u.regs, out := u.out, host := u.host }))

/-- R71, R72, R80: EXPERT_ACQUIRE grants or renews the lease, but EXPERT_HELD names the mailbox that holds it; EXPERT_RELEASE ends a lease of its own
mailbox and answers WRONG_STATE elsewhere. R72, R81: a word read or written through a message has the effect of the same access on the device; a write
that the register's class forbids is discarded, counted and answered with index 0; a function's codes reach its own register blocks only. -/
def Obligations.ExpertLeaseAndWords : Prop :=
  (∀ (s : State) (n : Fin 64) (c : Cmd), Asked s n c →
    (c.code = 0x0080 → le c.payload 0 8 % 0x800000 = 0 → 1 ≤ le c.payload 8 4 → le c.payload 8 4 ≤ 60000 → le c.payload 12 1 ≤ 1 →
      ((∀ l, s.host.lease = some l → l.mbx = n.val) → Answers (.expertAcquire n) s fun u =>
        Answered n c 0 0 (leBytes 4 (le c.payload 8 4)) u ∧
          u.host.lease = some { mbx := n.val, base := le c.payload 0 8, periodMs := le c.payload 8 4, rw := le c.payload 12 1 == 1 } ∧
          RegsBut [Rg.PCE_MBX_STATE n] s u ∧ u = { s with regs := u.regs, out := u.out, host := u.host }) ∧
      (∀ l, s.host.lease = some l → l.mbx ≠ n.val → Answers (.expertAcquire n) s (AnsweredOnly n c 0x0E l.mbx [] s))) ∧
    (c.code = 0x0081 →
      (∀ l, s.host.lease = some l → l.mbx = n.val → Answers (.expertRelease n) s fun u =>
        Answered n c 0 0 [] u ∧ u.host.lease = none ∧
          RegsBut [Rg.PCE_MBX_STATE n] s u ∧ u = { s with regs := u.regs, out := u.out, host := u.host }) ∧
      ((∀ l, s.host.lease = some l → l.mbx ≠ n.val) → Answers (.expertRelease n) s (AnsweredOnly n c 0x0C 0 [] s)))) ∧
  (∀ (s : State) (n : Fin 64) (c : Cmd), Asked s n c → le c.payload 0 8 % 4 = 0 → le c.payload 8 4 = 1 →
    let x := le c.payload 0 8
    let bad := (s.decodeBad hostAgent x 4).isSome
    let bytes := if bad then leBytes 4 0 else vals (s.busBytes hostAgent x 4)
    let word := clean ((c.payload.drop 16).take 4)
    let reads := fun u : State => Answered n c 0 (b2n bad) bytes u ∧ u.mem = (s.busRead hostAgent x 4).mem ∧
      RegsBut [Rg.PCE_MBX_STATE n] (s.busRead hostAgent x 4) u
    let writes := fun u : State => Answered n c 0 0 (leBytes 4 1 ++ leBytes 4 0xFFFFFFFF) u ∧ u.mem = (s.busWrite hostAgent x word).mem ∧
      RegsBut [Rg.PCE_MBX_STATE n] (s.busWrite hostAgent x word) u
    let denied := fun u : State => Answered n c 0 0 (leBytes 4 0 ++ leBytes 4 0) u ∧ CountedBy Rg.PCE_EXPERT_DENIED 1 s u ∧
      QuietBut [Rg.PCE_MBX_STATE n, Rg.PCE_EXPERT_DENIED] s u ∧ u.mem = s.mem
    (c.code = 0x0082 → Answers (.expertRead n) s reads) ∧
    (c.code = 0x0083 → s.denies x = false → Answers (.expertWrite n) s writes) ∧
    (c.code = 0x0083 → s.denies x = true → Answers (.expertWrite n) s denied) ∧
    (fnExpert c.code 0x80 = true → fnCovers (c.code / 256) x 1 = true → Answers (.functionExpertRead n) s reads) ∧
    (fnExpert c.code 0x81 = true → fnCovers (c.code / 256) x 1 = true → s.denies x = false → Answers (.functionExpertWrite n) s writes) ∧
    (fnExpert c.code 0x80 = true → fnCovers (c.code / 256) x 1 = false →
      Answers (.functionExpertRead n) s (AnsweredOnly n c 0x0D 0 [] s)) ∧
    (fnExpert c.code 0x81 = true → fnCovers (c.code / 256) x 1 = false →
      Answers (.functionExpertWrite n) s (AnsweredOnly n c 0x0D 0 [] s)))

/-- R65, R82, R84, R279, R386: a CARRIER_ADD beyond a limit, or whose grant queues find no place, answers LIMIT_EXCEEDED. CARRIER_ADD and CARRIER_REMOVE that pass their checks wait for a frame tick while Drum is live, with the response given at once,
and else take effect at once: the carrier stands with its payload, its two grant queues, its home cluster and its copied weights, its counter record
zeroed; or it is gone with its flows and their bindings. CARRIER_QUERY changes nothing. -/
def Obligations.CarriersComeAndGo : Prop :=
  ∀ (s : State) (n : Fin 64) (c : Cmd), Asked s n c →
    let p := c.payload
    let k := le p 0 2
    let r := carrierResponse s.planned.queuesUsed s.planned.pins s.actives p
    let w := s.readWeights p
    let q := (w.1.newGrantQueue (le r 0 4)).newGrantQueue (le r 4 4)
    (c.code = 0x0101 → firstBad? (carrierChecks (s.planned.ppt.carrier k).isNone p) = none →
      ∀ l, s.planned.carrierLimit (s.planned.cells ++ [(k, p)]) p = some l → Answers (.carrierAdd n) s (AnsweredOnly n c 0x0A l [] s)) ∧
    (c.code = 0x0101 → firstBad? (carrierChecks (s.planned.ppt.carrier k).isNone p) = none →
      s.planned.carrierLimit (s.planned.cells ++ [(k, p)]) p = none → grantsFull s.planned.queuesUsed s.planned.pins p = true →
      Answers (.carrierAdd n) s (AnsweredOnly n c 0x0A 7 [] s)) ∧
    (c.code = 0x0101 → p.length = 256 → firstBad? (carrierChecks (s.planned.ppt.carrier k).isNone p) = none →
      s.planned.carrierLimit (s.planned.cells ++ [(k, p)]) p = none → grantsFull s.planned.queuesUsed s.planned.pins p = false →
      let x := s.planned.commitCarrier (p ++ r)
      let fits := x.plansHold = true ∧ x.anyOver = false ∧ x.protectedFails = none
      Answers (.carrierAdd n) s fun u =>
        (x.plansHold = false → AnsweredOnly n c 0x09 3 [] s u) ∧
        (x.plansHold = true → x.anyOver = true → AnsweredOnly n c 0x09 6 [] s u) ∧
        (∀ m, x.plansHold = true → x.anyOver = false → x.protectedFails = some m → AnsweredOnly n c 0x0B m [] s u) ∧
        (fits → s.drumLive = true → AnsweredOnly n c 1 0 r s u ∧ Waits c (p ++ r) u) ∧
        (fits → s.drumLive = false → anyP w.2 = false → ∃ e, AnsweredOnly n c 0 0 r e u ∧
        e.ppt = { s.ppt with carriers := Map.set none s.ppt.carriers k (some
          { payload := p
            ulq := le r 0 4
            dlq := le r 4 4
            home := le r 8 1
            weights := if le p 56 8 = 0 then [] else s.memBytes s.ctrlUnit (le p 56 8) 16384 }) } ∧
        (∀ a, a < 64 * k ∨ 64 * k + 64 ≤ a → Map.get 0 e.evt.live a = Map.get 0 s.evt.live a) ∧
        (∀ a, 64 * k ≤ a → a < 64 * k + 64 → Map.get 0 e.evt.live a = 0) ∧
        RegsBut [Rg.PPT_SLOT_BUDGET, Rg.PPT_GUARD_BUDGET] q e ∧ e = { q with regs := e.regs, ppt := e.ppt, evt := { s.evt with live := e.evt.live } })) ∧
    (c.code = 0x0102 → (s.planned.ppt.carrier k).isSome = true →
      (s.drumLive = true → Answers (.carrierRemove n) s fun u => AnsweredOnly n c 1 0 [] s u ∧ Waits c p u) ∧
      (s.drumLive = false → (s.ppt.carrier k).isSome = true → Answers (.carrierRemove n) s fun u =>
        Answered n c 0 0 [] u ∧ u.ppt.carrier k = none ∧ (∀ x, x ≠ k → u.ppt.carrier x = s.ppt.carrier x) ∧
          (∀ f ∈ u.ppt.flows, f ∈ s.ppt.flows ∧ le f.payload 4 2 ≠ k) ∧
          (∀ f ∈ s.ppt.flows, (∀ g ∈ s.ppt.flows, g.id = f.id → le g.payload 4 2 ≠ k) → f ∈ u.ppt.flows) ∧
          (∀ b ∈ u.ppt.bindings, b ∈ s.ppt.bindings ∧ ∀ g ∈ s.ppt.flows, g.id = b.flow → le g.payload 4 2 ≠ k) ∧
          u.drum = s.drum ∧ u.cores = s.cores ∧ u.cpl = s.cpl ∧ u.blf = s.blf)) ∧
    (c.code = 0x0102 → (s.planned.ppt.carrier k).isSome = false → Answers (.carrierRemove n) s (AnsweredOnly n c 0x09 0 [] s)) ∧
    (c.code = 0x0103 → ∀ x, s.ppt.carrier k = some x → Answers (.carrierQuery n) s (AnsweredOnly n c 0 0
      (leBytes 4 x.ulq ++ leBytes 4 x.dlq ++ leBytes 1 x.home ++ leBytes 7 0 ++ splice x.payload 56 (leBytes 8 0)) s)) ∧
    (c.code = 0x0103 → s.ppt.carrier k = none → Answers (.carrierQuery n) s (AnsweredOnly n c 0x09 0 [] s))

/-- R57, R65, R86, R161, R184 to R186, R386: FLOW_ADD, FLOW_REMOVE, BUDGET_SET and CADENCE_BIND that pass their checks wait for a slot tick while Drum
is live; else the flow stands with the lowest free counter record, or is gone with its binding; the limits stand with the budgets of R161; the binding
stands in place of an older one, or is gone. A change after which a protected cadence would no longer fit is refused with LIMIT and changes nothing
(R172). -/
def Obligations.FlowsBudgetsAndBindings : Prop :=
  ∀ (s : State) (n : Fin 64) (c : Cmd), Asked s n c →
    let p := c.payload
    let id := le p 0 4
    let pends := fun i : Instr => Answers i s fun u => AnsweredOnly n c 1 0 [] s u ∧ Waits c p u
    (c.code = 0x0201 → firstBad? (flowChecks (s.planned.flow id).isNone (s.planned.ppt.carrier (le p 4 2)).isSome p) = none →
      let fits := le p 7 1 = 0 → (s.planned.effect c).protectedFails = none
      Answers (.flowAdd n) s fun u =>
        (∀ m, le p 7 1 = 0 → (s.planned.effect c).protectedFails = some m → AnsweredOnly n c 0x0B m [] s u) ∧
        (fits → s.drumLive = true → AnsweredOnly n c 1 0 [] s u ∧ Waits c p u) ∧
        (fits → s.drumLive = false → ∃ e slot, AnsweredOnly n c 0 0 [] e u ∧
        e = { s with ppt := { s.ppt with flows := s.ppt.flows ++ [⟨id, p, slot⟩] }, evt := { s.evt with live := e.evt.live } } ∧
        (slot ∉ s.ppt.flows.map (·.slot) ∧ slot ∉ s.evt.freeing.map (·.1)) ∧
        (∀ x, x < slot → x ∈ s.ppt.flows.map (·.slot) ∨ x ∈ s.evt.freeing.map (·.1)) ∧
        (∀ a, a < 0x8000 + 64 * slot ∨ 0x8000 + 64 * slot + 64 ≤ a → Map.get 0 e.evt.live a = Map.get 0 s.evt.live a) ∧
        Map.get 0 e.evt.live (0x8000 + 64 * slot) = BitVec.ofNat 32 id ∧
        (∀ a, 0x8000 + 64 * slot < a → a < 0x8000 + 64 * slot + 64 → Map.get 0 e.evt.live a = 0))) ∧
    (c.code = 0x0202 → (s.planned.flow id).isSome = true →
      (s.drumLive = true → pends (.flowRemove n)) ∧
      (s.drumLive = false → ∀ f, s.flow id = some f → Answers (.flowRemove n) s fun u => Answered n c 0 0 [] u ∧
        u.ppt.flows = s.ppt.flows.filter (fun f => f.id != id) ∧ u.ppt.bindings = s.ppt.bindings.filter (fun b => b.flow != id) ∧
        u.evt.freeing = s.evt.freeing ++ [(f.slot, false)] ∧ u.ppt.carriers = s.ppt.carriers ∧ u.drum = s.drum ∧ u.cores = s.cores ∧
        u.cpl = s.cpl ∧ u.dma = s.dma ∧
        u.getF Rg.PPT_CADENCE_STATUS Fd.PPT_CADENCE_STATUS_bound_flows = u.ppt.bindings.length % 512)) ∧
    (c.code = 0x0202 → (s.planned.flow id).isSome = false → Answers (.flowRemove n) s (AnsweredOnly n c 0x09 0 [] s)) ∧
    (c.code = 0x0203 → firstBad? (budgetChecks p) = none →
      Answers (.budgetSet n) s fun u =>
        (∀ m, (s.planned.effect c).protectedFails = some m → AnsweredOnly n c 0x0B m [] s u) ∧
        ((s.planned.effect c).protectedFails = none → s.drumLive = true → AnsweredOnly n c 1 0 [] s u ∧ Waits c p u) ∧
        ((s.planned.effect c).protectedFails = none → s.drumLive = false → ∃ e, AnsweredOnly n c 0 0 [] e u ∧
        e = { s with regs := e.regs, ppt := { s.ppt with powerLimit := le p 0 4, guardMw := le p 4 4, dozeSlots := le p 14 2 } } ∧
        e.rd Rg.PPT_SLOT_BUDGET = BitVec.ofNat 32 ((le p 0 4 - le p 4 4 - pFixed s.regs) * slotUnits s.planScs / 983040) ∧
        e.rd Rg.PPT_GUARD_BUDGET = BitVec.ofNat 32 (le p 4 4 * slotUnits s.planScs / 983040) ∧
        e.getF Rg.PPT_CTRL Fd.PPT_CTRL_protect_clusters = le p 10 1 ∧ e.getF Rg.PPT_CTRL Fd.PPT_CTRL_time_fill = le p 11 1 ∧
        e.getF Rg.PPT_CTRL Fd.PPT_CTRL_relax_margin = le p 12 1 ∧
        RegsBut [Rg.PPT_SLOT_BUDGET, Rg.PPT_GUARD_BUDGET, Rg.PPT_CTRL, Rg.PPT_THERMAL, Rg.PPT_ECC_THRESHOLD] s e)) ∧
    (c.code = 0x0204 → bit (le p 7 1) 0 = false → isStudio (s.planned.flow id) = true → le p 4 1 ≤ 9 → 1 ≤ le p 5 1 → le p 5 1 ≤ 8 →
      2 ≤ le p 6 1 → le p 6 1 ≤ 32 → le p 8 4 ≤ 100000000 → cadenceLimit s.planned.ppt.bindings p = none →
      Answers (.cadenceBind n) s fun u =>
        (∀ m, (s.planned.effect c).protectedFails = some m → AnsweredOnly n c 0x0B m [] s u) ∧
        ((s.planned.effect c).protectedFails = none → s.drumLive = true → AnsweredOnly n c 1 0 [] s u ∧ Waits c p u) ∧
        ((s.planned.effect c).protectedFails = none → s.drumLive = false → ∃ e at_, AnsweredOnly n c 0 0 [] e u ∧
        e = { s with regs := e.regs, ppt := { s.ppt with bindings := s.ppt.bindings.filter (fun b => b.flow != id) ++ [⟨id, p, at_⟩] } } ∧
        (∀ a, s.ppt.accums.find? (fun a => a.rate == le p 4 1) = some a → at_ = a.index) ∧ RegsBut [Rg.PPT_CADENCE_STATUS] s e ∧
        e.getF Rg.PPT_CADENCE_STATUS Fd.PPT_CADENCE_STATUS_bound_flows = e.ppt.bindings.length % 512)) ∧
    (c.code = 0x0204 → bit (le p 7 1) 0 = true → isStudio (s.planned.flow id) = true →
      (∀ m, (s.planned.effect c).protectedFails = some m → Answers (.cadenceUnbind n) s fun u => AnsweredOnly n c 0x0B m [] s u) ∧
      ((s.planned.effect c).protectedFails = none → s.drumLive = true → pends (.cadenceUnbind n)) ∧
      ((s.planned.effect c).protectedFails = none → s.drumLive = false → Answers (.cadenceUnbind n) s fun u => ∃ e, AnsweredOnly n c 0 0 [] e u ∧
        e = { s with regs := e.regs, ppt := { s.ppt with bindings := s.ppt.bindings.filter (fun b => b.flow != id) } } ∧
        RegsBut [Rg.PPT_CADENCE_STATUS] s e))

/-- R27, R31, R49, R51, R65, R85, R172: DRUM_START writes the offset and DRM_CTRL, and completes with the first tick, unless protected work would not
fit, or, by the model's choice (log entry 167), a plan breaks; DRUM_STOP clears enable and completes at
the frame tick of the stop. A stop of a wait for the first tick ends the start with WRONG_STATE. -/
def Obligations.DrumIsStartedAndStopped : Prop :=
  ∀ (s : State) (n : Fin 64) (c : Cmd), Asked s n c →
    let p := c.payload
    let waiting := s.flag Rg.DRM_STATUS Fd.DRM_STATUS_waiting
    (c.code = 0x0104 → le p 0 1 ≤ 3 ∨ le p 0 1 = 0xFF → le p 1 1 ≤ 1 → -9830400 ≤ leS p 4 4 → leS p 4 4 ≤ 9830399 →
      (s.drumLive = true ∨ waiting = true → Answers (.drumStart n) s (AnsweredOnly n c 0x0C 0 [] s)) ∧
      (s.drumLive = false → waiting = false → (∃ e ∈ s.cells, s.startScs p < carScs e.2) →
        Answers (.drumStart n) s (AnsweredOnly n c 0x0A 9 [] s)) ∧
      (s.drumLive = false → waiting = false → (∀ e ∈ s.cells, carScs e.2 ≤ s.startScs p) → (s.startDrum p).plansHold = false →
        Answers (.drumStart n) s (AnsweredOnly n c 0x09 0 [] s)) ∧
      (∀ m, s.drumLive = false → waiting = false → (∀ e ∈ s.cells, carScs e.2 ≤ s.startScs p) → (s.startDrum p).plansHold = true →
        (s.startDrum p).protectedFails = some m → Answers (.drumStart n) s (AnsweredOnly n c 0x0B m [] s)) ∧
      (s.drumLive = false → waiting = false → (∀ e ∈ s.cells, carScs e.2 ≤ s.startScs p) → (s.startDrum p).plansHold = true →
        (s.startDrum p).protectedFails = none → Answers (.drumStart n) s fun u =>
        Answered n c 1 0 [] u ∧ Waits c p u ∧ u = { s with regs := u.regs, out := u.out, host := u.host } ∧
          RegsBut [Rg.PCE_MBX_STATE n, Rg.DRM_CTRL, Rg.DRM_TIME_OFFSET, Rg.DRM_STATUS, Rg.PPT_SLOT_BUDGET, Rg.PPT_GUARD_BUDGET] s u ∧
          u.rd Rg.DRM_TIME_OFFSET = BitVec.ofNat 32 (le p 4 4) ∧ u.getF Rg.DRM_CTRL Fd.DRM_CTRL_enable = 1 ∧
          u.getF Rg.DRM_CTRL Fd.DRM_CTRL_start_mode = le p 1 1 ∧ u.flag Rg.DRM_STATUS Fd.DRM_STATUS_waiting = true ∧
          (s.startScs p ≤ 3 → u.getF Rg.DRM_CTRL Fd.DRM_CTRL_master_scs = s.startScs p))) ∧
    (c.code = 0x0105 →
      (s.drumLive = true → Answers (.drumStop n) s fun u =>
        Answered n c 1 0 [] u ∧ Waits c p u ∧ u = { s with regs := u.regs, out := u.out, host := u.host } ∧
          RegsBut [Rg.PCE_MBX_STATE n, Rg.DRM_CTRL, Rg.DRM_STATUS] s u ∧ u.getF Rg.DRM_CTRL Fd.DRM_CTRL_enable = 0 ∧
          u.flag Rg.DRM_STATUS Fd.DRM_STATUS_running = s.flag Rg.DRM_STATUS Fd.DRM_STATUS_running) ∧
      (s.drumLive = false → waiting = true → Answers (.drumStop n) s fun u =>
        Answered n c 0 0 [] u ∧ u.getF Rg.DRM_CTRL Fd.DRM_CTRL_enable = 0 ∧ u.flag Rg.DRM_STATUS Fd.DRM_STATUS_waiting = false ∧
          QuietBut [Rg.PCE_MBX_STATE n, Rg.DRM_CTRL, Rg.DRM_STATUS] s u ∧ OnlyReports s u ∧
          ∀ k ∈ u.host.cmds, k.phase = .pending → k.dev = 0 → k.code ≠ 0x0104) ∧
      (s.drumLive = false → waiting = false → Answers (.drumStop n) s (AnsweredOnly n c 0x0C 0 [] s)))

/-- R65, R87, R180 to R182, R259, R414: CLUSTER_STATUS answers the roles, causes and homes and changes nothing. CLUSTER_RETIRE of an active cluster waits
for a slot tick while Drum is live; else the cluster is retired at once, its items not yet released go to the lowest spare, and cause 4 is set.
CLUSTER_REPAIR of a retired cluster makes its role 4 and resets it; the end of its test makes it a spare without causes, or retires it again. Each
answers WRONG_STATE for another role. -/
def Obligations.ClustersAreRetiredAndRepaired : Prop :=
  (∀ (s : State) (n : Fin 64) (c : Cmd), Asked s n c →
    let k := le c.payload 0 1
    (c.code = 0x0301 → Answers (.clusterStatus n) s fun u => ∃ p, AnsweredOnly n c 0 0 p s u ∧ p.length = 664 ∧
      le p 0 1 = ((List.range 18).filter (fun x => role s.regs x == 0)).length ∧
      le p 1 1 = ((List.range 18).filter (fun x => role s.regs x == 1)).length ∧
      (∀ x, x < 18 → le p (8 + 8 * x) 1 = x ∧ le p (9 + 8 * x) 1 = role s.regs x ∧
        le p (10 + 8 * x) 1 = s.getF (Rg.PPT_CLUSTER x) Fd.PPT_CLUSTER_cause ∧ le p (11 + 8 * x) 1 = clusterState s.regs x) ∧
      (∀ x, x < 512 → le p (152 + x) 1 = match s.ppt.carrier x with
        | some e => e.home % 256
        | none => 0xFF)) ∧
    (c.code = 0x0302 → 17 < k → Answers (.clusterRetire n) s (AnsweredOnly n c 0x09 0 [] s)) ∧
    (c.code = 0x0302 → k ≤ 17 → role s.regs k ≠ 0 → Answers (.clusterRetire n) s (AnsweredOnly n c 0x0C 0 [] s)) ∧
    (c.code = 0x0302 → k ≤ 17 → role s.regs k = 0 → s.drumLive = true → Answers (.clusterRetire n) s fun u =>
      AnsweredOnly n c 1 0 [] s u ∧ Waits c c.payload u) ∧
    (c.code = 0x0302 → k ≤ 17 → role s.regs k = 0 → s.drumLive = false → s.ppt.failing = [] → Answers (.clusterRetire n) s fun u =>
      Answered n c 0 0 [] u ∧ role u.regs k = 3 ∧ (u.rd (Rg.PPT_CLUSTER k)).getLsbD 4 = true ∧ (u.rd (Rg.EVT_STATUS 1)).getLsbD 0 = true ∧
        u.ppt.failing = [] ∧ u.drum.items = s.drum.items.map (s.drum.moved s.host.lastTick k (lowestSpare s.regs)) ∧
        (∀ e, s.ppt.carrier e = none → u.ppt.carrier e = none) ∧ u.mem = s.mem ∧ u.qm = s.qm ∧ u.cores = s.cores ∧ u.dma = s.dma) ∧
    (c.code = 0x0303 → 17 < k → Answers (.clusterRepair n) s (AnsweredOnly n c 0x09 0 [] s)) ∧
    (c.code = 0x0303 → k ≤ 17 → role s.regs k ≠ 3 → Answers (.clusterRepair n) s (AnsweredOnly n c 0x0C 0 [] s)) ∧
    (c.code = 0x0303 → k ≤ 17 → role s.regs k = 3 → (0x2000 + k) ∉ s.boot.resetUnits → Answers (.clusterRepair n) s fun u =>
      Answered n c 1 0 [] u ∧ Waits c c.payload u ∧ role u.regs k = 4 ∧ u.boot.resetUnits = (0x2000 + k) :: s.boot.resetUnits ∧
        u.getF Rg.BOOT_FUNC_STATUS Fd.BOOT_FUNC_STATUS_busy = 1 ∧ (∀ j, j < 8 → u.core (8 * k + j) = Core.reset) ∧
        (∀ a, tileBase k ≤ a → a < tileBase (k + 1) → Memory.byte u.mem a = 0) ∧
        (s.mec.merges = [] → ∀ a, a < tileBase k ∨ tileBase (k + 1) ≤ a → Memory.byte u.mem a = Memory.byte s.mem a) ∧ u.drum = s.drum ∧
        u.ppt = s.ppt ∧ u.qm = s.qm)) ∧
  (∀ (s : State) (k : Fin 18) (testStep : Word),
    let fewer := decide (((List.range 18).filter (holdsWork s.regs s.ppt.failing)).length < 16)
    (∀ pass, role s.regs k ≠ 4 → exec (.clusterRepairTestEnd k pass testStep) s = .next s) ∧
    (∀ pass, role s.regs k = 4 → Answers (.clusterRepairTestEnd k pass testStep) s fun u =>
      role u.regs k = (if pass then (if fewer then 2 else 1) else 3) ∧
        u.getF (Rg.PPT_CLUSTER k) Fd.PPT_CLUSTER_cause = (if pass then 0 else s.getF (Rg.PPT_CLUSTER k) Fd.PPT_CLUSTER_cause) ∧
        u.getF Rg.PPT_STATUS Fd.PPT_STATUS_failures = min 7 (retiredCount s.regs - b2n pass) ∧
        clusterState u.regs k = 0 ∧ (∀ x ∈ u.host.cmds, x.phase = .pending → x.dev = 0 → x.code = 0x0303 → le x.payload 0 1 ≠ k.val) ∧
        (s.mec.merges = [] → ∀ a, a < tileBase k ∨ tileBase (k + 1) ≤ a → a < sharedBase k ∨ sharedBase (k + 1) ≤ a →
          Memory.byte u.mem a = Memory.byte s.mem a) ∧ u.drum = s.drum ∧ u.ppt = { s.ppt with guardUsed := u.ppt.guardUsed } ∧
        (pass = false ∨ fewer = false → u.ppt = s.ppt) ∧ u.qm = s.qm))

/-- R65, R172, R311, R313, R316, R322: ETH_PORT_CONFIG and ECPRI_FLOW_MAP that pass their checks wait for a frame tick while Drum is live; else the port has its
enable, MTU, timing and management queues at once, its quad the mode where it is the quad's first port, and the flow map is the one of R316. -/
def Obligations.PortsAndFlowMapsAreConfigured : Prop :=
  ∀ (s : State) (n : Fin 64) (c : Cmd), Asked s n c →
    let p := c.payload
    let k := le p 0 1
    let es := mapAfter s.planned.eth.flows p
    (c.code = 0x0401 → firstBad? (portChecks p) = none →
      ((s.planned.effect c).anyOver = true ∨ (s.planned.effect c).plansHold = false) → Answers (.ethPortConfig n) s (AnsweredOnly n c 0x09 0 [] s)) ∧
    (c.code = 0x0401 → firstBad? (portChecks p) = none →
      (∀ q d, q < 32 → d < 2 → (s.planned.effect c).overRate (s.planned.effect c).eth.flows q d = false) →
      (s.planned.effect c).plansHold = true →
      (∀ m, (s.planned.effect c).protectedFails = some m → Answers (.ethPortConfig n) s (AnsweredOnly n c 0x0B m [] s)) ∧
      ((s.planned.effect c).protectedFails = none → s.drumLive = true → Answers (.ethPortConfig n) s fun u => AnsweredOnly n c 1 0 [] s u ∧ Waits c p u) ∧
      ((s.planned.effect c).protectedFails = none → s.drumLive = false → Answers (.ethPortConfig n) s fun u => ∃ e, AnsweredOnly n c 0 0 [] e u ∧
        OnlyReports { s with pwr := e.pwr, eth := { s.eth with mgmtTx := e.eth.mgmtTx, mgmtRx := e.eth.mgmtRx } } e ∧
        QuietBut [Rg.ETH_PORT_CTRL k, Rg.ETH_PORT_TIMING k, Rg.PPT_SLOT_BUDGET, Rg.PPT_GUARD_BUDGET, Rg.PWR_DOM (20 + k / 8), Rg.PWR_SUPERSEDED] s e ∧
        (k < 32 → devState s.regs = 0 → le p 1 1 % 2 = 1 → domState s.regs (20 + k / 8) = 0 → domFlight s.regs (20 + k / 8) = 7 →
          (20 + k / 8) ∉ s.pwr.exiting → (20 + k / 8) ∈ e.pwr.exiting) ∧
        e.getF (Rg.ETH_PORT_CTRL k) Fd.ETH_PORT_CTRL_enable = le p 1 1 % 2 ∧ e.getF (Rg.ETH_PORT_CTRL k) Fd.ETH_PORT_CTRL_mtu = le p 6 2 ∧
        (k < 32 → k % 4 = 0 → e.getF (Rg.ETH_PORT_CTRL k) Fd.ETH_PORT_CTRL_mode = le p 2 1) ∧
        (k = 32 → e.getF (Rg.ETH_PORT_CTRL k) Fd.ETH_PORT_CTRL_fec = le p 1 1 / 2 % 2) ∧
        e.getF (Rg.ETH_PORT_TIMING k) Fd.ETH_PORT_TIMING_t_lead = le p 3 1 ∧
        e.getF (Rg.ETH_PORT_TIMING k) Fd.ETH_PORT_TIMING_rx_window_end = le p 4 1 ∧
        e.getF (Rg.ETH_PORT_TIMING k) Fd.ETH_PORT_TIMING_cp_adv = le p 5 1 ∧
        (∀ x, Map.get 0 e.eth.mgmtTx x = if x = k then le p 8 4 % 2 ^ 20 else Map.get 0 s.eth.mgmtTx x) ∧
        (∀ x, Map.get 0 e.eth.mgmtRx x = if x = k then le p 12 4 % 2 ^ 20 else Map.get 0 s.eth.mgmtRx x))) ∧
    (c.code = 0x0402 → 1 ≤ le p 0 4 → le p 0 4 ≤ 253 → (∀ i, i < le p 0 4 → firstBad? (entryChecks p i) = none) →
      (∀ e ∈ (List.range (eflowsOf p).length).zip (eflowsOf p), firstBad? (s.planned.mapChecks es e.1 e.2) = none) →
      (1024000 < streamWeight es s.planned.cells → Answers (.ecpriFlowMap n) s (AnsweredOnly n c 0x0A 1 [] s)) ∧
      (streamWeight es s.planned.cells ≤ 1024000 →
      (8192 < es.length → Answers (.ecpriFlowMap n) s (AnsweredOnly n c 0x0A 5 [] s)) ∧
      (es.length ≤ 8192 → ringsFull s.planned.cells es = true → Answers (.ecpriFlowMap n) s (AnsweredOnly n c 0x0A 6 [] s)) ∧
      (es.length ≤ 8192 → ringsFull s.planned.cells es = false → (s.planned.effect c).plansHold = false →
        Answers (.ecpriFlowMap n) s (AnsweredOnly n c 0x09 10 [] s)) ∧
      (∀ m, es.length ≤ 8192 → ringsFull s.planned.cells es = false → (s.planned.effect c).plansHold = true →
        (s.planned.effect c).protectedFails = some m → Answers (.ecpriFlowMap n) s (AnsweredOnly n c 0x0B m [] s)) ∧
      (es.length ≤ 8192 → ringsFull s.planned.cells es = false → (s.planned.effect c).plansHold = true →
        (s.planned.effect c).protectedFails = none →
        (s.drumLive = true → Answers (.ecpriFlowMap n) s fun u => AnsweredOnly n c 1 0 [] s u ∧ Waits c p u) ∧
        (s.drumLive = false → Answers (.ecpriFlowMap n) s (AnsweredOnly n c 0 0 []
          { s with eth := { s.eth with flows := (if bit (le p 4 4) 0 then
            s.eth.flows.filter (fun e => !(eflowsOf p).any (fun x => x.carrier == e.carrier)) else s.eth.flows) ++ eflowsOf p } })))))

/-- R63, R331, R332, R345: TIMEBASE_CONFIG by its op. Op 0 and op 1 wait until they have been applied; op 2 steps the base at once, whose state is then
LOCKED, and completes; op 3 keeps its time of day for the next edge, or answers TIMEOUT. Ops 1 and 2 of a base that has stepped answer WRONG_STATE.
R337, R338, R346: PTP_PORT_CONFIG sets a fresh instance on its port or removes it, and completes; beyond the client limits it answers LIMIT_EXCEEDED
with identifier 8. TIME_STATUS answers the fifteen words of each base and the TLV bytes, and changes nothing. -/
def Obligations.TimebasesAndPtpAreConfigured : Prop :=
  ((∀ (s : State) (n : Fin 64) (c : Cmd), Asked s n c → c.code = 0x0501 →
    let p := c.payload
    let b := le p 0 1
    let op := le p 1 1
    b ≤ 2 →
    (op = 0 → le p 2 1 ≤ 3 → (le p 2 1 = 1 → b ≠ 2) → (le p 2 1 = 2 → b = 0) → (le p 2 1 = 3 → b = 2) → 1 ≤ le p 4 2 → le p 4 2 ≤ 10000 → 1 ≤ le p 6 2 →
      10 ≤ le p 8 4 → le p 8 4 ≤ 100000 → le p 12 4 ≤ 100000 → Answers (.timebaseConfigure n) s fun u =>
        AnsweredOnly n c 1 0 [] s u ∧ Waits c p u) ∧
    (3 < op → Answers (.timebaseConfigure n) s (AnsweredOnly n c 0x09 1 [] s)) ∧
    (op = 1 → le p 24 4 ≤ 999999999 →
      (tbStepped s.regs b = true → Answers (.timebaseLoadEstimate n) s (AnsweredOnly n c 0x0C 0 [] s)) ∧
      (tbStepped s.regs b = false → Answers (.timebaseLoadEstimate n) s fun u => AnsweredOnly n c 1 0 [] s u ∧ Waits c p u)) ∧
    (op = 2 → le p 24 4 ≤ 999999999 →
      (tbStepped s.regs b = true → Answers (.timebaseSetTime n) s (AnsweredOnly n c 0x0C 0 [] s)) ∧
      (tbStepped s.regs b = false → Answers (.timebaseSetTime n) s fun u =>
        mbxState u.regs n = 3 ∧ u.host.bytes (rspArea n) 32 = responseBytes c 1 0 [] ∧ tbState u.regs b = 2 ∧ tbStepped u.regs b = true ∧
          u.rd (Rg.BLF_TB_ERROR b) = 0 ∧ (u.blf.base b).phase = phaseOfPtp b (tbTime p) ∧ (u.blf.base b).at_ = s.now ∧ u.now = s.now ∧
          (u.rd (Rg.EVT_STATUS 10)).getLsbD (4 * b) = true ∧
          (∀ x, x < 3 → x ≠ b → tbSource s.regs x ≠ 3 → (s.blf.base x).lead = none → u.blf.base x = s.blf.base x) ∧
          (∀ k ∈ u.host.cmds, k.phase = .pending → k.dev = 0 → k.code = 0x0501 → k.tag ≠ c.tag) ∧ u.mem = s.mem ∧ u.ppt = s.ppt)) ∧
    (op = 3 → b = 0 → le p 24 4 ≤ 999999999 → Answers (.timebaseTimeOfDay n) s fun u =>
      AnsweredOnly n c 1 0 [] s { u with blf := s.blf } ∧ Waits c p u ∧ u.blf = { s.blf with tod := some (tbTime p) })) ∧
  (∀ s : State, Answers .timeOfDayTimeout s fun u => u.blf = { s.blf with tod := none } ∧ QuietBut [] s u ∧ OnlyReports { s with blf := u.blf } u ∧
    ∀ k ∈ u.host.cmds, k.phase = .pending → k.dev = 0 → k.code = 0x0501 → le k.payload 1 1 ≠ 3) ∧
  (∀ (s : State) (c : Cmd), s.host.cmds.find? (fun c => c.phase == .pending && (tbCmd 0 c || tbCmd 1 c)) = some c →
    let p := c.payload
    let b := le p 0 1
    b ≤ 2 →
    (tbCmd 0 c = true → ¬ (b = 2 ∧ le p 2 1 = 3 ∧ tbStepped s.regs 0 = true) → le p 2 1 ≤ 3 → Answers .timebaseApplied s fun u =>
      u.rd (Rg.BLF_TB_SLEW b) = BitVec.ofNat 32 (le p 4 2 * 65536 + le p 6 2) ∧ u.rd (Rg.BLF_TB_LOCK_NS b) = BitVec.ofNat 32 (le p 8 4) ∧
        tbSource u.regs b = le p 2 1 ∧ (u.blf.base b).xtal = le p 12 4 ∧ (∀ x, x < 3 → x ≠ b → u.blf.base x = s.blf.base x) ∧
        QuietBut [Rg.BLF_TB_SLEW b, Rg.BLF_TB_LOCK_NS b, Rg.BLF_TB_CTRL b, Rg.BLF_PPS_CTRL] s u ∧
        (∀ k ∈ u.host.cmds, k.phase = .pending → k ∈ s.host.cmds ∧ k ≠ c) ∧ u.drum = s.drum ∧ u.mem = s.mem) ∧
    (tbCmd 1 c = true → tbStepped s.regs b = false → Answers .timebaseApplied s fun u =>
      tbState u.regs b = 1 ∧ (u.blf.base b).phase = phaseOfPtp b (tbTime p) ∧ (u.blf.base b).at_ = s.now ∧
        (∀ x, x < 3 → x ≠ b → (s.blf.base x).lead = none → u.blf.base x = s.blf.base x) ∧ QuietBut [Rg.BLF_TB_STATUS b] s u ∧
        (∀ k ∈ u.host.cmds, k.phase = .pending → k ∈ s.host.cmds ∧ k ≠ c) ∧ u.drum = s.drum ∧ u.mem = s.mem))) ∧
  (∀ (s : State) (n : Fin 64) (c : Cmd), Asked s n c →
    let p := c.payload
    (c.code = 0x0502 → firstBad? (ptpChecks s.regs p) = none →
      (le p 1 1 ≠ 0xFF → s.blf.overClients p = true → Answers (.ptpPortConfig n) s (AnsweredOnly n c 0x0A 8 [] s)) ∧
      (le p 1 1 = 0xFF ∨ s.blf.overClients p = false → Answers (.ptpPortConfig n) s fun u =>
        mbxState u.regs n = 3 ∧ u.host.bytes (rspArea n) 32 = responseBytes c 1 0 [] ∧
          u.blf.inst (le p 0 1) = (if le p 1 1 = 0xFF then none else some
            { payload := p
              t1 := none
              t2 := none
              syncMaster := 0
              clients := [] }) ∧
          (∀ x, x ≠ le p 0 1 → u.blf.inst x = s.blf.inst x) ∧ u.blf = { s.blf with ptp := u.blf.ptp } ∧
          QuietBut [Rg.PCE_MBX_STATE n] s u ∧ OnlyReports { s with blf := u.blf } u ∧
          (∀ k ∈ u.host.cmds, k.phase = .pending → k.dev = 0 → k.code = 0x0502 → k.tag ≠ c.tag))) ∧
    (c.code = 0x0503 → Answers (.timeStatus n) s fun u => ∃ q, AnsweredOnly n c 0 0 q s u ∧
      q.length = 184 + (s.blf.tlv.length + 3) / 4 * 4 ∧
      (∀ b i, b < 3 → i < 15 → le q (60 * b + 4 * i) 4 = (s.view (Rg.BLF_TB_CTRL b + 4 + 4 * i)).toNat) ∧
      le q 180 4 = s.blf.tlv.length % 2 ^ 32))

/-- R404, R405, R412, R413: FW_STAGE takes the image of its address, and its end verifies it: only a valid one reaches the slot that does not run.
FW_ACTIVATE makes the pairs change places, at a frame tick or at once, and the end of the probation keeps the image; in the FAILED stage slot A is
staged, and activated with a reset. DEBUG_UNLOCK needs a valid token of 1 to 168 hours, and ends. -/
def Obligations.FirmwareIsStagedAndActivated : Prop :=
  (∀ (s : State) (n : Fin 64) (c : Cmd), Asked s n c →
    let p := c.payload
    let pair := if s.failed then 0 else 1 - activePair s.regs
    let agent := 0x6000 + 2 * pair
    let bs := s.memBytes agent (le p 0 8) (le p 8 4)
    let img := vals bs
    let t := s.memRead agent (le p 0 8) (le p 8 4)
    (c.code = 0x0B01 → dramSize s.regs < le p 0 8 + le p 8 4 → Answers (.fwStage n) s (AnsweredOnly n c 0x09 0 [] s)) ∧
    (c.code = 0x0B01 → le p 0 8 + le p 8 4 ≤ dramSize s.regs →
      (s.failed = false → s.hasStandby = false ∨ s.boot.staging.isSome = true → Answers (.fwStage n) s (AnsweredOnly n c 0x0C 0 [] s)) ∧
      (s.failed = false → s.hasStandby = true → s.boot.staging = none → anyP bs = false → Answers (.fwStage n) s fun u =>
        Answered n c 1 0 [] u ∧ u.boot = { s.boot with staging := some img } ∧ u.mem = t.mem ∧ u.mec = t.mec ∧ u.cores = s.cores ∧ Waits c p u) ∧
      (s.failed = false → s.hasStandby = true → s.boot.staging = none → anyP bs = true → Answers (.fwStage n) s fun u =>
        Answered n c 0x11 0 [] u ∧ u.boot.staging = none ∧ u.boot.pair pair = .recovering ∧
          u.boot.pair (activePair s.regs) = s.boot.pair (activePair s.regs) ∧ u.mem = t.mem ∧ u.mec = t.mec ∧ u.cores = s.cores) ∧
      (s.failed = true → Answers (.fwStage n) s fun u => (if imgValid img s.boot.secCounter = true ∧ anyP bs = false then
          Answered n c 0 0 [] u ∧ u.boot = { s.boot with slotA := ⟨img, .staged⟩ }
        else Answered n c 0x11 0 [] u ∧ u.boot = s.boot) ∧ u.mem = t.mem ∧ u.mec = t.mec ∧ u.cores = s.cores)) ∧
    (c.code = 0x0B02 → le p 0 2 ≤ 3600 → s.failed = false →
      (s.hasStandby = false ∨ s.boot.other.state ≠ .staged ∨ s.boot.activate.isSome = true ∨ s.boot.probation = true →
        Answers (.fwActivate n) s (AnsweredOnly n c 0x0C 0 [] s)) ∧
      (s.hasStandby = true → s.boot.other.state = .staged → s.boot.activate = none → s.boot.probation = false →
        (s.drumLive = true → Answers (.fwActivate n) s fun u =>
          AnsweredOnly n c 1 0 [] { s with boot := { s.boot with activate := some (le p 0 2) } } u ∧ Waits c p u) ∧
        (s.drumLive = false → Answers (.fwActivate n) s fun u => u.boot.runsB = !s.boot.runsB ∧ u.boot.probation = true ∧
          activePair u.regs = 1 - activePair s.regs ∧ u.boot.pair (activePair u.regs) = .active ∧
          u.boot.pair (activePair s.regs) = .standby ∧ u.getF Rg.PCE_MBX_GLOBAL Fd.PCE_MBX_GLOBAL_takeover = 1 ∧
          u.boot.slotA = s.boot.slotA ∧ u.boot.slotB = s.boot.slotB ∧ u.mem = s.mem ∧ u.drum = s.drum))) ∧
    (c.code = 0x0B02 → le p 0 2 ≤ 3600 → s.failed = true →
      (s.boot.slotA.state ≠ .staged → Answers (.fwActivate n) s (AnsweredOnly n c 0x0C 0 [] s)) ∧
      (s.boot.slotA.state = .staged → Answers (.fwActivate n) s fun u => u.boot.slotA = { s.boot.slotA with state := .active } ∧
        u.boot.slotB = s.boot.slotB ∧ bootStage u.regs = 1 ∧ u.cores = [] ∧ u.mem = [] ∧ u.host.cmds = [] ∧ u.wtr.flash = s.wtr.flash)) ∧
    (c.code = 0x0B03 →
      Answers (.debugUnlock n) s fun u => match Config.tokenOk s.boot.uniqueId p with
        | some h =>
          if 1 ≤ h ∧ h ≤ 168 then Answered n c 0 0 [] u ∧ u.boot = { s.boot with unlocked := true } ∧
            QuietBut [Rg.PCE_MBX_STATE n] s u ∧ OnlyReports { s with boot := u.boot } u
          else AnsweredOnly n c 0x11 0 [] s u
        | none => AnsweredOnly n c 0x11 0 [] s u)) ∧
  (∀ (s : State) (h : List Byte) (test : Bool), s.boot.staging = some h → Answers (.fwStageDone test) s fun u =>
    u.boot = (if imgValid h s.boot.secCounter = true then Boot.setOther { s.boot with staging := none } ⟨h, .staged⟩
      else { s.boot with staging := none }) ∧ QuietBut [] s u ∧ OnlyReports { s with boot := u.boot, free := u.free } u ∧
      ∀ k ∈ u.host.cmds, k.phase = .pending → k.dev = 0 → k.code ≠ 0x0B01) ∧
  (∀ s : State, s.boot.probation = true → Answers .probationEnd s fun u =>
    u.boot.probation = false ∧ u.boot.activate = none ∧ u.boot.running = { s.boot.running with state := .active } ∧
      u.boot.other = { s.boot.other with state := .staged } ∧ u.boot.runsB = s.boot.runsB ∧
      u.boot.secCounter = max s.boot.secCounter (imgSecurity s.boot.running.header) ∧ QuietBut [] s u ∧
      OnlyReports { s with boot := u.boot } u ∧ ∀ k ∈ u.host.cmds, k.phase = .pending → k.dev = 0 → k.code ≠ 0x0B02) ∧
  (∀ s : State, exec .debugUnlockExpiry s = .next { s with boot := { s.boot with unlocked := false } })

/-- R24, R248, R249, R252, R253, R254: what is written is read. A write of clean bytes within one code word, whole or partial, and a read of the same
range by any agent deliver those bytes, and no other byte of memory changes. A read that meets an uncorrectable error delivers poison, marks the word,
counts and raises; one that corrects an error delivers the data; a write into a region in initialisation is discarded and counted; an access to an
address that does not exist leaves memory as it was, and its bytes read poisoned. -/
def Obligations.WhatIsWrittenIsRead : Prop :=
  (∀ (s : State) (g h a : Nat) (data : List Byte), notMemory a = false → data ≠ [] →
    a + data.length ≤ wordOf s.regs a + wordSize s.regs a → inInit s.regs (wordOf s.regs a) = false →
    (∀ x, accessible s.regs g (a + x) = true ∨ data.length ≤ x) → (∀ x, accessible s.regs h (a + x) = true ∨ data.length ≤ x) →
    wokenBy g a = none → wokenBy h a = none → s.mec.merges = [] → s.mec.poison = [] → s.mec.upset = [] →
    s.getF Rg.MEC_INJECT_CTRL Fd.MEC_INJECT_CTRL_arm = 0 →
    ∃ t, exec (.memoryWrite g a (clean data)) s = .next t ∧ t = { s with mem := t.mem, mec := t.mec } ∧
      Answers (.memoryRead h a data.length .none) t fun u => u.out = .data h (clean data) :: s.out ∧
        (h ≠ g → Memory.bytes u.mem a data.length = data ∧ u.mec.merges = []) ∧
        (∀ x, x < a ∨ a + data.length ≤ x → Memory.byte u.mem x = Memory.byte s.mem x) ∧
        u.mec.poison = [] ∧ u = { s with mem := u.mem, mec := u.mec, out := u.out }) ∧
  (∀ (s : State) (g a n : Nat), notMemory a = false → 0 < n → a + n ≤ wordOf s.regs a + wordSize s.regs a →
    inInit s.regs (wordOf s.regs a) = false → (∀ x, x < n → accessible s.regs g (a + x) = true) → wokenBy g a = none → s.mec.merges = [] →
    (Answers (.memoryRead g a n .uncorrectable) s fun u =>
      u.out.head? = some (.data g (poisoned (Memory.bytes s.mem a n))) ∧ CountedBy Rg.MEC_UE_COUNT 1 s u ∧
        u.rd64 Rg.MEC_LAST_UE_LO = wordOf s.regs a % 2 ^ 48 ∧ u.mec.poison.contains (wordOf s.regs a) = true ∧
        (u.rd (Rg.EVT_STATUS 3)).getLsbD 0 = true ∧ u.mem = s.mem ∧
        QuietBut [Rg.MEC_UE_COUNT, Rg.MEC_LAST_UE_LO, Rg.MEC_LAST_UE_LO + 4] s u ∧ OnlyReports { s with mec := u.mec } u) ∧
    (Answers (.memoryRead g a n .corrected) s fun u =>
      u.out.head? = some (.data g ((Memory.bytes s.mem a n).map (fun b => ⟨b, s.mec.poison.contains (wordOf s.regs a)⟩))) ∧
        CountedBy Rg.MEC_CE_COUNT 1 s u ∧ u.rd64 Rg.MEC_LAST_CE_LO = wordOf s.regs a % 2 ^ 48 ∧
        (∀ k, memCluster (wordOf s.regs a) = some k → CountedBy (Rg.MEC_CLUSTER_CE k) 1 s u) ∧ u.mec.poison = s.mec.poison ∧
        u.mem = s.mem ∧ OnlyReports { s with mec := u.mec } u)) ∧
  (∀ (s : State) (g a : Nat) (data : List PByte), notMemory a = false → data ≠ [] →
    (inInit s.regs (wordOf s.regs a) = true → a + data.length ≤ wordOf s.regs a + wordSize s.regs a → wokenBy g a = none →
      (∀ x, x < data.length → accessible s.regs g (a + x) = true) → Answers (.memoryWrite g a data) s fun u =>
        u = { s with regs := u.regs } ∧ RegsBut [Rg.MEC_STATUS] s u ∧ u.getF Rg.MEC_STATUS Fd.MEC_STATUS_init_discards =
          min Fd.MEC_STATUS_init_discards.max (s.getF Rg.MEC_STATUS Fd.MEC_STATUS_init_discards + 1)) ∧
    ((∀ x, x < data.length → accessible s.regs g (a + x) = false) → wokenBy g a = none → Answers (.memoryWrite g a data) s fun u =>
      u.mem = s.mem ∧ u.mec = s.mec ∧ Raised 128 s u ∧ QuietBut [] s u ∧ OnlyReports s u) ∧
    ((∀ x, x < data.length → accessible s.regs g (a + x) = false) → wokenBy g a = none →
      Answers (.memoryRead g a data.length .none) s fun u => u.out.head? = some (.data g (poisoned (leBytes data.length 0))) ∧ u.mem = s.mem ∧
        u.mec = s.mec ∧ Raised 128 s u ∧ QuietBut [] s u ∧ OnlyReports s u))

/-- R245, R248, R249, R252, R256, R259, R260: a merge buffer is flushed into its word, which keeps its marker where the buffer is partial; an
initialisation writes zeros over its region and ends; a visit of the scrubber meets the error of its word; the record of a repair candidate is written
once, up to 1,024; an injection is armed only while the debug port is unlocked, and disarmed. -/
def Obligations.BuffersRegionsScrubsAndRepairs : Prop :=
  (∀ (s : State) (b : Merge), s.mec.merges = [b] → wordOf s.regs b.line = b.line → Map.get none s.mec.upset b.line = none →
    s.getF Rg.MEC_INJECT_CTRL Fd.MEC_INJECT_CTRL_arm = 0 → (b.bytes.map (·.1)).Nodup → Answers (.writeMergeFlush b.agent b.line) s fun u =>
      u.mec.merges = [] ∧ (∀ e ∈ b.bytes, Memory.byte u.mem e.1 = e.2.v) ∧
        (∀ x, x ∉ b.bytes.map (·.1) → Memory.byte u.mem x = Memory.byte s.mem x) ∧
        (u.mec.poison.contains b.line = (b.bytes.any (fun e => e.2.p) ||
          (decide (b.bytes.length < wordSize s.regs b.line) && s.mec.poison.contains b.line))) ∧
        (∀ w, w ≠ b.line → u.mec.poison.contains w = s.mec.poison.contains w) ∧ u = { s with mem := u.mem, mec := u.mec }) ∧
  (∀ (s : State) (n : Fin 64) (v : Word), Fd.MEC_REGION_CTRL_init.get v = 1 →
    s.getF (Rg.MEC_REGION_CTRL n) Fd.MEC_REGION_CTRL_busy = 0 → Answers (.regionInit n v) s fun u =>
      u.getF (Rg.MEC_REGION_CTRL n) Fd.MEC_REGION_CTRL_busy = 1 ∧
        u.getF (Rg.MEC_REGION_CTRL n) Fd.MEC_REGION_CTRL_enable = Fd.MEC_REGION_CTRL_enable.get v ∧
        (∀ a, regionLo s.regs n ≤ a → a < regionHi s.regs n → Memory.byte u.mem a = 0) ∧
        (∀ a, a < regionLo s.regs n ∨ regionHi s.regs n ≤ a → Memory.byte u.mem a = Memory.byte s.mem a) ∧
        (∀ w, regionLo s.regs n ≤ w → w < regionHi s.regs n → u.mec.poison.contains w = false) ∧
        RegsBut [Rg.MEC_REGION_CTRL n, Rg.MEC_STATUS] s u ∧ u = { s with regs := u.regs, mem := u.mem, mec := u.mec }) ∧
  (∀ (s : State) (n : Fin 64) (v : Word), Fd.MEC_REGION_CTRL_init.get v = 1 →
    s.getF (Rg.MEC_REGION_CTRL n) Fd.MEC_REGION_CTRL_busy = 1 → Answers (.regionInit n v) s fun u =>
      u.getF (Rg.MEC_REGION_CTRL n) Fd.MEC_REGION_CTRL_busy = 1 ∧ u = { s with regs := u.regs }) ∧
  (∀ (s : State) (n : Fin 64), Answers (.regionInitDone n) s fun u =>
    u.getF (Rg.MEC_REGION_CTRL n) Fd.MEC_REGION_CTRL_busy = 0 ∧ RegsBut [Rg.MEC_REGION_CTRL n, Rg.MEC_STATUS] s u ∧ u = { s with regs := u.regs }) ∧
  (∀ (s : State) (a : Nat),
    let w := wordOf s.regs a
    let m := s.mec.scrubPass s.regs s.now
    let seen := scrubAdd m.scrubbed w (w + wordSize s.regs a)
    let passes := s.rd Rg.MEC_SCRUB_PASSES + (if scrubLeft s.regs seen then 0 else 1)
    (m.scrubDue s.regs w = true → s.mec.merges = [] → inInit s.regs w = false →
      (Answers (.scrubVisit a .uncorrectable) s fun u => CountedBy Rg.MEC_UE_COUNT 1 s u ∧ u.mem = s.mem ∧
        u.mec.poison.contains w = true ∧ (u.rd (Rg.EVT_STATUS 3)).getLsbD 0 = true ∧ u.mec.scrubbed = seen ∧
        u.rd Rg.MEC_SCRUB_PASSES = passes ∧ OnlyReports { s with mec := u.mec } u) ∧
      (Answers (.scrubVisit a .corrected) s fun u => CountedBy Rg.MEC_CE_COUNT 1 s u ∧ u.mem = s.mem ∧ u.mec.poison = s.mec.poison ∧
        u.mec.scrubbed = seen ∧ u.rd Rg.MEC_SCRUB_PASSES = passes ∧ OnlyReports { s with mec := u.mec } u)) ∧
    (m.scrubDue s.regs w = false → ∀ e, exec (.scrubVisit a e) s = .next s)) ∧
  (∀ (s : State) (a : Nat), (∃ x ∈ s.mec.cands, x.word = wordOf s.regs a ∧ isCand x.times = true) →
    let w := wordOf s.regs a
    ((∃ r ∈ s.mec.repairs, r.2.2.1 = w) → exec (.repairRecordWrite a) s = .next s) ∧
    ((∀ r ∈ s.mec.repairs, r.2.2.1 ≠ w) → s.mec.repairs.length < 1024 → exec (.repairRecordWrite a) s = .next { s with mec := { s.mec with
      repairs := s.mec.repairs ++ [(if isDram w then 2 else 1, memUnit w, w, (s.rd Rg.WTR_OP_SECONDS).toNat)]
      pendingRows := if isDram w then s.mec.pendingRows else s.mec.pendingRows ++ [w] } }) ∧
    ((∀ r ∈ s.mec.repairs, r.2.2.1 ≠ w) → 1024 ≤ s.mec.repairs.length → Answers (.repairRecordWrite a) s fun u =>
      QuietBut [] s u ∧ OnlyReports s u)) ∧
  (∀ (s : State) (v : Word), Fd.MEC_INJECT_CTRL_arm.get v = 1 → Answers (.errorInjectArm v) s fun u =>
    u.getF Rg.MEC_INJECT_CTRL Fd.MEC_INJECT_CTRL_arm = (if s.boot.unlocked then 1 else 0) ∧
      u.getF Rg.MEC_INJECT_CTRL Fd.MEC_INJECT_CTRL_kind = Fd.MEC_INJECT_CTRL_kind.get v ∧ RegsBut [Rg.MEC_INJECT_CTRL] s u ∧ u = { s with regs := u.regs }) ∧
  (∀ (s : State) (v : Word), Fd.MEC_INJECT_CTRL_arm.get v = 0 → Answers (.errorInjectDisarm v) s fun u =>
    u.getF Rg.MEC_INJECT_CTRL Fd.MEC_INJECT_CTRL_arm = 0 ∧ RegsBut [Rg.MEC_INJECT_CTRL] s u ∧ u = { s with regs := u.regs })

/-- R274 to R277, R280: an enqueue or a dequeue is answered at once with its status where it cannot proceed, and else waits for its ring access, behind
those before it, but a dequeue before the enqueues of its queue that arrived in its cycle; the response moves the tail or the head, keeps the queue's state in the cache, and answers OK with the entry. An inspection latches
the 32 bytes of a queue's state. R273, R274, R279, R281, R282: QUEUE_CREATE makes a queue of the asked shape, empty and valid, as the most recent of
the cache, and answers its identifier; QUEUE_DELETE of a queue that is empty, broken or forced forgets it, answers what waited on it INVALID, and
halts the channels that it paced; else WRONG_STATE. -/
def Obligations.QueuesRunAndAreCreated : Prop :=
  ((∀ (s : State) (g q : Nat) (entry : List PByte), q < 2 ^ 20 → (∀ o ∈ s.qm.ops, o.q ≠ q) →
    let r := s.qx.load q
    let t := r.2
    let answers := fun (st : Nat) (u : State) => u.out.head? = some (.queueAnswer g q st []) ∧ u.qm.ops = s.qm.ops ∧ u.drum = s.drum ∧
      u.cores = s.cores ∧ u.dma = s.dma
    (∀ st, r.1.refusal g t = some st → Answers (.queueEnqueue g q entry) s fun u => answers st u ∧ u.mem = r.1.mm.mem) ∧
    (r.1.refusal g t = none → entry.length ≠ t.esz → Answers (.queueEnqueue g q entry) s fun u => answers 5 u ∧ u.mem = r.1.mm.mem) ∧
    (r.1.refusal g t = none → entry.length = t.esz → t.size ≤ t.fill → Answers (.queueEnqueue g q entry) s fun u =>
      answers 1 u ∧ u.mem = r.1.mm.mem ∧ CountedBy Rg.QMG_REJECTS 1 s u ∧
        u.getF Rg.QMG_LAST_REJECT Fd.QMG_LAST_REJECT_queue = q) ∧
    (r.1.refusal g t = none → entry.length = t.esz → t.fill < t.size → Answers (.queueEnqueue g q entry) s fun u =>
      u.qm.ops = s.qm.ops ++ [⟨g, q, true, true, entry, s.now⟩] ∧ u.qm.cache = r.1.qm.cache ∧
        u.mem = (r.1.mm.write qmAgent (t.slot t.tail) entry).mem ∧ u.mec = (r.1.mm.write qmAgent (t.slot t.tail) entry).mec ∧
        u.drum = s.drum ∧ u.cores = s.cores ∧ u.dma = s.dma) ∧
    (∀ st, r.1.refusal g t = some st → Answers (.queueDequeue g q) s fun u => answers st u ∧ u.mem = r.1.mm.mem) ∧
    (r.1.refusal g t = none → t.fill = 0 → Answers (.queueDequeue g q) s fun u => answers 2 u ∧ u.mem = r.1.mm.mem) ∧
    (r.1.refusal g t = none → t.fill ≠ 0 → Answers (.queueDequeue g q) s fun u =>
      u.qm.ops = s.qm.ops ++ [⟨g, q, false, true, [], s.now⟩] ∧ u.qm.cache = r.1.qm.cache ∧ u.mem = r.1.mm.mem ∧ u.mec = r.1.mm.mec ∧
        u.drum = s.drum ∧ u.cores = s.cores ∧ u.dma = s.dma)) ∧
  (∀ (s : State) (g q : Nat) (entry : List PByte), q < 2 ^ 20 → (∃ o ∈ s.qm.ops, o.q = q) →
    (Answers (.queueEnqueue g q entry) s fun u => (∀ o, s.qm.ops.find? (fun o => o.q == q) = some o → o.issued = true →
      u = { s with qm := { s.qm with ops := s.qm.ops ++ [⟨g, q, true, false, entry, s.now⟩] } })) ∧
    (Answers (.queueDequeue g q) s fun u => (∀ o, s.qm.ops.find? (fun o => o.q == q) = some o → o.issued = true →
      (o.enq = true → o.at_ ≠ s.now) → ∃ a b, s.qm.ops = a ++ b ∧
        u = { s with qm := { s.qm with ops := a ++ ⟨g, q, false, false, [], s.now⟩ :: b } } ∧
        (∀ x ∈ a, x.q = q → x.enq = true → x.at_ ≠ s.now) ∧ ∀ x ∈ b.head?, x.q = q ∧ x.enq = true ∧ x.at_ = s.now))) ∧
  (∀ (s : State) (g q k : Nat) (entry : List PByte) (e : QEntry), q < 2 ^ 20 → s.qm.ops = [⟨g, q, true, true, entry, k⟩] →
    s.qm.cache.find? (fun e => e.q == q) = some e → e.st.hostConsumer = false →
    (∀ x, x < e.st.esz → accessible s.regs qmAgent (e.st.slot e.st.tail + x) = true) → Answers (.enqueueWriteResponse q) s fun u =>
      u.out.head? = some (.queueAnswer g q 0 []) ∧ u.qm.ops = [] ∧
        u.qm.cache = ⟨q, { e.st with tail := e.st.tail + 1 }, true⟩ :: s.qm.cache.filter (fun x => x.q != q) ∧
        q ∉ u.qm.rejecting ∧ u.mem = (s.mm.flush (fun b => b.agent == qmAgent)).mem ∧
        (e.st.thresholdEvent = true → e.st.fill < e.st.threshold → e.st.threshold ≤ (e.st.tail + 1 - e.st.head).toNat →
          (u.rd (Rg.EVT_STATUS 5)).getLsbD 1 = true) ∧ u.drum = s.drum ∧ u.cores = s.cores ∧ u.dma = s.dma) ∧
  (∀ (s : State) (g q k : Nat) (e : QEntry), q < 2 ^ 20 → s.qm.ops = [⟨g, q, false, true, [], k⟩] →
    s.qm.cache.find? (fun e => e.q == q) = some e → e.st.hostProducer = false →
    (∀ x, x < e.st.esz → accessible s.regs qmAgent (e.st.slot e.st.head + x) = true) → Answers (.dequeueReadReturn q) s fun u =>
      u.out.head? = some (.queueAnswer g q 0 (s.mm.read qmAgent (e.st.slot e.st.head) e.st.esz .none).2) ∧ u.qm.ops = [] ∧
        u.qm.cache = ⟨q, { e.st with head := e.st.head + 1 }, true⟩ :: s.qm.cache.filter (fun x => x.q != q) ∧
        u.mem = (s.mm.read qmAgent (e.st.slot e.st.head) e.st.esz .none).1.mem ∧ u.drum = s.drum ∧ u.cores = s.cores ∧ u.dma = s.dma) ∧
  (∀ (s : State) (v : Word) (e : QEntry), s.qm.cache.find? (fun e => e.q == Fd.QMG_INSPECT_ID_queue.get v) = some e →
    Answers (.queueInspect v) s fun u =>
      (∀ i, i < 8 → u.rd (Rg.QMG_INSPECT_DATA i) = BitVec.ofNat 32 (le e.st.bytes (4 * i) 4)) ∧
        u.rd Rg.QMG_INSPECT_ID = BitVec.ofNat 32 (Fd.QMG_INSPECT_ID_queue.get v) ∧
        RegsBut (Rg.QMG_INSPECT_ID :: (List.range 8).map Rg.QMG_INSPECT_DATA) s u ∧ u = { s with regs := u.regs, qm := u.qm } ∧
        ∀ x, u.queue x = s.queue x)) ∧
  (∀ (s : State) (n : Fin 64) (c : Cmd), Asked s n c →
    let p := c.payload
    let id := s.newQueue p
    let q := le p 0 4
    (c.code = 0x0701 → ∀ off, firstBad? (s.queueChecks p) = some off → Answers (.queueCreate n) s (AnsweredOnly n c 0x09 off [] s)) ∧
    (c.code = 0x0701 → firstBad? (s.queueChecks p) = none →
      (le p 0 4 ≠ 0xFFFFFFFF ∨ (s.qm.created.filter (fun e => decide (4096 ≤ e.1))).length < 1044480) → Answers (.queueCreate n) s fun u =>
        Answered n c 0 0 (leBytes 4 id) u ∧ (le p 0 4 ≠ 0xFFFFFFFF → id = le p 0 4) ∧
          u.qm.created = s.qm.created.filter (fun e => e.1 != id) ++ [(id, if shares p then some (le p 20 2) else none)] ∧
          ∃ t, u.qm.cache.head? = some ⟨id, t, true⟩ ∧ u.queue id = t ∧ t.base = le p 4 8 ∧ t.sizeLog = le p 12 1 ∧ t.esize = le p 13 1 ∧
            t.head = 0 ∧ t.tail = 0 ∧ t.stuck = 0 ∧ t.threshold = le p 16 4 ∧ t.valid = true ∧ t.broken = false ∧
            t.hostProducer = bit (le p 14 1) 0 ∧ t.hostConsumer = bit (le p 14 1) 1 ∧ t.pinned = bit (le p 14 1) 2 ∧
            t.thresholdEvent = bit (le p 14 1) 3 ∧ u.qm.ops = s.qm.ops ∧ u.drum = s.drum ∧ u.ppt = s.ppt ∧ u.dma = s.dma) ∧
    (c.code = 0x0702 → (q < 4096 ∨ s.hasQueue q = false) → Answers (.queueDelete n) s (AnsweredOnly n c 0x09 0 [] s)) ∧
    (c.code = 0x0702 → 4096 ≤ q → s.hasQueue q = true →
      ((s.queueSeen q).fill ≠ 0 → bit (le p 4 4) 0 = false → (s.queueSeen q).broken = false →
        Answers (.queueDelete n) s (AnsweredOnly n c 0x0C 0 [] (s.withQx (s.qx.load q).1))) ∧
      ((s.queueSeen q).fill = 0 ∨ bit (le p 4 4) 0 = true ∨ (s.queueSeen q).broken = true → pacedBy s.regs q = [] → Answers (.queueDelete n) s fun u =>
        Answered n c 0 0 [] u ∧ (∀ e ∈ u.qm.created, e ∈ s.qm.created ∧ e.1 ≠ q) ∧ (∀ o ∈ u.qm.ops, o ∈ s.qm.ops ∧ o.q ≠ q) ∧
          (∀ o ∈ s.qm.ops, o.q = q → (.queueAnswer o.agent q 3 [] ∈ u.out)) ∧ (u.queue q).valid = false ∧
          u.drum = s.drum ∧ u.ppt = s.ppt ∧ u.dma = s.dma) ∧
      ((s.queueSeen q).fill = 0 ∨ bit (le p 4 4) 0 = true ∨ (s.queueSeen q).broken = true → Answers (.queueDelete n) s fun u =>
        Answered n c 0 0 [] u ∧ ∀ x ∈ pacedBy s.regs q, dFlagged (s.chan x.1 x.2).desc = false → chState u.regs x.1 x.2 = 5 ∧
          getR u.regs (Rg.DMA_CH_ERR x.1 x.2) ⟨0, 16⟩ = 6)))

/-- R261, R265, R267, R269 to R272: the start of a channel that is neither running nor paused sets its counts to 0 and lets it run from its descriptor
address; a paced one is checked, and waits or runs by the fill of its queue. A start of one at work, or on an engine without power, is ignored. An abort reports one outcome; its end
waits for the responses to held writes, and leaves the channel ABORTED, with what a prefix of its COPY moved; a channel crosses its marks; strict mode
ends from the SERVICES stage on, unless a built-in test runs or the engine has no power. -/
def Obligations.ChannelsStartPauseAndAbort : Prop :=
  (∀ (s : State) (e : Fin 22) (ch : Fin 32) (v : Word), hasChan e ch = true → Fd.DMA_CH_CTRL_start.get v = 1 →
    let st := chState s.regs e ch
    let pace := Fd.DMA_CH_CTRL_pace.get v
    let t := s.queue (chQueue s.regs e ch)
    let good := t.valid = true ∧ t.broken = false ∧ chLow s.regs e ch < chHigh s.regs e ch ∧ chHigh s.regs e ch ≤ t.size
    let cached := ∃ x ∈ s.qm.cache, x.q = chQueue s.regs e ch
    (st = 1 ∨ st = 2 → Answers (.dmaChannelStart e ch v) s fun u => chState u.regs e ch = st ∧ u = { s with regs := u.regs } ∧
      RegsBut [Rg.DMA_CH_CTRL e ch] s u) ∧
    (engPowered s.regs e = false → Answers (.dmaChannelStart e ch v) s fun u => chState u.regs e ch = st ∧ u = { s with regs := u.regs } ∧
      RegsBut [Rg.DMA_CH_CTRL e ch] s u) ∧
    (engPowered s.regs e = true → st ≠ 1 → st ≠ 2 → Answers (.dmaChannelStart e ch v) s fun u =>
      u.chan e ch = { desc := [], addr := s.rd64 (Rg.DMA_CH_DESC_LO e ch) % 2 ^ 48, ran := false, result := 0, bytes := 0, offset := 0
                      interrupt := false, aborting := false, flushing := false } ∧
        (∀ k, k ≠ chKey e ch → Map.get Chan.reset u.dma k = Map.get Chan.reset s.dma k) ∧
        u.getF (Rg.DMA_CH_STATUS e ch) Fd.DMA_CH_STATUS_desc_index = 0 ∧ u.rd (Rg.DMA_CH_BYTES e ch) = 0 ∧
        u.getF (Rg.DMA_CH_CTRL e ch) Fd.DMA_CH_CTRL_core = Fd.DMA_CH_CTRL_core.get v ∧
        u.getF (Rg.DMA_CH_CTRL e ch) Fd.DMA_CH_CTRL_pace = pace ∧ u.drum = s.drum ∧ u.cores = s.cores ∧ u.cpl = s.cpl ∧
        (pace ≠ 1 → pace ≠ 2 → chState u.regs e ch = 1 ∧ u.mem = s.mem) ∧
        (pace = 1 ∨ pace = 2 → cached → ¬ (t.valid = true ∧ t.broken = false) → chState u.regs e ch = 5 ∧
          u.getF (Rg.DMA_CH_ERR e ch) Fd.DMA_CH_ERR_code = 6) ∧
        (pace = 1 ∨ pace = 2 → cached → t.valid = true → t.broken = false → ¬ good → chState u.regs e ch = 5 ∧
          u.getF (Rg.DMA_CH_ERR e ch) Fd.DMA_CH_ERR_code = 7) ∧
        (pace = 1 → cached → good → t.esz = 64 → chState u.regs e ch = if chHigh s.regs e ch ≤ t.fill then 1 else 2) ∧
        (pace = 2 → cached → good → chState u.regs e ch = if chHigh s.regs e ch ≤ t.fill then 2 else 1))) ∧
  (∀ (s : State) (e : Fin 22) (ch : Fin 32) (v : Word), hasChan e ch = true → Fd.DMA_CH_ABORT_abort.get v = 1 →
    let st := chState s.regs e ch
    Answers (.dmaAbort e ch v) s fun u => RegsBut [Rg.DMA_CH_ABORT_RESULT e ch] s u ∧ u = { s with regs := u.regs, dma := u.dma } ∧
      u.getF (Rg.DMA_CH_ABORT_RESULT e ch) Fd.DMA_CH_ABORT_RESULT_result =
        (if st = 1 ∨ st = 2 then 1 else if st = 3 then 2 else if st = 4 then 3 else 0) ∧
      u.chan e ch = { s.chan e ch with aborting := (s.chan e ch).aborting || decide (st = 1 ∨ st = 2) } ∧
      (∀ k, k ≠ chKey e ch → Map.get Chan.reset u.dma k = Map.get Chan.reset s.dma k)) ∧
  (∀ (s : State) (e : Fin 22) (ch : Fin 32) (n : Nat), (∃ r ∈ s.span.reqs, r.agent = chUnit e ch ∧ r.held = true ∧ r.isWrite = true) →
    exec (.dmaAbortComplete e ch n) s = .next s) ∧
  (∀ (s : State) (e : Fin 22) (ch : Fin 32) (n : Nat), (s.chan e ch).aborting = true →
    (∀ r ∈ s.span.reqs, r.agent = chUnit e ch → r.held = false ∨ r.isWrite = false) →
    let x := chUnit e ch
    let ends := fun (v : State) (bytes : Word) (u : State) =>
      chState u.regs e ch = 4 ∧ u.getF (Rg.DMA_CH_ABORT_RESULT e ch) Fd.DMA_CH_ABORT_RESULT_result = 3 ∧
        u.rd (Rg.DMA_CH_BYTES e ch) = bytes ∧ u.chan e ch = { v.chan e ch with aborting := false, desc := [], ran := false } ∧
        u = { v with regs := u.regs, dma := u.dma } ∧
        RegsBut [Rg.DMA_CH_STATUS e ch, Rg.DMA_CH_ABORT_RESULT e ch, Rg.DMA_CH_BYTES e ch] v u
    ((s.chan e ch).ran = true → Answers (.dmaAbortComplete e ch n) s (ends (s.memSync x) ((s.memSync x).rd (Rg.DMA_CH_BYTES e ch)))) ∧
    ((s.chan e ch).ran = false → n = 0 ∨ chState s.regs e ch ≠ 1 →
      Answers (.dmaAbortComplete e ch n) s (ends ((s.chBytes e ch 0).memSync x) (((s.chBytes e ch 0).memSync x).rd (Rg.DMA_CH_BYTES e ch)))) ∧
    (∀ t d, (s.chan e ch).ran = false → n ≠ 0 → chState s.regs e ch = 1 → s.takeDesc e ch = .desc t d → badDesc d (t.queueSeen (dQueue d)) = false →
      dOp d = 0 → dTwo d = false → n ≤ dLen d → Local t (dSrc d) → Local t (dDst d) → t.decodeBad x (dSrc d) n = none →
      t.decodeBad x (dDst d) n = none → t.span.outstanding x = false → Answers (.dmaAbortComplete e ch n) s fun u =>
        let r := t.dmaRead x (dSrcW d) (dSrc d) n
        u.mem = ((r.1.dmaWrite x (dDstW d) (dDst d) r.2).memSync x).mem ∧ chState u.regs e ch = 4)) ∧
  (∀ (s : State) (e : Fin 22) (ch : Fin 32), let t := s.queue (chQueue s.regs e ch)
    let goes := (s.chan e ch).aborting = false ∧ engPowered s.regs e = true
    Answers (.pacingMarkCross e ch) s fun u => u = { s with regs := u.regs } ∧ RegsBut [Rg.DMA_CH_STATUS e ch] s u ∧
      (¬ goes → chState u.regs e ch = chState s.regs e ch) ∧
      (goes → chPace s.regs e ch = 1 → chState s.regs e ch = 2 → chState u.regs e ch = if chHigh s.regs e ch ≤ t.fill then 1 else 2) ∧
      (chPace s.regs e ch = 1 → chState s.regs e ch = 1 → chState u.regs e ch = 1) ∧
      (goes → chPace s.regs e ch = 2 → chState s.regs e ch = 2 → chState u.regs e ch = if t.fill ≤ chLow s.regs e ch then 1 else 2) ∧
      (goes → chPace s.regs e ch = 2 → chState s.regs e ch = 1 → (s.chan e ch).ran = false → (s.chan e ch).desc = [] →
        chState u.regs e ch = if chHigh s.regs e ch ≤ t.fill then 2 else 1)) ∧
  (∀ (s : State) (e : Fin 22) (v : Word), Fd.DMA_ENG_CTRL_leave_strict.get v = 1 → Answers (.dmaLeaveStrict e v) s fun u =>
    u = { s with regs := u.regs } ∧ RegsBut [Rg.DMA_ENG_STATUS e] s u ∧
      ((bootStage s.regs = 7 ∨ bootStage s.regs = 8) → (∀ k, k < 18 → role s.regs k ≠ 4) → engPowered s.regs e = true →
        u.getF (Rg.DMA_ENG_STATUS e) Fd.DMA_ENG_STATUS_strict = 0) ∧
      ((bootStage s.regs ≠ 7 ∧ bootStage s.regs ≠ 8) ∨ (∃ k, k < 18 ∧ role s.regs k = 4) ∨ engPowered s.regs e = false → u.rd (Rg.DMA_ENG_STATUS e) = s.rd (Rg.DMA_ENG_STATUS e)))

/-- R263, R264, R268, R269: each descriptor taken since the start has its index in DMA_CH_STATUS. A running channel takes its next descriptor and runs
it: COPY, FILL and COMPARE of one row, at the widths of R266, ENQUEUE and DEQUEUE of one entry; the outcome waits for the responses. A descriptor that breaks the format or,
in strict mode, the alignment halts the channel. R264, R265, R270: the end of a descriptor writes its status word where it is flagged; the channel
goes on with the next one, pauses at its low mark, or is DONE, with the interrupt that its chain asked for. -/
def Obligations.DescriptorsRunAndComplete : Prop :=
  (∀ (s t : State) (e : Fin 22) (ch : Fin 32) (d : List Byte), s.takeDesc e ch = .desc t d → (s.chan e ch).desc = [] →
    t.getF (Rg.DMA_CH_STATUS e ch) Fd.DMA_CH_STATUS_desc_index = (s.chan e ch).taken % 65536 ∧
      (t.chan e ch).taken = (s.chan e ch).taken + 1) ∧
  (∀ (s t : State) (e : Fin 22) (ch : Fin 32) (d : List Byte), hasChan e ch = true → s.chGoes e ch = true → (s.chan e ch).ran = false →
    s.takeDesc e ch = .desc t d → t.span.busy (chUnit e ch) = false →
    let x := chUnit e ch
    let n := dLen d
    let src := dSrc d
    let dst := dDst d
    let strict := t.flag (Rg.DMA_ENG_STATUS e) Fd.DMA_ENG_STATUS_strict
    let k := t.queueSeen (dQueue d)
    let sound := badDesc d k = false ∧ (strict = true → strictBad d (t.chan e ch).addr = none)
    let ran := fun (v : State) (result bytes offset written : Nat) (u : State) =>
      u = { v with regs := u.regs, dma := u.dma } ∧ RegsBut [Rg.DMA_CH_BYTES e ch] v u ∧
        u.rd (Rg.DMA_CH_BYTES e ch) = BitVec.ofNat 32 written ∧
        u.chan e ch = { v.chan e ch with
          desc := d
          ran := true
          result := result
          bytes := bytes
          offset := offset
          interrupt := (v.chan e ch).interrupt || bit (le d 1 1) 1 }
    let halts := fun (code addr : Nat) (u : State) => chState u.regs e ch = 5 ∧
      u.getF (Rg.DMA_CH_ERR e ch) Fd.DMA_CH_ERR_code = code ∧ (dFlagged d = false → u.mem = t.mem ∧
        u.rd64 (Rg.DMA_CH_ERR_ADDR_LO e ch) = addr % 2 ^ 48)
    (badDesc d k = true → (dOp d = 0 ∨ 4 < dOp d → Answers (.dmaCopy e ch) s (halts 4 (t.chan e ch).addr)) ∧
      (dOp d = 1 → Answers (.dmaFill e ch) s (halts 4 (t.chan e ch).addr)) ∧
      (dOp d = 2 → Answers (.dmaCompare e ch) s (halts 4 (t.chan e ch).addr)) ∧
      (dOp d = 3 → Answers (.dmaEnqueue e ch) s (halts 4 (t.chan e ch).addr)) ∧
      (dOp d = 4 → Answers (.dmaDequeue e ch) s (halts 4 (t.chan e ch).addr))) ∧
    (badDesc d k = false → strict = true → ∀ y, strictBad d (t.chan e ch).addr = some y →
      (dOp d = 0 → Answers (.dmaCopy e ch) s (halts y.1 y.2)) ∧ (dOp d = 1 → Answers (.dmaFill e ch) s (halts y.1 y.2)) ∧
      (dOp d = 2 → Answers (.dmaCompare e ch) s (halts y.1 y.2))) ∧
    (sound → dTwo d = false →
      (dOp d = 0 → Local t src → Local t dst → t.decodeBad x src n = none → t.decodeBad x dst n = none →
        let r := t.dmaRead x (dSrcW d) src n
        Answers (.dmaCopy e ch) s (ran (r.1.dmaWrite x (dDstW d) dst r.2) 0 n 0 n)) ∧
      (∀ w a y, placeOf t.regs a = .here y → isReg y = false → t.dmaRead x w a n = (t.busRead x a n, t.busBytes x a n) ∧
        ∀ bs, t.dmaWrite x w a bs = t.busWrite x a bs) ∧
      (dOp d = 0 → ∀ dev l a, placeOf t.regs src = .there dev l a → t.decodeBad x dst n = none → n ≤ 256 → Answers (.dmaCopy e ch) s fun u =>
        (u.chan e ch).desc = d ∧ (u.chan e ch).ran = false ∧ u.span.outstanding x = true ∧ u.mem = t.mem ∧
          (u.span.link l).txPkts = (t.span.link l).txPkts ++ [⟨1, false, 0, ownIndex t.regs, dev, t.span.nextTag, n, a, 0, []⟩]) ∧
      (dOp d = 1 → Local t dst → t.decodeBad x dst n = none → Answers (.dmaFill e ch) s
        (ran (t.dmaWrite x (dDstW d) dst (clean ((List.range n).map (fun i => nth 0 ((d.drop 48).take 8) (i % 8))))) 0 n 0 n)) ∧
      (dOp d = 2 → Local t src → Local t dst → t.decodeBad x src n = none → t.decodeBad x dst n = none →
        let l := t.dmaRead x (dSrcW d) src n
        let m := l.1.dmaRead x (dDstW d) dst n
        (compareAt l.2 m.2 = none → Answers (.dmaCompare e ch) s (ran m.1 0 n n 0)) ∧
        (∀ o r, compareAt l.2 m.2 = some (o, r) → Answers (.dmaCompare e ch) s (ran m.1 r (o + 1) o 0))) ∧
      (dOp d = 3 → k.valid = false ∨ k.broken = true → Answers (.dmaEnqueue e ch) s
        (ran (t.withQx (t.qx.enqueue x (dQueue d) []).1) (t.qx.enqueue x (dQueue d) []).2 0 0 0)) ∧
      (dOp d = 4 → k.valid = false ∨ k.broken = true → Answers (.dmaDequeue e ch) s
        (ran (t.withQx (t.qx.dequeue x (dQueue d)).1) (t.qx.dequeue x (dQueue d)).2.1 0 0 0)) ∧
      (dOp d = 3 → k.valid = true → k.broken = false → Local t src → n = k.esz → t.decodeBad x src n = none →
        let m := t.busRead x src n
        let r := m.qx.enqueue x (dQueue d) (t.busBytes x src n)
        (r.2 = 0 → Answers (.dmaEnqueue e ch) s (ran (m.withQx r.1) 0 n 0 n)) ∧
        (r.2 ≠ 0 → Answers (.dmaEnqueue e ch) s (ran (m.withQx r.1) r.2 0 0 0))) ∧
      (dOp d = 4 → k.valid = true → k.broken = false → n = k.esz →
        let r := t.qx.dequeue x (dQueue d)
        (r.2.1 = 0 → Local t dst → (t.withQx r.1).decodeBad x dst n = none →
          Answers (.dmaDequeue e ch) s (ran ((t.withQx r.1).busWrite x dst r.2.2) 0 n 0 n)) ∧
        (r.2.1 ≠ 0 → Answers (.dmaDequeue e ch) s (ran (t.withQx r.1) r.2.1 0 0 0))))) ∧
  (∀ (s : State) (e : Fin 22) (ch : Fin 32), s.chGoes e ch = true → (s.chan e ch).ran = true → s.span.busy (chUnit e ch) = false →
    Local s (dStat (s.chan e ch).desc) ∨ dFlagged (s.chan e ch).desc = false →
    let c := s.chan e ch
    let d := c.desc
    let x := chUnit e ch
    let t := (if dFlagged d then s.busWrite x (dStat d) (clean (statusWord 1 c.result 0 c.bytes c.offset)) else s).memSync x
    let ok := dFlagged d = false ∨ s.decodeBad x (dStat d) 16 = none
    (ok → chPace s.regs e ch ≠ 1 → dNext d ≠ 0 → Answers (.dmaDescriptorComplete e ch) s fun u =>
      u = { t with dma := u.dma } ∧ u.chan e ch = { c with desc := [], ran := false, addr := dNext d }) ∧
    (ok → chPace s.regs e ch ≠ 1 → dNext d = 0 → Answers (.dmaDescriptorComplete e ch) s fun u =>
      chState u.regs e ch = 3 ∧ (u.chan e ch).desc = [] ∧ (u.chan e ch).ran = false ∧ u.mem = t.mem ∧ u.mec = t.mec ∧
        (e.val < 18 → (t.chan e ch).interrupt = true →
          (u.rd (Rg.ZCR_INT_PENDING (8 * e + t.getF (Rg.DMA_CH_CTRL e ch) Fd.DMA_CH_CTRL_core))).getLsbD 2 = true) ∧
        (18 ≤ e.val → (t.chan e ch).interrupt = true → (u.rd (Rg.EVT_STATUS 6)).getLsbD (e - 18) = true) ∧
        ((t.chan e ch).interrupt = false → u = { t with regs := u.regs, dma := u.dma } ∧ RegsBut [Rg.DMA_CH_STATUS e ch] t u)) ∧
    (ok → chPace s.regs e ch = 1 →
      let stop := if c.flushing then (t.queue (chQueue s.regs e ch)).fill = 0 else (t.queue (chQueue s.regs e ch)).fill ≤ chLow s.regs e ch
      Answers (.dmaDescriptorComplete e ch) s fun u =>
        u = { t with regs := u.regs, dma := u.dma } ∧ RegsBut [Rg.DMA_CH_STATUS e ch] t u ∧ (u.chan e ch).desc = [] ∧
        (u.chan e ch).ran = false ∧ (stop → chState u.regs e ch = 2 ∧ (u.chan e ch).flushing = false) ∧
        (¬ stop → chState u.regs e ch = chState t.regs e ch ∧ (u.chan e ch).flushing = c.flushing)) ∧
    (dFlagged d = true → ∀ a, s.decodeBad x (dStat d) 16 = some a → Answers (.dmaDescriptorComplete e ch) s fun u =>
      chState u.regs e ch = 5 ∧ u.getF (Rg.DMA_CH_ERR e ch) Fd.DMA_CH_ERR_code = 3 ∧
        u.rd64 (Rg.DMA_CH_ERR_ADDR_LO e ch) = a % 2 ^ 48 ∧ u.mem = t.mem))

/-- R63, R307 to R310, R347, R348, R350, R351: DAC_CONFIG loads its channel, unless its source is not permitted; SPAN_LINK_CONFIG waits for its link to
train, or completes; EYE_SCAN starts a scan where none runs on a lane that holds lock; RELAY_ENUMERATE runs in relay mode while no forwarded command is
outstanding, and its end numbers the tree breadth first, by ascending link, at most 64 devices and 6 hops away, and tells each its number (the message
is the model's choice, log entry 137). -/
def Obligations.DacLinksScansAndRelays : Prop :=
  (∀ (s : State) (n : Fin 64) (c : Cmd), Asked s n c →
    let p := c.payload
    (c.code = 0x0504 →
      let ch := le p 0 4 % 4
      let src := le p 4 4 % 4
      let running := s.flag Rg.DRM_STATUS Fd.DRM_STATUS_running
      (src = 2 → ch = 0 → running = true → Answers (.dacConfig n) s (AnsweredOnly n c 0x0C 0 [] s)) ∧
      (src = 3 ∨ (src = 1 ∧ 2 ≤ ch) ∨ (src = 2 ∧ ¬ (ch = 0 ∧ running = true) ∧ le p 4 4 / 4 % 4 = 3) →
        Answers (.dacConfig n) s (AnsweredOnly n c 0x09 4 [] s)) ∧
      (src = 0 ∨ (src = 1 ∧ ch < 2) ∨ (src = 2 ∧ ¬ (ch = 0 ∧ running = true) ∧ le p 4 4 / 4 % 4 ≠ 3) →
        Answers (.dacConfig n) s fun u => ∃ e, AnsweredOnly n c 0 0 [] e u ∧
          let mine := [Rg.HDC_CH_CTRL ch, Rg.HDC_CH_CODE ch, Rg.HDC_CH_CLEAR ch, Rg.HDC_CH_STEP ch, Rg.HDC_CH_RATE ch, Rg.HDC_CH_AMP ch,
            Rg.HDC_CH_GAIN ch]
          e = { s with regs := e.regs, out := e.out, dac := e.dac, boot := e.boot, blf := e.blf } ∧
          (clearInForce s.regs = false ∨ inDeep s.regs = true → RegsBut mine s e ∧ e.out = s.out ∧ e.blf = s.blf) ∧
          (clearInForce s.regs = true → inDeep s.regs = false → RegsBut (mine ++ (List.range 4).map Rg.HDC_CH_OUT) s e ∧
            ∀ x, x < 4 → dacOut e.regs x = dacClear e.regs x) ∧
          dacSource e.regs ch = src ∧ dacKind e.regs ch = le p 4 4 / 4 % 4 ∧ dacCode e.regs ch = le p 8 4 % 2 ^ 20 ∧
          dacClear e.regs ch = le p 12 4 % 2 ^ 20 ∧ dacStep e.regs ch = le p 16 4 % 2 ^ 20 ∧
          e.getF (Rg.HDC_CH_RATE ch) Fd.HDC_CH_RATE_rate_div = le p 20 4 % 2 ^ 16 ∧ dacAmp e.regs ch = le p 24 4 % 2 ^ 20 ∧
          (e.rd (Rg.HDC_CH_GAIN ch)).toNat = le p 28 4 ∧
          (∀ x, x ≠ ch → Map.get DacGen.reset e.dac.gens x = Map.get DacGen.reset s.dac.gens x) ∧
          (src = 2 → dacSource s.regs ch ≠ 2 → Map.get DacGen.reset e.dac.gens ch =
            { up := true
              lfsr := 0x7FFFFF
              value := (le p 8 4 % 2 ^ 20 : Int) - (le p 24 4 % 2 ^ 20 : Nat)
              started := true }) ∧
          e.boot = (if bit (le p 0 4) 8 ∧ s.boot.running.header ≠ [] then s.boot.setRunning { s.boot.running with
            header := splice s.boot.running.header (16 + 4 * ch) (leBytes 4 (le p 12 4 % 2 ^ 20)) } else s.boot))) ∧
    (c.code = 0x0601 → le p 0 1 ≤ 3 →
      let l := le p 0 1
      let fl := le p 1 1
      let load := bit fl 3
      let was := s.getF (Rg.SPN_LINK_CTRL l) Fd.SPN_LINK_CTRL_enable
      let idle := linkState s.regs l = 3 ∧ (s.span.link l).training = false
      (load = true → le p 6 1 ≤ 1 → le p 6 1 ≠ b2n (relayMode s.regs) → linksOff s.regs = false →
        Answers (.spanLinkConfig n) s (AnsweredOnly n c 0x0C 0 [] s)) ∧
      (load = false ∨ (le p 6 1 ≤ 1 ∧ (le p 6 1 = b2n (relayMode s.regs) ∨ linksOff s.regs = true)) →
        Answers (.spanLinkConfig n) s fun u =>
          mbxState u.regs n = 3 ∧ u.host.bytes (rspArea n) 32 = responseBytes c 1 0 [] ∧
          QuietBut ([Rg.PCE_MBX_STATE n, Rg.SPN_TIMEOUT, Rg.SPN_CTRL, Rg.SPN_LINK_CTRL l, Rg.SPN_LINK_STATUS l, Rg.PWR_DOM 24, Rg.PWR_SUPERSEDED] ++
            (List.range 8).map (fun d => Rg.SPN_ROUTE d)) s u ∧ OnlyReports { s with span := u.span, pwr := u.pwr, drum := { s.drum with replan := u.drum.replan } } u ∧
          (devState s.regs ≤ 1 → fl % 2 = 1 → domState s.regs 24 = 0 → domFlight s.regs 24 = 7 → 24 ∉ s.pwr.exiting → 24 ∈ u.pwr.exiting) ∧
          u.getF (Rg.SPN_LINK_CTRL l) Fd.SPN_LINK_CTRL_enable = fl % 2 ∧
          u.getF (Rg.SPN_LINK_CTRL l) Fd.SPN_LINK_CTRL_err_limit = le p 2 1 % (Fd.SPN_LINK_CTRL_err_limit.max + 1) ∧
          (le p 4 2 ≠ 0 → u.getF Rg.SPN_TIMEOUT Fd.SPN_TIMEOUT_timeout_us = le p 4 2) ∧
          (le p 4 2 = 0 → u.rd Rg.SPN_TIMEOUT = s.rd Rg.SPN_TIMEOUT) ∧
          relayMode u.regs = (if load then le p 6 1 == 1 else relayMode s.regs) ∧
          (∀ d, d < 8 → u.rd (Rg.SPN_ROUTE d) = if bit fl 2 then BitVec.ofNat 32 (le p (8 + d) 1 % 64) else s.rd (Rg.SPN_ROUTE d)) ∧
          (∀ x, x ≠ l → u.span.link x = s.span.link x) ∧
          (fl % 2 = 0 → linkState u.regs l = 3 ∧ u.span.link l = Link.reset ∧
            ∀ k ∈ u.host.cmds, k.phase = .pending → k.dev = 0 → k.code = 0x0601 → le k.payload 0 1 ≠ l) ∧
          (fl % 2 = 1 → was = 0 ∨ bit fl 1 = true ∨ idle → linkState u.regs l = 0 ∧ (u.span.link l).training = true ∧
            (u.span.link l).txPkts = (s.span.link l).txPkts ∧ Waits c p u) ∧
          (fl % 2 = 1 → was ≠ 0 → bit fl 1 = false → ¬ idle → u.rd (Rg.SPN_LINK_STATUS l) = s.rd (Rg.SPN_LINK_STATUS l) ∧
            u.span.link l = s.span.link l ∧
            ((s.span.link l).training = true → Waits c p u) ∧
            ((s.span.link l).training = false → ∀ k ∈ u.host.cmds, k.phase = .pending → k.dev = 0 → k.code = 0x0601 → k.tag ≠ c.tag)))) ∧
    (c.code = 0x0602 →
      (relayMode s.regs = false ∨ s.host.self.index ≠ 0 ∨ (∃ k ∈ s.host.cmds, k.dev ≠ 0) → Answers (.relayEnumerate n) s (AnsweredOnly n c 0x0C 0 [] s)) ∧
      (relayMode s.regs = true → s.host.self.index = 0 → (∀ k ∈ s.host.cmds, k.dev = 0) →
        Answers (.relayEnumerate n) s fun u => AnsweredOnly n c 1 0 [] s u ∧ Waits c p u)) ∧
    (c.code = 0x0603 → le p 0 1 ≤ 3 → le p 1 1 ≤ 4 → 16 ≤ le p 2 1 → le p 2 1 ≤ 31 → le p 8 8 % 64 = 0 →
      let l := le p 0 1
      let locked := s.flag (Rg.SPN_LANE_STATUS l (le p 1 1)) Fd.SPN_LANE_STATUS_locked
      (s.getF (Rg.SPN_SCAN_STATUS l) Fd.SPN_SCAN_STATUS_state = 1 ∨ locked = false →
        Answers (.eyeScan n) s (AnsweredOnly n c 0x0C 0 [] s)) ∧
      (s.getF (Rg.SPN_SCAN_STATUS l) Fd.SPN_SCAN_STATUS_state ≠ 1 → locked = true → Answers (.eyeScan n) s fun u => Answered n c 1 0 [] u ∧ Waits c p u ∧
        RegsBut [Rg.PCE_MBX_STATE n, Rg.SPN_SCAN_ADDR_LO l, Rg.SPN_SCAN_ADDR_LO l + 4, Rg.SPN_SCAN_CTRL l, Rg.SPN_SCAN_STATUS l] s u ∧
        u = { s with regs := u.regs, out := u.out, host := u.host } ∧ u.rd64 (Rg.SPN_SCAN_ADDR_LO l) = le p 8 8 ∧
        u.rd (Rg.SPN_SCAN_STATUS l) = 1 ∧ u.getF (Rg.SPN_SCAN_CTRL l) Fd.SPN_SCAN_CTRL_lane = le p 1 1 ∧
        u.getF (Rg.SPN_SCAN_CTRL l) Fd.SPN_SCAN_CTRL_dwell_log2 = le p 2 1))) ∧
  (∀ (s : State) (devs : List RelayDev), (∃ k ∈ s.host.cmds, k.phase = .pending ∧ k.code = 0x0602 ∧ k.dev = 0) →
    let ns := relayTree devs
    Answers (.relayEnumerateDone devs) s fun u => QuietBut [] s u ∧ OnlyReports { s with span := u.span } u ∧
      u.host.relay = ns.map RelayNode.dev ∧ u.span = { s.span with links := u.span.links } ∧
      (∀ l, (u.span.link l).txPkts = (s.span.link l).txPkts ++ (((List.range 64).zip ns).tail.filter (fun e => e.2.path.headD 0 == l)).map
        (fun e => numberPacket e.1 e.2)) ∧
      ns[0]? = some ⟨0, ⟨0, 0⟩, []⟩ ∧ ns.length ≤ 64 ∧
      (∀ i n, ns[i]? = some n → n.path.length ≤ 6 ∧ (0 < i → ∃ m, n.dev.parent < i ∧ ns[n.dev.parent]? = some m ∧ n.path = m.path ++ [n.dev.link] ∧
        devs[n.found - 1]? = some ⟨m.found, n.dev.link⟩)) ∧
      (∀ i j n m, i < j → ns[i]? = some n → ns[j]? = some m → n.path.length ≤ m.path.length ∧
        (0 < i → n.dev.parent ≤ m.dev.parent ∧ (n.dev.parent = m.dev.parent → n.dev.link < m.dev.link))) ∧
      (∀ n ∈ ns, n.path.length < 6 → ns.length < 64 → ∀ l j, l < 4 → devs.findIdx? (· == ⟨n.found, l⟩) = some j →
        ∃ k ∈ ns, k.found = j + 1 ∧ k.path = n.path ++ [l]) ∧
      ∀ k ∈ u.host.cmds, k.phase = .pending → k.dev = 0 → k.code ≠ 0x0602)

/-- R354 to R357, R361 to R366, R370 to R372, R384, R388, R397, R399: POWER_STATE_SET completes where its target stands, is refused where it may not
start, and waits for its transition else; POWER_STATUS answers the power registers; LANTERN_CONFIG writes Lantern's words; EVENT_MASK replaces one
mask; SNAPSHOT_REQUEST waits for a snapshot; RECORDER_READ answers records. -/
def Obligations.PowerLanternEventsAndRecords : Prop :=
  ∀ (s : State) (n : Fin 64) (c : Cmd), Asked s n c →
    let p := c.payload
    let d := le p 2 2
    let tgt := le p 1 1
    let loads := fun (e : State) => e = { s with regs := e.regs } ∧
      RegsBut [Rg.PWR_KEEP_LO, Rg.PWR_KEEP_LO + 4, Rg.PWR_DEEP_CFG, Rg.PWR_TILE_KEEP (d - 2)] s e ∧
      (bit (le p 4 4) 0 = true → e.rd64 Rg.PWR_KEEP_LO = le p 8 8 / 512 * 512) ∧
      (bit (le p 4 4) 1 = true → e.getF Rg.PWR_DEEP_CFG Fd.PWR_DEEP_CFG_dram_keep = 1) ∧
      (bit (le p 4 4) 2 = true → le p 0 1 = 1 → 2 ≤ d → d < 20 →
        e.getF (Rg.PWR_TILE_KEEP (d - 2)) Fd.PWR_TILE_KEEP_banks = le p 16 2)
    let refused := fun (u : State) (dom : Nat) (mine : Cmd → Bool) (x : Refuser) => mbxState u.regs n = 3 ∧
      u.host.bytes (rspArea n) 32 = responseBytes c 1 0 [] ∧ CountedBy Rg.PWR_REFUSALS 1 s u ∧
      u.rd Rg.PWR_LAST_REFUSER = BitVec.ofNat 32 (x.1 % 65536 * 65536 + dom % 256 * 256 + x.2 % 256) ∧ u.pwr = s.pwr ∧
      ∀ k ∈ u.host.cmds, k.phase = .pending → mine k = false
    (c.code = 0x0801 → firstBad? (powerChecks p) = none → le p 0 1 = 1 →
      (domFlight s.regs d = 7 → domState s.regs d = tgt → Answers (.powerStateSet n) s fun u => ∃ e, loads e ∧ AnsweredOnly n c 0 0 [] e u) ∧
      (domFlight s.regs d = 7 → domState s.regs d = 4 → tgt ≠ 4 → s.pwr.exiting.contains d = false → refuserOf s.regs s.cpl d tgt = none →
        Answers (.powerStateSet n) s fun u => ∃ e, loads e ∧ Answered n c 1 0 [] u ∧ Waits c p u ∧ domFlight u.regs d = tgt ∧
          RegsBut [Rg.PCE_MBX_STATE n, Rg.PWR_DOM d] e u ∧ u.pwr = { s.pwr with quiesce := d :: s.pwr.quiesce } ∧
          u = { e with regs := u.regs, out := u.out, host := u.host, pwr := u.pwr }) ∧
      (domFlight s.regs d = 7 → domState s.regs d = 4 → tgt ≠ 4 → s.pwr.exiting.contains d = false → ∀ x, refuserOf s.regs s.cpl d tgt = some x →
        Answers (.powerStateSet n) s fun u => refused u d (powerCmd d tgt) x ∧ domFlight u.regs d = 7)) ∧
    (c.code = 0x0801 → firstBad? (powerChecks p) = none → le p 0 1 = 0 → devFlight s.regs = 7 →
      (devState s.regs = tgt → Answers (.powerStateSet n) s fun u => ∃ e, loads e ∧ AnsweredOnly n c 0 0 [] e u) ∧
      (devState s.regs ≠ tgt → deviceAllowed s.regs tgt = false → Answers (.powerStateSet n) s (AnsweredOnly n c 0x0C 0 [] s)) ∧
      (devState s.regs = 1 → tgt = 0 → Answers (.powerStateSet n) s fun u => ∃ e, loads e ∧ Answered n c 1 0 [] u ∧ Waits c p u ∧
        devFlight u.regs = 0 ∧ RegsBut [Rg.PCE_MBX_STATE n, Rg.PWR_DEVICE] e u ∧ u.pwr = { s.pwr with deviceExiting := true }) ∧
      (devState s.regs = 0 → tgt = 1 → deviceAllowed s.regs 1 = true → deviceRefuser s.regs s.cpl 1 = none →
        Answers (.powerStateSet n) s fun u => ∃ e, loads e ∧ Answered n c 1 0 [] u ∧ Waits c p u ∧ devFlight u.regs = 1 ∧
          RegsBut [Rg.PCE_MBX_STATE n, Rg.PWR_DEVICE] e u ∧ u.pwr = { s.pwr with deviceQuiesce := true, latched := false }) ∧
      (devState s.regs = 0 → tgt = 1 → deviceAllowed s.regs 1 = true → ∀ x, deviceRefuser s.regs s.cpl 1 = some x →
        Answers (.powerStateSet n) s fun u => refused u 0 (deviceCmd 1) x ∧ devFlight u.regs = 7) ∧
      (devState s.regs = 1 → tgt = 2 → Answers (.powerStateSet n) s fun u => mbxState u.regs n = 3 ∧ Waits c p u ∧
        u.pwr = { s.pwr with downWait := true } ∧ devFlight u.regs = 7)) ∧
    (c.code = 0x0802 → Answers (.powerStatus n) s fun u => ∃ q, AnsweredOnly n c 0 0 q s u ∧ q.length = 448 ∧
      (∀ i, i < 16 → le q (4 * i) 4 = (s.view (Rg.PWR_DEVICE + 4 * i)).toNat) ∧
      (∀ i, i < 96 → le q (64 + 4 * i) 4 = (s.view (Rg.PWR_DOM i)).toNat)) ∧
    (c.code = 0x0901 → p.length = 56 ∨ p.length = 312 → firstBad? (lanternChecks p) = none → Answers (.lanternConfig n) s fun u =>
      mbxState u.regs n = 3 ∧
        u.rd Rg.LNT_CTRL = BitVec.ofNat 32 (le p 0 4) &&& 0xFF0F ∧ u.rd Rg.LNT_RATE = BitVec.ofNat 32 (le p 8 4) ∧
        u.rd Rg.LNT_SYNC = BitVec.ofNat 32 (le p 12 4) ∧ u.getF Rg.LNT_MOD Fd.LNT_MOD_osr = le p 4 4 / 4 % 4 ∧
        u.getF Rg.LNT_PKT Fd.LNT_PKT_window_sym = le p 16 4 / 1024 % 2048 ∧ u.getF Rg.LNT_AGC Fd.LNT_AGC_target = le p 24 4 / 65536 % 256 ∧
        u.getF Rg.LNT_QUEUE_TX Fd.LNT_QUEUE_TX_queue = le p 44 4 % 2 ^ 20 ∧ u.getF Rg.LNT_QUEUE_RX Fd.LNT_QUEUE_RX_queue = le p 48 4 % 2 ^ 20 ∧
        u.getF Rg.LNT_QUEUE_BUF Fd.LNT_QUEUE_BUF_queue = le p 52 4 % 2 ^ 20 ∧
        (∀ i, i < 64 → u.rd (Rg.LNT_TABLE i) = if p.length = 312 then BitVec.ofNat 32 (le p (56 + 4 * i) 4) else s.rd (Rg.LNT_TABLE i)) ∧
        (∀ a, winOf a ≠ 14 → a ≠ Rg.PCE_MBX_STATE n → u.rd a = s.rd a) ∧
        u = { s with regs := u.regs, out := u.out, host := u.host, lnt := u.lnt }) ∧
    (c.code = 0x0A01 → le p 0 1 ≤ 31 → le p 1 1 ≤ 2 →
      let g := le p 0 1
      let v := BitVec.ofNat 32 (le p 4 4)
      let a := if le p 1 1 = 0 then Rg.EVT_ENABLE g else if le p 1 1 = 1 then Rg.EVT_RING g else Rg.EVT_RECORD g
      Answers (.eventMask n) s fun u => ∃ q, Answered n c 0 0 q u ∧ u.rd a = v ∧ RegsBut [Rg.PCE_MBX_STATE n, a] s u ∧
        u = { s with regs := u.regs, out := u.out, host := u.host } ∧ q.length = 12 ∧ le q 0 4 = (u.rd (Rg.EVT_ENABLE g)).toNat ∧
        le q 4 4 = (u.rd (Rg.EVT_RING g)).toNat ∧ le q 8 4 = (u.rd (Rg.EVT_RECORD g) ||| daggers g).toNat) ∧
    (c.code = 0x0A02 → Answers (.snapshotRequest n) s fun u => Answered n c 1 0 [] u ∧ Waits c p u ∧
      RegsBut [Rg.PCE_MBX_STATE n, Rg.EVT_SNAP_CTRL] s u ∧ u = { s with regs := u.regs, out := u.out, host := u.host } ∧
      u.getF Rg.EVT_SNAP_CTRL Fd.EVT_SNAP_CTRL_period_slots = le p 0 2 ∧ u.getF Rg.EVT_SNAP_CTRL Fd.EVT_SNAP_CTRL_request = 1) ∧
    (c.code = 0x0A03 → 1 ≤ le p 4 2 → le p 4 2 ≤ 63 → le p 6 1 ≤ 1 → Answers (.recorderRead n) s fun u => ∃ q, AnsweredOnly n c 0 0 q s u ∧
      (∃ k, k ≤ le p 4 2 ∧ q.length = 16 + 64 * k ∧ le q 4 2 = k) ∧ le q 8 4 = (s.rd Rg.WTR_OLDEST_SEQ).toNat ∧
      le q 12 4 = (s.rd Rg.WTR_NEXT_SEQ).toNat)

/-- R73, R255, R410, R411, R413: a lockstep disagreement, a machine check of the active pair and a silent heartbeat hand control to the standby pair,
which ends every pending command, undoes what those not in the journal had begun, and ends every lease; during probation the old image returns. The
new pair then accepts doorbells; the old one recovers to standby, or is retired. R324, R325, R327: BAR2 reaches the device's address space from the
base of its window: a read returns the bytes, or Unsupported Request; a write passes EP on as poison and reports it. A reset of the PCIe domain clears
its registers, mailboxes and ring, and loses no final status; the endpoint is ready again when Psiwyn is. -/
def Obligations.PairsTakeOverAndTheEndpointResets : Prop :=
  (let yields := fun (s u : State) =>
    let old := activePair s.regs
    let v := s.undoAll false
    (s.boot.pair (1 - old) = .standby →
      activePair u.regs = 1 - old ∧ u.getF Rg.PCE_MBX_GLOBAL Fd.PCE_MBX_GLOBAL_takeover = 1 ∧
      u.getF Rg.PCE_MBX_GLOBAL Fd.PCE_MBX_GLOBAL_ready = 0 ∧ u.boot.pair (1 - old) = .active ∧ u.boot.pair old = .recovering ∧
      u.boot.failures = (old, s.now) :: s.boot.failures ∧ u.host.levels = 0 ∧ u.host.lease = none ∧
      (∀ k ∈ u.host.cmds, k.phase ≠ .pending) ∧
      (∃ e, u.host.deferred = s.host.deferred ++ [e] ∧ e.kind = 4 ∧ e.p0 = BitVec.ofNat 32 (1 - old)) ∧
      QuietBut (Rg.PCE_MBX_GLOBAL :: (List.range 64).map (fun n => Rg.PCE_MBX_STATE n)) v u ∧ OnlyReports { v with boot := u.boot } u) ∧
    (s.boot.pair (1 - old) ≠ .standby → OnlyReports { s with boot := u.boot } u ∧ u.boot.pair old = .retired ∧ u.getF Rg.PCE_MBX_GLOBAL Fd.PCE_MBX_GLOBAL_ready = 0 ∧
      activePair u.regs = old ∧ QuietBut [Rg.PCE_MBX_GLOBAL] s u ∧ u.host.cmds = s.host.cmds) ∧
    (s.boot.probation = true → s.boot.pair (1 - old) = .standby → u.boot.runsB = !s.boot.runsB ∧ u.boot.probation = false ∧ u.boot.activate = none ∧
      u.boot.other = ⟨[], .empty⟩ ∧ u.boot.running = s.boot.other) ∧
    (s.boot.probation = false ∨ s.boot.pair (1 - old) ≠ .standby → u.boot.runsB = s.boot.runsB ∧ u.boot.slotA = s.boot.slotA ∧ u.boot.slotB = s.boot.slotB) ∧
    u.boot.secCounter = s.boot.secCounter
  (∀ (s : State) (c : Cmd), s.host.cmds = [c] → c.phase = .pending → s.host.journal = [] →
    (c.code = 0x0105 → s.flag Rg.DRM_STATUS Fd.DRM_STATUS_running = true → (s.undoAll false).getF Rg.DRM_CTRL Fd.DRM_CTRL_enable = 1) ∧
    (c.code = 0x0303 → le c.payload 0 1 < 18 → role s.regs (le c.payload 0 1) = rRepair → c.undo = [] →
      role (s.undoAll false).regs (le c.payload 0 1) = rRetired) ∧
    (c.code = 0x0B01 → (s.undoAll false).boot.staging = none) ∧ (c.code = 0x0B02 → (s.undoAll false).boot.activate = none)) ∧
  (∀ s : State, Answers .controlLockstepDisagree s (yields s)) ∧
  (∀ s : State, Answers .heartbeatTimeout s (yields s)) ∧
  (∀ (s : State) (p : Fin 2) (a : Nat),
    (p.val = activePair s.regs → Answers (.controlMachineCheck p a) s (yields s)) ∧
    (p.val ≠ activePair s.regs → Answers (.controlMachineCheck p a) s fun u =>
      u.boot = (if s.boot.pair p = .retired then s.boot else s.boot.setPair p .recovering) ∧ QuietBut [] s u ∧
        OnlyReports { s with boot := u.boot } u)) ∧
  (∀ s : State, s.flag Rg.PCE_MBX_GLOBAL Fd.PCE_MBX_GLOBAL_takeover = true → Answers .takeoverComplete s fun u =>
    u.getF Rg.PCE_MBX_GLOBAL Fd.PCE_MBX_GLOBAL_takeover = 0 ∧ u.getF Rg.PCE_MBX_GLOBAL Fd.PCE_MBX_GLOBAL_ready = 1 ∧
      activePair u.regs = activePair s.regs ∧ u.host.deferred = [] ∧ u.host.journal = [] ∧ QuietBut [Rg.PCE_MBX_GLOBAL] s u ∧
      (s.host.ring.enabled = false → s.host.backlog.length + s.host.deferred.length ≤ 4096 →
        u.host.backlog = s.host.backlog ++ s.host.deferred) ∧ OnlyReports s u) ∧
  (∀ s : State, s.flag Rg.PCE_MBX_GLOBAL Fd.PCE_MBX_GLOBAL_takeover = false → exec .takeoverComplete s = .next s) ∧
  (∀ (s : State) (p : Fin 2) (pass : Bool),
    let often := 2 ≤ (s.boot.failures.filter (fun e => e.1 == p.val && decide (s.now ≤ e.2 + dayUnits))).length
    (s.boot.pair p ≠ .recovering → exec (.pairRecovery p pass) s = .next s) ∧
    (s.boot.pair p = .recovering → pass = true → ¬ often → exec (.pairRecovery p pass) s =
      .next { s with boot := s.boot.setPair p .standby }) ∧
    (s.boot.pair p = .recovering → pass = false ∨ often → Answers (.pairRecovery p pass) s fun u =>
      u.boot = s.boot.setPair p .retired ∧ QuietBut [] s u ∧ OnlyReports { s with boot := u.boot } u))) ∧
  ((∀ (s : State) (off len : Nat), off + len ≤ 0x1000000000 →
    let a := s.getF Rg.PCE_BAR2_BASE Fd.PCE_BAR2_BASE_window * 0x1000000000 + off
    let m := s.memSync hostAgent
    Local s a → Answers (.bar2Read off len) s fun u => u = { m.busRead hostAgent a len with out :=
      (if (m.decodeBad hostAgent a len).isSome then [.unsupported] else completions a (m.busBytes hostAgent a len)) ++
        (m.busRead hostAgent a len).out }) ∧
  (∀ (s : State) (off : Nat) (data : List Byte) (ep : Bool), off + data.length ≤ 0x1000000000 →
    let a := s.getF Rg.PCE_BAR2_BASE Fd.PCE_BAR2_BASE_window * 0x1000000000 + off
    let t := s.busWrite hostAgent a (if ep then poisoned data else clean data)
    let bad := (s.decodeBad hostAgent a data.length).isSome
    Answers (.bar2Write off data ep) s fun u =>
      u = { t with
        out := if bad then .advisory false :: t.out else if ep then .advisory true :: t.out else t.out
        host := { t.host with aer := u.host.aer } } ∧
      (bad = true → u.host.aer = [nth false t.host.aer 0, true]) ∧ (bad = false → ep = true → u.host.aer = [true, nth false t.host.aer 1]) ∧
      (bad = false → ep = false → u.host.aer = t.host.aer)) ∧
  (∀ (s : State), Answers .pcieDomainReset s fun u =>
    (∀ a, winOf a = 10 → a ≠ Rg.PCE_MBX_GLOBAL → a ≠ Rg.PCE_NRING_LOST → isReg a = true → u.rd a = regReset a) ∧
    (∀ a, winOf a ≠ 10 → ¬ reportReg a → u.rd a = s.rd a) ∧ activePair u.regs = activePair s.regs ∧
    u.getF Rg.PCE_MBX_GLOBAL Fd.PCE_MBX_GLOBAL_takeover = s.getF Rg.PCE_MBX_GLOBAL Fd.PCE_MBX_GLOBAL_takeover ∧
    u.getF Rg.PCE_MBX_GLOBAL Fd.PCE_MBX_GLOBAL_ready = 0 ∧
    u.host.bar0 = [] ∧ u.host.aer = [false, false] ∧ u.host.vectors = [] ∧ u.host.levels = 0 ∧ u.host.lease = none ∧ u.host.ring.enabled = false ∧
    u.host.relay = s.host.relay ∧ u.host.journal = s.host.journal ∧ (∃ l, u.host.backlog = s.host.backlog ++ l) ∧
    (∀ k ∈ s.host.cmds, k.phase = .done → k.mbx.isSome = true →
      ∃ e ∈ u.host.backlog, e.kind = 2 ∧ e.dev = k.dev ∧ e.tag = k.tag ∧ e.status = k.status) ∧
    (∀ k ∈ s.host.cmds, k.phase = .pending → k ∈ u.host.cmds) ∧
    (∀ k ∈ s.host.cmds, k.phase = .posted ∨ k.phase = .busy → { k with lost := true } ∈ u.host.cmds) ∧ OnlyReports s u) ∧
  (∀ s : State,
    (bootStage s.regs = 8 ∨ bootStage s.regs = 15 → s.getF Rg.PCE_MBX_GLOBAL Fd.PCE_MBX_GLOBAL_takeover = 0 → Answers .pcieEndpointReady s fun u =>
      u.getF Rg.PCE_MBX_GLOBAL Fd.PCE_MBX_GLOBAL_ready = 1 ∧ RegsBut [Rg.PCE_MBX_GLOBAL, Rg.PCE_LINK_STATUS] s u ∧
      u.getF Rg.PCE_LINK_STATUS Fd.PCE_LINK_STATUS_width ∈ [1, 2, 4, 8] ∧ u.getF Rg.PCE_LINK_STATUS Fd.PCE_LINK_STATUS_speed ∈ [1, 2, 3, 4, 5] ∧
      u = { s with regs := u.regs, free := u.free }) ∧
    ((bootStage s.regs ≠ 8 ∧ bootStage s.regs ≠ 15) ∨ s.getF Rg.PCE_MBX_GLOBAL Fd.PCE_MBX_GLOBAL_takeover ≠ 0 → exec .pcieEndpointReady s = .next s)))

/-- R91, R311, R313, R314, R317, R321, R382: a frame on a port that is up counts its failed checks and goes no further; one that passes is taken by
what it carries: a PRB block of an announced symbol goes into the ring once, the C-plane announces blocks, a delay measurement is answered or begun by its
action type (log entry 214), a management frame goes to its queue, and the rest is counted. A port's link change sets its status, with the lock of the lanes that it has, and
reports; a lane without lock squelches its clock output. R91, R124, R126, R318 to R320: an egress item in flight sends its symbol once, and its item
is started: for a carrier with one flow on a port that is up, a late symbol outside SSB frames goes out muted, and a symbol that fits one packet
carries the blocks of the ring, unless one of them is poisoned: then the frame is dropped and counted. -/
def Obligations.FramesAndSymbolsCrossThePorts : Prop :=
  ((∀ (s : State) (port : Fin 33) (f : RxFrame),
    (portUp s.regs port = false → exec (.fronthaulRxFrame port f) s = .next s) ∧
    (portUp s.regs port = true → f.fcsOk = false ∨ f.fecOk = false → Answers (.fronthaulRxFrame port f) s fun u =>
      (CountedBy (Rg.ETH_CNT_FCS port) (b2n (!f.fcsOk)) s u) ∧ (CountedBy (Rg.ETH_CNT_FEC_UNCORR port) (b2n (!f.fecOk)) s u) ∧
        NoneRaised s u ∧ QuietBut [Rg.ETH_CNT_FCS port, Rg.ETH_CNT_FEC_UNCORR port] s u ∧ OnlyReports s u) ∧
    (portUp s.regs port = true → f.fcsOk = true → f.fecOk = true →
      let counts := fun (a : Nat) (u : State) => CountedBy a 1 s u ∧ NoneRaised s u ∧ QuietBut [a] s u ∧ OnlyReports s u
      match f.kind with
      | .other => Answers (.fronthaulRxFrame port f) s (counts (Rg.ETH_CNT_UNKNOWN port))
      | .delay body => if port = 32 then Answers (.fronthaulRxFrame port f) s (counts (Rg.ETH_CNT_UNKNOWN port))
          else exec (.fronthaulRxFrame port f) s = .next { s with out :=
            (if le body 1 1 = 0 ∨ le body 1 1 = 5 then [.delayResponse port body] else if le body 1 1 = 3 then [.delayRequest port false body]
              else if le body 1 1 = 4 then [.delayRequest port true body] else []) ++ s.out }
      | .mgmt body => let q := Map.get 0 s.eth.mgmtRx port
          if q = 0 then exec (.fronthaulRxFrame port f) s = .next s
          else exec (.fronthaulRxFrame port f) s = .next (s.enqueue (0xA000 + port) q (clean (fit 0 (s.queue q).esz body)))
      | .uplane eaxc ref blocks =>
        match s.eth.flows.find? (fun e => e.port == port.val && e.eaxc == eaxc && e.dir == 0) with
        | none => Answers (.fronthaulRxFrame port f) s (counts (Rg.ETH_CNT_UNKNOWN port))
        | some e => if port = 32 then Answers (.fronthaulRxFrame port f) s (counts (Rg.ETH_CNT_UNKNOWN port))
          else
            let p := s.plan e.carrier (s.ppt.carPayload e.carrier)
            let item := ((s.drum.items.find? (fun i => i.work == .ingress && i.carrier == e.carrier && i.issue == refShift ref p.r)).map
              (·.id)).getD 0
            if refAfter ref s.nowRef then Answers (.fronthaulRxFrame port f) s (counts (Rg.ETH_CNT_EARLY port))
            else if refFrom s.nowRef (refShift ref (p.ingress 0).edge) then
              Answers (.fronthaulRxFrame port f) s (counts (Rg.ETH_CNT_LATE port))
            else ∀ b, blocks = [b] → match s.eth.blocks.find? (isBlk item e.stream b.prb) with
              | none => Answers (.fronthaulRxFrame port f) s (counts (Rg.ETH_CNT_UNANNOUNCED port))
              | some k => if k.written then Answers (.fronthaulRxFrame port f) s (counts (Rg.ETH_CNT_DUPLICATE port))
                else
                  let n := prbBytes e.mantissa
                  let payload := s.ppt.carPayload e.carrier
                  let a := blockAddr (s.ringAddr false e.carrier) p.d (streamsOf payload s.eth.flows e.carrier false) (carPrb payload) n
                    (s.carrierSym p ref) e.stream b.prb
                  let t := s.busWrite (0xA000 + port) a (clean (fit 0 n b.bytes))
                  exec (.fronthaulRxFrame port f) s = .next { t with eth := { t.eth with blocks := t.eth.blocks.map (fun x =>
                    if isBlk item e.stream b.prb x then { x with written := true, erased := false } else x) } }
      | .cplane eaxc ref start count => if port = 32 then Answers (.fronthaulRxFrame port f) s (counts (Rg.ETH_CNT_UNKNOWN port))
        else match s.eth.flows.find? (fun e => e.port == port.val && e.eaxc == eaxc) with
        | none => Answers (.fronthaulRxFrame port f) s (counts (Rg.ETH_CNT_UNKNOWN port))
        | some e =>
          let p := s.plan e.carrier (s.ppt.carPayload e.carrier)
          match s.drum.items.find? (fun i => i.work == .ingress && i.carrier == e.carrier && i.issue == refShift ref p.r) with
          | none => exec (.fronthaulRxFrame port f) s = .next s
          | some i => Answers (.fronthaulRxFrame port f) s fun u => u = { s with eth := { s.eth with blocks := u.eth.blocks } } ∧
            (∃ new, u.eth.blocks = s.eth.blocks ++ new ∧ ∀ x ∈ new, x.item = i.id ∧ x.stream = e.stream ∧ x.written = false ∧
              x.erased = false) ∧
            ∀ b, (u.eth.blocks.any (isBlk i.id e.stream b) = true ↔
              s.eth.blocks.any (isBlk i.id e.stream b) = true ∨ (start ≤ b ∧ b < start + count)))) ∧
  (∀ (s : State) (o : Fin 2),
    (s.getF Rg.ETH_SYNCE_CTRL (synceEnable o) = 1 → Answers (.synceSquelch o) s fun u =>
      u.getF Rg.ETH_SYNCE_CTRL (synceSquelched o) = 1 ∧ Raised (291 + o) s u ∧ QuietBut [Rg.ETH_SYNCE_CTRL] s u ∧ OnlyReports s u ∧
        .pin (if o.val = 0 then .synceOut0 else .synceOut1) false ∈ u.out) ∧
    (s.getF Rg.ETH_SYNCE_CTRL (synceEnable o) ≠ 1 → exec (.synceSquelch o) s = .next s)) ∧
  (∀ (s : State) (port : Fin 33) (up : Bool) (lock : BitVec 4) (an : Bool),
    let a := Rg.ETH_PORT_STATUS port
    let was := s.getF a Fd.ETH_PORT_STATUS_link_up
    let en := s.getF (Rg.ETH_PORT_CTRL port) Fd.ETH_PORT_CTRL_enable
    (up = true → en ≠ 1 → exec (.portLinkChange port up lock an) s = .next s) ∧
    (up = false ∨ en = 1 → Answers (.portLinkChange port up lock an) s fun u =>
      let fec := port.val < 32 ∨ s.getF (Rg.ETH_PORT_CTRL port) Fd.ETH_PORT_CTRL_fec = 1
      u.getF a Fd.ETH_PORT_STATUS_link_up = b2n up ∧
        u.getF a Fd.ETH_PORT_STATUS_an_done = b2n (an && decide (port.val < 32) && portMode s.regs port != 1) ∧
        u.getF a Fd.ETH_PORT_STATUS_fec_lock = b2n (up && decide fec) ∧
        u.getF a Fd.ETH_PORT_STATUS_lane_lock = lock.toNat % 2 ^ portLanes s.regs port ∧ QuietBut [a, Rg.ETH_SYNCE_CTRL] s u ∧ OnlyReports s u ∧
        (was = b2n up → u = { s with regs := u.regs, out := synceChanges s.regs u.regs ++ s.out } ∧ NoneRaised s u) ∧
        (∀ o, synceOut u.regs o ≠ synceOut s.regs o → o < 2 → synceOut u.regs o ∈ u.out) ∧
        (was ≠ b2n up → Raised (portEvent port) s u)))) ∧
  (∀ (s : State) (item : Nat),
    (∀ i, s.drum.item item = some i → i.work = .egress → i.phase = .released →
      let x := s.sending i
      let slot := i.slot
      let ref := refShift slot ((i.symbol : Int) * x.plan.r)
      let fs := s.eth.flows.filter (fun f => f.carrier == i.carrier && f.dir == 1 && portUp s.regs f.port)
      (Answers (.uplaneTx item) s fun u => ((u.drum.item item).map (·.phase)) = some .started ∧ u.pending = s.pending ∧
        (∀ k ∈ s.sendsFirst i, ∀ y ∈ u.drum.items, y.id = k.id → y.phase = .started) ∧
        (s.sendsFirst i = [] → fs = [] → x.ssb = false → u.out = s.out ∧ u.regs = s.regs ∧ u.mem = s.mem) ∧
        ∀ f, s.sendsFirst i = [] → fs = [f] → x.ssb = false →
          let n := prbBytes f.mantissa
          let prbs := List.range (carPrb x.payload)
          let per := max 1 ((s.getF (Rg.ETH_PORT_CTRL f.port) Fd.ETH_PORT_CTRL_mtu - 18) / n)
          let r := s.readBlocks x f prbs
          (x.late = true → u.mem = s.mem ∧ u.regs = s.regs ∧
            u.out = (packets per (carPrb x.payload) prbs).reverse.map (fun l =>
              .uplane f.port f.tag f.eaxc f.beam ref ((l.head?).getD 0) (List.replicate (l.length * n) 0)) ++ s.out ∧
            ∀ g ∈ u.ppt.grants, ∃ o ∈ s.ppt.grants, g = { o with mutedSyms := g.mutedSyms }) ∧
          (x.late = false → prbs ≠ [] → prbs.length ≤ per →
            (anyP r.2 = false → u.out = .uplane f.port f.tag f.eaxc f.beam ref 0 (vals r.2) :: r.1.out ∧ u.mem = r.1.mem ∧ u.regs = r.1.regs) ∧
            (anyP r.2 = true → CountedBy (Rg.ETH_CNT_TX_POISON f.port) 1 r.1 u ∧ u.mem = r.1.mem)))) ∧
    ((∀ i, s.drum.item item = some i → i.work ≠ .egress ∨ i.phase ≠ .released) → exec (.uplaneTx item) s = .next s))

/-- R351, R400, R401, R403, R406, R407, R409, R420, R421: what each reset leaves. Power-up starts every register at its reset value; a device reset
keeps flash, fuses, its causes and the always-on domain, drops SLEEP_OUT in Deep, and stops a transmission of Lantern; RESET_N's release samples the
straps; a watchdog's expiry latches a DAC clear and resets the device; a kick only starts the period anew. -/
def Obligations.ResetsLeaveWhatTheyShould : Prop :=
  let flash := fun (s u : State) => u.wtr.flash = s.wtr.flash ∧ u.boot.slotA = s.boot.slotA ∧ u.boot.slotB = s.boot.slotB ∧
    u.boot.secCounter = s.boot.secCounter ∧ u.boot.uniqueId = s.boot.uniqueId ∧ u.mec.repairs = s.mec.repairs
  let fresh := fun (u : State) => u.mem = [] ∧ u.cores = [] ∧ u.cpl = [] ∧ u.dma = [] ∧ u.drum = State.reset.drum ∧
    u.ppt = State.reset.ppt ∧ u.host = State.reset.host ∧ u.eth = State.reset.eth ∧ u.lnt = State.reset.lnt
  let device := fun (causes : Nat) (s u : State) => flash s u ∧ fresh u ∧ u.pending = s.pending ∧
    (u.rd Rg.BOOT_RESET_CAUSE).toNat = (s.rd Rg.BOOT_RESET_CAUSE).toNat ||| causes ∧
    (∀ a, isReg a = true → winOf a ∈ [0, 1, 2, 3, 4, 6, 7, 9, 10, 14, 15] → u.rd a = regReset a) ∧
    (∀ a ∈ [Rg.BLF_KEEPER_RATIO_LO, Rg.BLF_KEEPER_RATIO_HI, Rg.BLF_KEEPER_STATUS], u.rd a = regReset a) ∧
    (u.rd (Rg.MEC_REGION_LIMIT 1)).toNat = (if s.boot.straps.getLsbD 3 then 0x3FFFFF else 0x1FFFFF) ∧
    u.rd Rg.WTR_POWER_CYCLES = s.rd Rg.WTR_POWER_CYCLES ∧ u.rd Rg.BLF_KEEPER_LO = s.rd Rg.BLF_KEEPER_LO ∧
    u.rd Rg.BOOT_WDT_CTRL = s.rd Rg.BOOT_WDT_CTRL ∧ u.rd Rg.PWR_WAKE_CFG = s.rd Rg.PWR_WAKE_CFG
  (∀ s : State, Answers .powerOn s fun u => flash s u ∧ fresh u ∧ u.boot.inReset = true ∧ u.boot.powerUp = true ∧
    ∀ a, u.rd a = if a = Rg.BOOT_RESET_CAUSE then 1 else regReset a) ∧
  (∀ s : State, Answers .aonSupplyLoss s fun u => flash s u ∧ fresh u ∧ u.boot.inReset = true ∧
    ∀ a, u.rd a = if a = Rg.BOOT_RESET_CAUSE then 0 else regReset a) ∧
  (∀ s : State, Answers .resetAssert s fun u => device 2 s u ∧ u.boot.inReset = true ∧ u.boot.tripHold = s.boot.tripHold ∧
    (s.dac.latched = false → u.out = (if inDeep s.regs && s.pwr.wake == 0 then [.pin .sleepOut false] else []) ++
      (if s.lnt.tx.isSome then [.pin .lntTr false, .pin .lntPaEn false] else []) ++ s.out)) ∧
  (∀ s : State, Answers .deviceWatchdogExpiry s fun u => device 4 s u ∧ u.boot.inReset = s.boot.inReset ∧
    (u.rd Rg.HDC_STATUS).getLsbD 1 = true) ∧
  (∀ (s : State) (v : Word), exec (.watchdogKick v) s = .next s) ∧
  (∀ (s : State) (straps : BitVec 6),
    (s.boot.inReset = false → exec (.resetRelease straps) s = .next s) ∧
    (s.boot.inReset = true → Answers (.resetRelease straps) s fun u =>
      u = { s with regs := u.regs, boot := { s.boot with inReset := false, straps := straps } } ∧
      u.rd Rg.BOOT_STRAPS = straps.setWidth 32 ∧ u.getF Rg.SPN_CTRL Fd.SPN_CTRL_index = straps.toNat % 8 ∧
      u.getF Rg.MEC_DDR_CONFIG Fd.MEC_DDR_CONFIG_density = b2n (straps.getLsbD 3) ∧
      (∀ ch, ch < 4 → (u.rd (Rg.HDC_CH_CODE ch)).toNat = (if straps.getLsbD 4 then 0x80000 else 0) ∧
        (u.rd (Rg.HDC_CH_CLEAR ch)).toNat = (if straps.getLsbD 4 then 0x80000 else 0) ∧
        (clearInForce s.regs = false → (u.rd (Rg.HDC_CH_OUT ch)).toNat = if straps.getLsbD 4 then 0x80000 else 0)) ∧
      (u.rd (Rg.MEC_REGION_LIMIT 1)).toNat = (if straps.getLsbD 3 then 0x3FFFFF else 0x1FFFFF) ∧
      RegsBut ([Rg.BOOT_STRAPS, Rg.MEC_DDR_CONFIG, Rg.MEC_REGION_LIMIT 1, Rg.SPN_CTRL, Rg.HDC_STATUS] ++
        (List.range 4).flatMap (fun ch => [Rg.HDC_CH_CODE ch, Rg.HDC_CH_CLEAR ch, Rg.HDC_CH_OUT ch])) s u))

/-- R17, R402 to R405: start-up runs ROM, IMAGE, CONTROL, DDR, MEMORY, CLUSTERS and SERVICES in order and then accepts doorbells: each stage that does not
fail completes and leads to the next; a stage that fails leaves the FAILED stage with its cause; the first sixteen clusters that pass are active, with
their images, in Doze, and fewer than eight fail the start-up. -/
def Obligations.StartUpRunsItsStages : Prop :=
  ∀ (s : State) (r : StageEnd), s.boot.inReset = false → s.boot.tripHold = false →
    let k := bootStage s.regs
    let fails := fun (t : State) (stage cause : Nat) (u : State) => bootStage u.regs = 15 ∧
      (u.rd Rg.BOOT_STATE).toNat = cause % 65536 * 65536 + stage * 256 + 15 ∧ u.getF Rg.PCE_MBX_GLOBAL Fd.PCE_MBX_GLOBAL_ready = 1 ∧
      QuietBut [Rg.BOOT_STATE, Rg.PCE_MBX_GLOBAL] t u ∧ OnlyReports t u
    let n := ((List.range 18).filter (fun c => r.passed.getLsbD c)).length
    (r.failed = none → 2 ≤ k → k ≤ 7 → (k = 6 → s.boot.short = true ∨ 8 ≤ n) →
      ∃ t, exec (.bootStageEnd r) s = .next t ∧ bootStage t.regs = k + 1) ∧
    (r.failed = none → k = 1 → s.getF Rg.BOOT_STRAPS Fd.BOOT_STRAPS_boot_src = 0 →
      ∃ t, exec (.bootStageEnd r) s = .next t ∧ bootStage t.regs = if s.boot.short then 4 else 2) ∧
    (∀ cause, r.failed = some cause → 1 ≤ k → k ≤ 7 → Answers (.bootStageEnd r) s (fails s k cause)) ∧
    (r.failed = none → k = 1 →
      let t := { s with boot := { s.boot with unlocked := false } }
      (s.getF Rg.BOOT_STRAPS Fd.BOOT_STRAPS_boot_src = 1 → Answers (.bootStageEnd r) s (fails t 1 0)) ∧
      (s.getF Rg.BOOT_STRAPS Fd.BOOT_STRAPS_boot_src = 0 → Answers (.bootStageEnd r) s fun u =>
        bootStage u.regs = (if s.boot.short then 4 else 2) ∧ u.boot = t.boot ∧ RegsBut [Rg.BOOT_STATE] s u ∧
          (s.boot.short = false → ∀ a, sramBase + 0x4800000 ≤ a → a < sramBase + 0x5000000 → Memory.byte u.mem a = 0) ∧
          ∀ a, a < sramBase + 0x4800000 ∨ sramBase + 0x5000000 ≤ a → Memory.byte u.mem a = Memory.byte s.mem a)) ∧
    (r.failed = none → k = 2 → Answers (.bootStageEnd r) s fun u => bootStage u.regs = 3 ∧ u.mem = s.mem ∧
      u.boot.slotA = s.boot.slotA ∧ u.boot.slotB = s.boot.slotB ∧
      u.boot.runsB = ((s.boot.slotB.state == .active && s.boot.slotA.state != .active) != r.fallback.isSome) ∧
      ∀ ch, ch < 4 → u.boot.running.header ≠ [] → le u.boot.running.header (16 + 4 * ch) 4 ≠ 0xFFFFFFFF →
        dacClear u.regs ch = le u.boot.running.header (16 + 4 * ch) 4 % 2 ^ 20 ∧ dacOut u.regs ch = dacClear u.regs ch) ∧
    (r.failed = none → k = 3 → Answers (.bootStageEnd r) s fun u => bootStage u.regs = 4 ∧ activePair u.regs = b2n r.pair0Bad ∧
      u.boot.pair0 = (if r.pair0Bad then .retired else .active) ∧ u.boot.pair1 = (if r.pair0Bad then .active else .standby) ∧
      (s.boot.running.header ≠ [] →
        u.getF Rg.BOOT_WDT_CTRL Fd.BOOT_WDT_CTRL_timeout_ms = le s.boot.running.header 32 4 % (Fd.BOOT_WDT_CTRL_timeout_ms.max + 1)) ∧
      RegsBut [Rg.BOOT_STATE, Rg.PCE_MBX_GLOBAL, Rg.BOOT_WDT_CTRL] s u ∧ u = { s with regs := u.regs, boot := u.boot }) ∧
    (r.failed = none → k = 4 → Answers (.bootStageEnd r) s fun u => bootStage u.regs = 5 ∧ u.mem = s.mem ∧
      QuietBut [Rg.BOOT_STATE, Rg.MEC_DDR_CONFIG] s u ∧ u.getF Rg.MEC_DDR_CONFIG Fd.MEC_DDR_CONFIG_trained = 1 ∧
      (s.boot.short = false → u.mec = { s.mec with pendingRows := [] }) ∧ (s.boot.short = true → u.mec = s.mec)) ∧
    (r.failed = none → k = 5 → Answers (.bootStageEnd r) s fun u => bootStage u.regs = 6 ∧ u = { s with regs := u.regs } ∧
      (s.boot.short = true → RegsBut [Rg.BOOT_STATE] s u) ∧
      (s.boot.short = false → RegsBut (Rg.BOOT_STATE :: (List.range 3).flatMap (fun i =>
          [Rg.MEC_REGION_BASE i, Rg.MEC_REGION_LIMIT i, Rg.MEC_REGION_CTRL i])) s u ∧
        ∀ i, i < 3 → u.flag (Rg.MEC_REGION_CTRL i) Fd.MEC_REGION_CTRL_code = (i == 0))) ∧
    (r.failed = none → k = 6 → s.boot.short = true → Answers (.bootStageEnd r) s fun u =>
      bootStage u.regs = 7 ∧ (∀ c, c < 18 → role u.regs c = role s.regs c ∧ (role s.regs c = 0 → clusterState u.regs c = 2)) ∧
        u.boot = s.boot ∧ u.drum = s.drum ∧ u.ppt = s.ppt ∧ u.qm = s.qm) ∧
    (r.failed = none → k = 6 → s.boot.short = false → Answers (.bootStageEnd r) s fun u =>
      bootStage u.regs = (if n < 8 then 15 else 7) ∧ (∀ c, c < 18 → role u.regs c =
        if r.passed.getLsbD c = false then 3 else if ((List.range c).filter (fun d => r.passed.getLsbD d)).length < 16 then 0 else 1) ∧
      (∀ c, c < 18 → clusterState u.regs c = if role u.regs c = 0 then 2 else 0) ∧
      u.getF Rg.PPT_STATUS Fd.PPT_STATUS_failures = min 7 (18 - n) ∧ u.boot = s.boot ∧ u.drum = s.drum ∧ u.wtr.flash = s.wtr.flash) ∧
    (r.failed = none → k = 7 → Answers (.bootStageEnd r) s fun u => bootStage u.regs = 8 ∧
      u.getF Rg.PCE_MBX_GLOBAL Fd.PCE_MBX_GLOBAL_ready = 1 ∧ u.boot.short = false ∧ u.boot.powerUp = false ∧ u.drum = s.drum ∧
      u.cores = s.cores ∧ u.wtr.flash = s.wtr.flash) ∧
    (r.failed = none → k = 0 ∨ 8 ≤ k → exec (.bootStageEnd r) s = .next s)

/-- R407, R408: FUNC_RESET refuses a unit that it does not know, ignores one that is in reset, and else resets it until FUNC_RESET_DONE, with hold_off
leaving it Off after that. R162, R426, R427: a valid sensor at 110 °C or above raises the warning; one at 118 °C, or more than sixteen that fail,
trips: THERM_TRIP_N falls, a DAC clear is latched and the device is held in reset until every valid sensor is below 100 °C. -/
def Obligations.FunctionsResetAndThermalTrips : Prop :=
  ((∀ (s : State) (v : Word),
    let x := Fd.BOOT_FUNC_RESET_unit.get v
    let hold := Fd.BOOT_FUNC_RESET_hold_off.get v == 1
    (resettable x = false → Answers (.funcReset v) s fun u => u = { s with regs := u.regs } ∧ RegsBut [Rg.BOOT_FUNC_STATUS] s u ∧
      u.getF Rg.BOOT_FUNC_STATUS Fd.BOOT_FUNC_STATUS_refused = 1 ∧ u.getF Rg.BOOT_FUNC_STATUS Fd.BOOT_FUNC_STATUS_unit = x) ∧
    (resettable x = true → s.boot.resetUnits.contains x = true → exec (.funcReset v) s = .next s) ∧
    (resettable x = true → s.boot.resetUnits.contains x = false → Answers (.funcReset v) s fun u =>
      u.boot = { s.boot with
        resetUnits := x :: s.boot.resetUnits
        holdOff := if hold then x :: s.boot.holdOff else s.boot.holdOff } ∧
      u.getF Rg.BOOT_FUNC_STATUS Fd.BOOT_FUNC_STATUS_busy = 1 ∧ u.getF Rg.BOOT_FUNC_STATUS Fd.BOOT_FUNC_STATUS_unit = x ∧
      (x = 1 → u.drum.cur = none ∧ u.drum.queue = [] ∧ u.drum.last = s.drum.last ∧ u.rd Rg.DRM_CTRL = s.rd Rg.DRM_CTRL ∧
        u.getF Rg.DRM_STATUS Fd.DRM_STATUS_running = 0 ∧
        u.drum.faultAt = (if s.flag Rg.DRM_STATUS Fd.DRM_STATUS_running then some s.rt else s.drum.faultAt) ∧ u.mem = s.mem ∧
        u.ppt = s.ppt) ∧
      (x = 2 → u.ppt = { s.ppt with reserves := [], rebuilding := true } ∧ u.getF Rg.PPT_STATUS Fd.PPT_STATUS_shed_level = 0 ∧
        QuietBut [Rg.PPT_STATUS, Rg.BOOT_FUNC_STATUS] s u ∧ u.drum = s.drum ∧ u.mem = s.mem) ∧
      (x = 5 → u.lnt = State.reset.lnt ∧ u.rd Rg.LNT_STATUS = 0 ∧ QuietBut [Rg.LNT_STATUS, Rg.LNT_SPI_CMD, Rg.BOOT_FUNC_STATUS] s u ∧ u.mem = s.mem ∧
        (s.lnt.tx ≠ none → Out.pin .lntPaEn false ∈ u.out)) ∧
      (∀ e, 18 ≤ e → e < 22 → x = 0x5000 + 32 * e → u.mem = s.mem ∧
        (∀ ch, ch < 32 → u.chan e ch = Chan.reset ∧ u.rd (Rg.DMA_CH_STATUS e ch) = regReset (Rg.DMA_CH_STATUS e ch)) ∧
        ∀ f ch, f < 22 → ch < 32 → f ≠ e → u.chan f ch = s.chan f ch) ∧
      (∀ p, p < 33 → x = 0xA000 + p → u.rd (Rg.ETH_PORT_STATUS p) = 0 ∧ u.eth.flows = s.eth.flows ∧ u.mem = s.mem))) ∧
  (∀ s : State, Answers .funcResetDone s fun u => u.boot = { s.boot with resetUnits := [], holdOff := [] } ∧
    u.getF Rg.BOOT_FUNC_STATUS Fd.BOOT_FUNC_STATUS_busy = 0 ∧
    (s.boot.holdOff = [] → u.mem = s.mem ∧ u.cores = s.cores ∧ RegsBut [Rg.BOOT_FUNC_STATUS] s u) ∧
    u.ppt = { s.ppt with rebuilding := s.ppt.rebuilding && !s.boot.resetUnits.contains 2 } ∧ (s.boot.holdOff = [] → u.drum = { s.drum with faultAt := u.drum.faultAt }) ∧
    u.drum.faultAt = if s.boot.resetUnits.contains 1 ∧ s.drum.faultAt.isSome then some s.rt else s.drum.faultAt)) ∧
  ((∀ (s : State) (r : Sensor), Answers (.thermalWarning r) s fun u => Map.get ⟨0, 0, true⟩ u.thm.sensors r.id = r ∧
    (∀ k, k ≠ r.id.val → Map.get ⟨0, 0, true⟩ u.thm.sensors k = Map.get ⟨0, 0, true⟩ s.thm.sensors k) ∧ u.thm.tripped = s.thm.tripped ∧
    (r.valid = true → 110 * 256 ≤ r.temp → Raised 64 s u) ∧ (r.valid = false ∨ r.temp < 110 * 256 → u = { s with thm := u.thm }) ∧
    QuietBut [] s u ∧ OnlyReports { s with thm := u.thm } u) ∧
  (∀ (s : State) (rs : List Sensor),
    let t := s.thm.read rs
    let hot := (∃ e ∈ t.sensors, e.2.valid = true ∧ 118 * 256 ≤ e.2.temp) ∨ 16 < (t.sensors.filter (fun e => !e.2.valid)).length
    (¬ hot → exec (.thermalTrip rs) s = .next { s with thm := t }) ∧
    (hot → Answers (.thermalTrip rs) s fun u => u.thm = { t with tripped := true } ∧ u.boot.tripHold = true ∧
      u.out.head? = some (.pin .thermTripN false) ∧ (u.rd Rg.HDC_STATUS).getLsbD 2 = true ∧
      (u.rd Rg.BOOT_RESET_CAUSE).toNat = (s.rd Rg.BOOT_RESET_CAUSE).toNat ||| 8 ∧ u.mem = [] ∧ u.cores = [] ∧
      u.wtr.flash = s.wtr.flash)) ∧
  (∀ (s : State) (rs : List Sensor),
    let t := s.thm.read rs
    let cool := (∀ e ∈ t.sensors, e.2.valid = true → e.2.temp < 100 * 256) ∧ (t.sensors.filter (fun e => !e.2.valid)).length ≤ 16
    (cool → s.boot.tripHold = true → exec (.thermalTripRelease rs) s = .next { s with
      thm := { t with tripped := false }
      boot := { s.boot with tripHold := false }
      out := .pin .thermTripN true :: s.out }) ∧
    (¬ cool ∨ s.boot.tripHold = false → exec (.thermalTripRelease rs) s = .next { s with thm := t })))

/-- R131, R134, R136 to R139, R141: the matrix engine computes its next command: the tag keeps the result and leaves the engine's queue. A bad field gives
its status and offset and no other effect; else one row is written for each output row of each group, at its pitch, in the cycles of R141. A single
product that fits needs no shift and is saturated. Where an operand lies in another device and is not there yet, the command stays at the head of the
queue and its requests are out (R129; the model's choice of steps, log entry 171). -/
def Obligations.MatrixCommandsAreComputed : Prop :=
  ∀ (s : State) (c : Fin 18) (t : Nat), (s.cup c).next 0 = some t → (s.cup c).busy 0 = false →
    let p := s.cup c
    let d := (p.tag t).desc
    let op := le d 0 1
    let m := le d 68 1
    let k := le d 69 1
    let n := le d 70 1
    let len := le d 76 2
    let batch := le d 74 2
    let start := if t ∈ p.overlap then 0 else 40
    let agent := 0x3000 + 3 * c.val
    let v := s.engineFresh c 0 t
    let got := (v.matrix agent (p.overlap.contains t) d).1.span
    let here := got.outstanding agent = false
    let ends := fun (u : State) (r : EngResult) => (u.cup c).tag t = { p.tag t with reading := false, result := some r } ∧
      (u.cup c).q0 = p.q0.filter (· != t) ∧ (∀ x, x ≠ t → (u.cup c).tag x = p.tag x) ∧ (u.cup c).q1 = p.q1 ∧ (u.cup c).q2 = p.q2 ∧
      (∀ x, x ≠ c.val → u.cup x = s.cup x) ∧ u.cores = s.cores ∧ u.drum = s.drum ∧ u.ppt = s.ppt ∧ u.pending = s.pending
    let bad := fun (i : Instr) => ∀ x, firstCheck (matrixChecks d) = some x → here → Answers i s fun u => ∃ r, ends u r ∧ r.status = x.2.2 ∧
      le r.detail 0 2 = x.2.1 % 65536 ∧ r.writes = [] ∧ r.late = [] ∧ r.claim = none
    let waits := fun (i : Instr) => Answers i s fun u => u = { s with regs := u.regs, span := u.span, cpl := u.cpl } ∧ u.span = got ∧
      RegsBut [Rg.CPL_TAGS c] s u ∧
      (u.cup c).tag t = { p.tag t with reading := true } ∧ (∀ x, x ≠ t → (u.cup c).tag x = p.tag x) ∧ (u.cup c).q0 = p.q0 ∧
      (u.cup c).next 0 = some t ∧ ∀ x, x ≠ c.val → u.cup x = s.cup x
    (¬ here → (op = 1 → waits (.apply c)) ∧ (op = 2 → waits (.apply2 c)) ∧ (op = 3 → waits (.gram c)) ∧ (op = 4 → waits (.chol c)) ∧
      (op = 5 → waits (.solve c))) ∧
    (∀ i : Instr, (i = .apply c ∨ i = .apply2 c ∨ i = .gram c ∨ i = .chol c ∨ i = .solve c) → ∃ u, exec i s = .next u) ∧
    let good := fun (i : Instr) (rows cols work : Nat) => firstCheck (matrixChecks d) = none → here → Answers i s fun u => ∃ r, ends u r ∧
      (r.status = 0 ∨ (op = 4 ∧ r.status = 3)) ∧ r.cycles = work + start ∧ r.claim = none ∧
      r.writes.length = batch * rows + b2n (bit (le d 73 1) 1) ∧ (bit (le d 73 1) 2 = true → r.late = []) ∧
      ∀ g x, g < batch → x < rows → ((r.writes[g * rows + x]?).map (fun w => (w.addr, w.bytes.length))) =
        some (le d 40 8 + g * le d 64 4 + x * le d 84 4, cols * eltSize (le d 72 1 / 16))
    (op = 1 ∨ op = 0 ∨ 5 < op → bad (.apply c)) ∧ (op = 2 → bad (.apply2 c)) ∧ (op = 3 → bad (.gram c)) ∧ (op = 4 → bad (.chol c)) ∧
    (op = 5 → bad (.solve c)) ∧
    (op = 1 → good (.apply c) m len (batch * ceilDiv (4 * m * k * len) 2048)) ∧
    (op = 2 → good (.apply2 c) n len (batch * ceilDiv (4 * (m * k + n * m) * len) 2048)) ∧
    (op = 3 → good (.gram c) k k (batch * ceilDiv (4 * k * k * len) 2048)) ∧
    (op = 4 → good (.chol c) k k (ceilDiv batch 32 * (6 * k + 16))) ∧
    (op = 5 → good (.solve c) k len (ceilDiv batch 32 * 12 * k + batch * ceilDiv (4 * k * k * len) 2048)) ∧
    (let x := v.busBytes agent (le d 16 8) 4
     let y := (v.busRead agent (le d 16 8) 4).busBytes agent (le d 24 8) 4
     let re := fun (z : List PByte) => sgn 16 (leNat (vals z))
     let im := fun (z : List PByte) => sgn 16 (leNat (vals z) / 65536)
     op = 1 → firstCheck (matrixChecks d) = none → here → m = 1 → k = 1 → len = 1 → batch = 1 → le d 71 1 = 0 → le d 72 1 = 0 →
      bit (le d 73 1) 1 = false → le d 73 1 / 16 = 0 → anyP x = false → anyP y = false → Answers (.apply c) s fun u => ∃ r, ends u r ∧
        r.late = [] ∧ r.writes = [⟨le d 40 8, clean (leBytes 4 (twos 16 (satS 16 (re x * re y - im x * im y)) +
          twos 16 (satS 16 (re x * im y + im x * re y)) * 2 ^ 16))⟩])

/-- R131, R134, R142 to R153: the decoder and the encoder compute their next command. A decode ends with OK or CRC_FAIL and names its segments; only a
passing paired half claims the release word. A transport block is written with its release word, a polar code word alone, and a failed UCI decode
writes nothing. Where an operand lies in another device and is not there yet, the command stays at the head of the queue and its requests are out (R129;
the model's choice of steps, log entry 171). -/
def Obligations.ChannelCodingIsComputed : Prop :=
  ∀ (s : State) (c : Fin 18) (e t : Nat), (e = 1 ∨ e = 2) → (s.cup c).next e = some t → (s.cup c).busy e = false →
    let p := s.cup c
    let d := (p.tag t).desc
    let op := le d 0 1
    let v := s.engineFresh c e t
    let got := if e = 1 then (v.decoder c d).1.span else (v.encoder c d).1.span
    let here := got.outstanding (0x3000 + 3 * c.val + e) = false
    let waits := fun (i : Instr) => Answers i s fun u => u = { s with regs := u.regs, span := u.span, cpl := u.cpl } ∧ u.span = got ∧
      RegsBut [Rg.CPL_TAGS c] s u ∧
      (u.cup c).tag t = { p.tag t with reading := true } ∧ (∀ x, x ≠ t → (u.cup c).tag x = p.tag x) ∧ (u.cup c).queue e = p.queue e ∧
      (u.cup c).next e = some t ∧ ∀ x, x ≠ c.val → u.cup x = s.cup x
    let ends := fun (u : State) (r : EngResult) => (u.cup c).tag t = { p.tag t with reading := false, result := some r } ∧
      (u.cup c).queue e = (p.queue e).filter (· != t) ∧ (∀ x, x ≠ t → (u.cup c).tag x = p.tag x) ∧ (u.cup c).q0 = p.q0 ∧
      (∀ x, x ≠ c.val → u.cup x = s.cup x) ∧ u.cores = s.cores ∧ u.drum = s.drum ∧ u.ppt = s.ppt ∧ u.pending = s.pending
    let bad := fun (cs : List Check) (i : Instr) => ∀ x, firstCheck cs = some x → here → Answers i s fun u => ∃ r, ends u r ∧ r.status = x.2.2 ∧
      le r.detail 0 2 = x.2.1 % 65536 ∧ r.writes = [] ∧ r.late = [] ∧ r.claim = none
    let decodes := fun (i : Instr) => firstCheck (decoderChecks d) = none → here → Answers i s fun u => ∃ r, ends u r ∧
      (r.status = 0 ∨ r.status = 1) ∧ r.late = [] ∧ le r.detail 0 2 = (decBlocks d).length % 65536 ∧
      (le r.detail 7 1 = 1 ↔ r.status = 0) ∧
      r.claim = (if bit (le d 56 1) 3 ∧ r.status = 0 then some (le d 16 8 + 12) else none) ∧
      (bit (le d 56 1) 3 = true → bit (le d 56 1) 2 = false → r.status = 1 → r.writes = [])
    let encodes := fun (i : Instr) => firstCheck (encoderChecks d) = none → here → Answers i s fun u => ∃ r, ends u r ∧ r.claim = none ∧
      (op ≠ 5 → r.status = 0) ∧ (r.status = 0 ∨ r.status = 1) ∧
      let src := v.busBytes (0x3000 + 3 * c.val + 2) (le d 16 8) (if op = 5 then le d 36 4 else ceilDiv (le d 32 4) 8)
      (anyP src = false → r.late = []) ∧ (anyP src = true → ∃ a, r.late = [(2, a)]) ∧
      (op ≤ 2 → ∃ body, r.writes = [⟨le d 24 8 + 64, body⟩, ⟨le d 24 8 + 8, clean (leBytes 4 (if anyP src then 2 else 1))⟩] ∧
        body.length = ceilDiv (ceilDiv (le d 36 4) 8) 64 * 64) ∧
      (3 ≤ op → op ≤ 4 → ∃ body, r.writes = [⟨le d 24 8, body⟩] ∧ body.length = if op = 4 then 108 else ceilDiv (le d 36 4) 8) ∧
      (op = 5 → r.status = 1 → r.writes = []) ∧
      (op = 5 → r.status = 0 → ∃ body, r.writes = [⟨le d 24 8, body⟩] ∧ body.length = ceilDiv (le d 32 4) 8)
    (¬ here → (e = 1 → op = 1 → waits (.ldpcDecode c)) ∧ (e = 1 → op = 2 → waits (.turboDecode c)) ∧ (e = 2 → op = 1 → waits (.ldpcTb c)) ∧
      (e = 2 → op = 2 → waits (.turboTb c)) ∧ (e = 2 → op = 3 → waits (.polarDci c)) ∧ (e = 2 → op = 4 → waits (.polarPbch c)) ∧
      (e = 2 → op = 5 → waits (.polarUciDec c))) ∧
    (e = 1 → (op ≠ 2 → bad (decoderChecks d) (.ldpcDecode c)) ∧ (op = 2 → bad (decoderChecks d) (.turboDecode c)) ∧
      (op = 1 → decodes (.ldpcDecode c)) ∧ (op = 2 → decodes (.turboDecode c))) ∧
    (e = 2 → (op = 1 ∨ op = 0 ∨ 5 < op → bad (encoderChecks d) (.ldpcTb c)) ∧ (op = 2 → bad (encoderChecks d) (.turboTb c)) ∧
      (op = 3 → bad (encoderChecks d) (.polarDci c)) ∧ (op = 4 → bad (encoderChecks d) (.polarPbch c)) ∧
      (op = 5 → bad (encoderChecks d) (.polarUciDec c)) ∧
      (op = 1 → encodes (.ldpcTb c)) ∧ (op = 2 → encodes (.turboTb c)) ∧ (op = 3 → encodes (.polarDci c)) ∧
      (op = 4 → encodes (.polarPbch c)) ∧ (op = 5 → encodes (.polarUciDec c)))

/-- R44, R132, R133, R135, R147, R232, R239: a committed command whose result waits is returned: its write goes out, unless the cluster is retired, its
completion record is written where it is asked for, its late errors stay with the tag, and each is delivered to the owner's queue of sixteen or counted
as lost; with none left, and no write to another device without its response, the tag is free. -/
def Obligations.EngineResultsAndLateErrors : Prop :=
  (∀ (s : State) (c : Fin 18) (tag : Fin 256) (r : EngResult),
    let g := (s.cup c).tag tag
    g.result = some r → g.state = .committed → r.claim = none → g.reply = none → bit (le g.desc 3 1) 0 = false → ∀ w, r.writes = [w] →
    let agent := 0x3000 + 3 * c.val + g.eng
    let stale := s.engStale c g
    let t := (if stale then s else s.busWrite agent w.addr w.bytes).memSync agent
    let rmw := (t.mec.rmwBad.filter (fun x => x.1 == agent)).map (fun x => (3, x.2))
    (g.eng = 1 → s.engLate g = true → w.addr ≠ le g.desc 24 8 + 16) → Local s w.addr → Answers (.engineResultReturn c tag) s fun u =>
      ((u.cup c).tag tag).state = .returned ∧ ((u.cup c).tag tag).result = none ∧ u.mem = t.mem ∧
      (stale = true → CountedBy Rg.DRM_STALE_WRITES 1 s u ∧ ((u.cup c).tag tag).late = r.late ++ rmw) ∧
      (stale = false → (s.decodeBad agent w.addr w.bytes.length = none → ((u.cup c).tag tag).late = r.late ++ rmw) ∧
        ∀ a, s.decodeBad agent w.addr w.bytes.length = some a → ((u.cup c).tag tag).late = r.late ++ [(1, a)] ++ rmw) ∧
      (bit (le g.desc 3 1) 1 = true → g.owner < 8 → (u.rd (Rg.ZCR_INT_PENDING (8 * c + g.owner))).getLsbD 0 = true)) ∧
  (∀ (s : State) (c : Fin 18) (tag : Fin 256) (r : EngResult),
    let g := (s.cup c).tag tag
    g.result = some r → g.state = .committed → r.claim = none → g.reply = none → r.writes = [] →
    let agent := 0x3000 + 3 * c.val + g.eng
    let at_ := sharedBase c + le g.desc 12 4
    Answers (.engineResultReturn c tag) s fun u => ((u.cup c).tag tag).state = .returned ∧ ((u.cup c).tag tag).result = none ∧
      (bit (le g.desc 3 1) 0 = true → le g.desc 12 4 + 32 ≤ 0x800000 → role s.regs c ≠ 3 →
        u.mem = ((s.busWrite agent at_ (clean (leBytes 1 tag ++ leBytes 1 (g.eng + 1) ++ leBytes 1 (le g.desc 0 1) ++ leBytes 1 r.status ++
          leBytes 4 (le g.desc 4 4) ++ leBytes 4 r.cycles ++ leBytes 4 r.energy ++ fit 0 16 r.detail))).memSync agent).mem) ∧
      (bit (le g.desc 3 1) 0 = false → u.mem = (s.memSync agent).mem)) ∧
  (∀ (s : State) (c : Fin 18) (tag : Fin 256) (r : EngResult) (w : EngWrite) (d l a : Nat),
    let g := (s.cup c).tag tag
    g.result = some r → g.state = .committed → r.claim = none → g.reply = none → bit (le g.desc 3 1) 0 = false → r.writes = [w] →
    (g.eng = 1 → s.engLate g = true → w.addr ≠ le g.desc 24 8 + 16) → s.engStale c g = false → placeOf s.regs w.addr = .there d l a →
    w.bytes ≠ [] → Answers (.engineResultReturn c tag) s fun u => ((u.cup c).tag tag).state = .returned ∧
      u.mem = (s.memSync (0x3000 + 3 * c.val + g.eng)).mem ∧
      ∃ q ∈ u.span.reqs, q.agent = 0x3000 + 3 * c.val + g.eng ∧ q.isWrite = true ∧ q.dst = d ∧ q.link = l ∧ q.cmd = some tag.val ∧
        exec (.tagFree c tag) u = .next u) ∧
  (∀ (s : State) (c : Fin 18) (tag : Fin 256),
    let g := (s.cup c).tag tag
    (g.result = none ∨ g.state ≠ .committed → exec (.engineResultReturn c tag) s = .next s) ∧
    (s.span.owes (0x3000 + 3 * c.val + g.eng) tag = true → exec (.tagFree c tag) s = .next s ∧ ∀ b, exec (.lateError c tag b) s = .next s) ∧
    (∀ x rest, g.state = .returned → s.span.owes (0x3000 + 3 * c.val + g.eng) tag = false → g.late = x :: rest → g.owner < 8 → x.1 = 1 → Answers (.lateError c tag none) s fun u =>
      ((u.cup c).tag tag) = { g with late := rest } ∧ (∀ y, y ≠ tag.val → (u.cup c).tag y = (s.cup c).tag y) ∧
      CountedBy (Rg.ZCL_ENG_LATE_ERRORS c) 1 s u ∧ OnlyReports { s with cpl := u.cpl } u ∧
      (((s.cup c).late g.owner).length < 16 → (u.cup c).late g.owner = (s.cup c).late g.owner ++ [⟨tag, g.eng, 1, le g.desc 4 4, x.2⟩] ∧
        (u.rd (Rg.ZCR_INT_PENDING (8 * c + g.owner))).getLsbD 1 = true) ∧
      (16 ≤ ((s.cup c).late g.owner).length → (u.cup c).late g.owner = (s.cup c).late g.owner ∧
        CountedBy (Rg.CPL_LATE_LOST c g.owner) 1 s u ∧ Raised (32 * (13 + c) + 8 + g.owner) s u)) ∧
    (∀ b, g.state = .returned → s.span.owes (0x3000 + 3 * c.val + g.eng) tag = false → g.owner < 8 → Answers (.lateError c tag (some b)) s fun u => (u.cup c).tag tag = g ∧
      u.mec.ceLog = ceNote s.mec.ceLog c s.now ∧ CountedBy (Rg.ZCL_ENG_LATE_ERRORS c) 1 s u ∧
      (((s.cup c).late g.owner).length < 16 → (u.cup c).late g.owner = (s.cup c).late g.owner ++ [⟨tag, g.eng, 4, le g.desc 4 4, b⟩])) ∧
    (∀ b, g.state ≠ .returned → exec (.lateError c tag b) s = .next s) ∧
    (g.state = .returned → s.span.owes (0x3000 + 3 * c.val + g.eng) tag = false → g.late = [] → Answers (.tagFree c tag) s fun u => ((u.cup c).tag tag).state = .free ∧
      ((u.cup c).tag tag).seq = g.seq ∧ (u.cup c).freeTags = (s.cup c).freeTags.filter (· != tag.val) ++ [tag.val] ∧
      (∀ y, y ≠ tag.val → (u.cup c).tag y = (s.cup c).tag y) ∧ (∀ x, x ≠ c.val → u.cup x = s.cup x) ∧
      RegsBut [Rg.CPL_TAGS c] s u ∧ u = { s with regs := u.regs, cpl := u.cpl }) ∧
    (g.state ≠ .returned ∨ g.late ≠ [] → exec (.tagFree c tag) s = .next s)) ∧
  (∀ (s : State) (c : Fin 18) (k : Fin 8) (v : Word),
    (Fd.CPL_LATE_POP_pop.get v = 1 → Answers (.lateErrorPop c k v) s fun u => (u.cup c).late k = ((s.cup c).late k).tail ∧
      (∀ x, x ≠ k.val → (u.cup c).late x = (s.cup c).late x) ∧ (∀ x, x ≠ c.val → u.cup x = s.cup x) ∧
      (((s.cup c).late k).tail = [] → (u.rd (Rg.ZCR_INT_PENDING (8 * c + k))).getLsbD 1 = false ∧ u.rd (Rg.CPL_LATE_INFO c k) = 0) ∧
      u = { s with regs := u.regs, cpl := u.cpl }) ∧
    (Fd.CPL_LATE_POP_pop.get v ≠ 1 → exec (.lateErrorPop c k v) s = .next s))

/-- R188, R198 to R204: the arithmetic instructions of a core. Moves carry poison; arithmetic writes a clean result; accumulations wrap into 72 bits and
note it; moves from an accumulator round, saturate and lower the block exponent to the value's count of sign bits less one. -/
def Obligations.CoresCompute : Prop :=
  ∀ (s : State) (x : Ins), Runs x s →
    let k := x.core.val
    let c := s.core k
    let st := Rg.ZCR_STATUS k
    let setF := fun (f : Bool) (u : State) => Done x 4 [st] s u ∧ CoreKept x s u ∧ u.rd st = Fd.ZCR_STATUS_f.set (s.rd st) (b2n f)
    let accs := fun (l : List Nat) (u : State) => u.core k = { c with acc := (u.core k).acc, pc := (u.core k).pc, waiting := false } ∧
      ∀ i, i ∉ l → (u.core k).accu i = c.accu i
    let leads := fun (v : BitVec 72) (n : Nat) => n ≤ 71 ∧ (∀ i, i ≤ n → v.getMsbD i = v.msb) ∧ (n = 71 ∨ v.getMsbD (n + 1) ≠ v.msb)
    let lowers := fun (v : BitVec 72) (u : State) => ∃ n, leads v n ∧ u.getF (Rg.ZCR_BEXP k) Fd.ZCR_BEXP_lead =
      if s.getF (Rg.ZCR_MODE k) Fd.ZCR_MODE_bexp_en = 1 then min (s.getF (Rg.ZCR_BEXP k) Fd.ZCR_BEXP_lead) n
      else s.getF (Rg.ZCR_BEXP k) Fd.ZCR_BEXP_lead
    let sums := fun (l : List (Nat × Int)) (u : State) => Done x 4 [st] s u ∧ accs (l.map (·.1)) u ∧
      (∀ e ∈ l, (u.core k).accu e.1 = ⟨BitVec.ofInt 72 ((c.accu e.1).v.toInt + e.2), false⟩) ∧
      u.rd st = if l.any (fun e => decide (satS 72 ((c.accu e.1).v.toInt + e.2) ≠ (c.accu e.1).v.toInt + e.2)) then
        Fd.ZCR_STATUS_acc_ovf.set (s.rd st) 1 else s.rd st
    (∀ opc func (rd rs1 rs2 : Fin 32),
      (Answers (.alu x .move opc func rd rs1 rs2) s fun u => Done x 4 [] s u ∧ GWritten x rd (c.reg .g rs1) s u) ∧
      ((c.reg .g rs1).p = false → (c.reg .g rs2).p = false → Answers (.alu x .arith opc func rd rs1 rs2) s fun u => Done x 4 [] s u ∧
        GWritten x rd ⟨Config.alu opc func (c.reg .g rs1).v (c.reg .g rs2).v, false⟩ s u)) ∧
    (∀ opc (rd rs1 : Fin 32) (imm : BitVec 11),
      (Answers (.aluImmediate x .move opc rd rs1 imm) s fun u => Done x 4 [] s u ∧ GWritten x rd (c.reg .g rs1) s u) ∧
      ((c.reg .g rs1).p = false → Answers (.aluImmediate x .arith opc rd rs1 imm) s fun u => Done x 4 [] s u ∧
        GWritten x rd ⟨Config.alu opc 0 (c.reg .g rs1).v (imm.signExtend 32), false⟩ s u)) ∧
    (∀ opc (rs1 : Fin 32) (b : GImm), (c.reg .g rs1).p = false → (c.gimm b).p = false →
      Answers (.compare x opc rs1 b) s (setF (Config.cmp opc (c.reg .g rs1).v (c.gimm b).v))) ∧
    (∀ (acc : Fin 8) (rs1 rs2 : Fin 32) (frac wide : Bool) (h : BitVec 2), (c.reg .g rs1).p = false → (c.reg .g rs2).p = false →
      (c.accu acc).p = false →
      let p := (if frac then 2 else 1) * (mulOperand (c.reg .g rs1).v wide (h.getLsbD 0) * mulOperand (c.reg .g rs2).v wide (h.getLsbD 1))
      Answers (.mac x acc rs1 rs2 frac wide h) s (sums [(acc, p)]) ∧ Answers (.msu x acc rs1 rs2 frac wide h) s (sums [(acc, -p)])) ∧
    (∀ (acc : Fin 8) (rs1 rs2 : Fin 32), acc.val % 2 = 0 → (c.reg .g rs1).p = false → (c.reg .g rs2).p = false →
      (c.accu acc).p = false → (c.accu (acc + 1 : Nat)).p = false →
      let i := fun (r : Fin 32) => sgn 16 (c.reg .g r).v.toNat
      let q := fun (r : Fin 32) => sgn 16 ((c.reg .g r).v.toNat / 65536)
      Answers (.cmac x acc rs1 rs2) s (sums [(acc, 2 * (i rs1 * i rs2 - q rs1 * q rs2)), ((acc + 1 : Nat), 2 * (i rs1 * q rs2 + q rs1 * i rs2))])) ∧
    (∀ (form : AccForm) (acc : Fin 8) (rd : Fin 32),
      let f := accField s.regs k form (c.accu acc).v
      Answers (.mva x form acc rd) s fun u => Done x 4 [st, Rg.ZCR_BEXP k] s u ∧
        GWritten x rd ⟨BitVec.ofInt 32 f.1, (c.accu acc).p⟩ s u ∧ lowers (c.accu acc).v u ∧
        u.rd st = if f.2 then Fd.ZCR_STATUS_sat.set (s.rd st) 1 else s.rd st) ∧
    (∀ (form : AccForm) (acc : Fin 8) (m : AMode) (ea new : Word) (off : Nat),
      let e := accBytes form
      let f := accField s.regs k form (c.accu acc).v
      c.ea m e e = .at ea new → ea.toNat % e = 0 → coreTarget s.regs k ea.toNat = .tile off → c.sb.length < 8 →
      Answers (.sta x form acc m) s fun u => Done x 4 [st, Rg.ZCR_BEXP k] s u ∧ lowers (c.accu acc).v u ∧
        (u.core k).sb = c.sb ++ [⟨BitVec.ofNat 32 off, (leBytes e (twos 32 f.1)).map (fun b => ⟨b, (c.accu acc).p⟩)⟩] ∧
        (u.core k).reg .a m.a = ⟨new, false⟩ ∧ (u.core k).acc = c.acc ∧ (u.core k).g = c.g ∧ (u.core k).v = c.v ∧
        u.rd st = if f.2 then Fd.ZCR_STATUS_sat.set (s.rd st) 1 else s.rd st) ∧
    (∀ (acc : Fin 8) (rd : Fin 32), (c.accu acc).p = false → ∃ n, leads (c.accu acc).v n ∧
      Answers (.expa x acc rd) s fun u => Done x 4 [] s u ∧ GWritten x rd ⟨BitVec.ofNat 32 n, false⟩ s u) ∧
    (∀ acc : Fin 8, Answers (.clra x acc) s fun u => Done x 4 [] s u ∧ accs [acc.val] u ∧ (u.core k).accu acc = ⟨0, false⟩) ∧
    (Answers (.bexpclr x) s fun u => Done x 4 [Rg.ZCR_BEXP k] s u ∧ CoreKept x s u ∧ u.getF (Rg.ZCR_BEXP k) Fd.ZCR_BEXP_lead = 71) ∧
    (∀ (file : RegFile) (rs : Fin 32), rs.val < fileSize file → Answers (.ptst x (.file file) rs) s (setF (c.reg file rs).p)) ∧
    (∀ rs : Fin 32, rs.val < 8 → Answers (.ptst x .acc rs) s (setF (c.accu rs).p)) ∧
    (∀ (rd : Fin 32) (off : Nat), off % 4 = 0 →
      let a := Rg.ZCR_CTRL k + off % 0x1000
      let t := s.tickCore k
      Answers (.mfz x rd off) s fun u => Next x 4 s u ∧ GWritten x rd ⟨BitVec.ofNat 32 (leNat (t.regBytes a 4)), false⟩ s u ∧
        u.mem = s.mem ∧ RegsBut [a] t u) ∧
    (∀ (rs : Fin 32) (off : Nat),
      let o := off % 0x1000
      let a := Rg.ZCR_CTRL k + o
      activeLoopReg s.regs k o = false → (c.reg .g rs).p = false → o % 4 = 0 → Answers (.mtz x rs off) s fun u => CoreKept x s u ∧
        (u.core k).pc = c.pc + 4 ∧ RegsBut [a, Rg.ZCR_STATUS k, Rg.ZCR_ESR1 k] (s.tickCore k) u ∧ u.mem = s.mem ∧
        (o = 0 → coreRuns u.regs k = (Fd.ZCR_CTRL_run.get (c.reg .g rs).v == 1)) ∧
        ∀ d, findReg a = some d → o ∉ [0, 0x08, 0xB0] → u.rd a = plainWrite d ((s.tickCore k).rd a) (c.reg .g rs).v) ∧
    (Answers (.wait x) s fun u => Done x 4 [] s u ∧ u.core k = { c with pc := (u.core k).pc, waiting := true }) ∧
    (c.sb.length ≤ 8 → Answers (.sync x) s fun u => (u.core k).sb = [] ∧ (u.core k).g = c.g ∧ (u.core k).a = c.a ∧
      (u.core k).acc = c.acc ∧ (u.core k).v = c.v ∧ u.mem = (((s.tickCore k).drainAll k).memSync (coreAgent k)).mem ∧ u.drum = s.drum ∧
      ((∀ r ∈ s.span.reqs, r.agent ≠ coreAgent k) → Next x 4 s u) ∧
      ((∃ r ∈ s.span.reqs, r.agent = coreAgent k) → (u.core k).pc = c.pc))

/-- R187, R189, R190, R193, R198, R202, R203, R208: how a core reaches memory. A load brings bytes and poison of the address that its mode forms, and a
post-modify writes the address register after it; a store to the tile enters the store buffer, which drains oldest first, two entries when it is full;
TAPM multiplies, accumulates and moves in one instruction; LPSAVE and LPREST carry the loop state. -/
def Obligations.CoresReachMemory : Prop :=
  (∀ (s : State) (x : Ins), Runs x s →
    let k := x.core.val
    let c := s.core k
    let t := s.tickCore k
    let acts := fun (v u : State) => u = { v with regs := u.regs, cores := u.cores } ∧ (∀ a, a ∉ loopRegs k → u.rd a = v.rd a) ∧
      ∀ j, j ≠ k → u.core j = v.core j
    let may := fun (ea : Word) (e : Nat) => ea.toNat % e = 0 ∧ s.coreBad k ea.toNat e = none ∧ Near s k ea.toNat e
    let pushed := fun (sb : List SbEntry) (off : Nat) (bs : List PByte) =>
      (if 8 ≤ sb.length then sb.drop 2 else sb) ++ [(⟨BitVec.ofNat 32 off, bs⟩ : SbEntry)]
    let xm := fun (o : Dual) => (⟨o.ax, ⟨o.xmode.val, o.xmode.isLt⟩, o.xoff⟩ : AMode)
    let ym := fun (o : Dual) => (⟨o.ay, ⟨o.ymode.val, o.ymode.isLt⟩, o.yoff⟩ : AMode)
    (∀ (file : RegFile) (size : Fin 4) (rd : Fin 32) (m : AMode) (ea new : Word),
      let e := 2 ^ size.val
      let bs := t.coreBytes k ea.toNat e
      regOk file size rd = true → c.ea m e e = .at ea new → may ea e → Answers (.load x file size rd m) s fun u =>
        acts (t.coreRead k ea.toNat e) u ∧ (u.core k).pc = c.pc + 4 ∧
          u.core k = { (c.post m.a new).loaded file size rd bs with pc := (u.core k).pc, waiting := false } ∧
          (size.val = 2 → (u.core k).reg file rd = ⟨BitVec.ofNat 32 (leNat (vals bs)), anyP bs⟩) ∧
          (size.val = 3 → (u.core k).reg file rd = ⟨BitVec.ofNat 32 (leNat (vals bs)), anyP bs⟩ ∧
            (u.core k).reg file (rd + 1 : Nat) = ⟨BitVec.ofNat 32 (leNat (vals bs) / 2 ^ 32), anyP bs⟩) ∧
          (s.mec.merges = [] → u.mem = s.mem)) ∧
    (∀ (file : RegFile) (size : Fin 4) (rs : Fin 32) (m : AMode) (ea new : Word),
      let e := 2 ^ size.val
      let bs := c.stored file size rs
      regOk file size rs = true → c.ea m e e = .at ea new → may ea e → Answers (.store x file size rs m) s fun u =>
        acts (t.coreWrite k ea.toNat bs) u ∧ (u.core k).reg .a m.a = ⟨new, false⟩ ∧
          (∀ off, coreTarget s.regs k ea.toNat = .tile off → (u.core k).pc = c.pc + 4 ∧ (u.core k).sb = pushed c.sb off bs ∧
            u.core k = { c.post m.a new with sb := (u.core k).sb, pc := (u.core k).pc, waiting := false } ∧
            (c.sb.length < 8 → u.mem = s.mem ∧ u.mec = s.mec)) ∧
          (∀ d, coreTarget s.regs k ea.toNat = .dev d → role s.regs (k / 8) = 3 → isReg d = false → ownMemory (k / 8) d = false →
            u.mem = s.mem ∧ CountedBy Rg.DRM_STALE_WRITES 1 s u) ∧
          (∀ d a, coreTarget s.regs k ea.toNat = .dev d → placeOf s.regs d = .here a → isReg a = false → s.mec.merges = [] →
            role s.regs (k / 8) ≠ 3 →
            (u.core k).pc = c.pc + 4 ∧ u.core k = { c.post m.a new with pc := (u.core k).pc, waiting := false } ∧
            (inInit s.regs (wordOf s.regs a) = false → vals (u.peekBytes a e) = vals bs) ∧
            ∀ y, y < a ∨ a + e ≤ y → vals (u.peekBytes y 1) = vals (s.peekBytes y 1))) ∧
    (∀ (acc : Fin 8) (o : Dual) (move : Int) (ax nx ay ny : Word),
      let h := t.coreBytes k ax.toNat 2
      let t1 := t.coreRead k ax.toNat 2
      let y := t1.coreBytes k ay.toNat 2
      let t2 := t1.coreRead k ay.toNat 2
      let dst := ay + BitVec.ofInt 32 (2 * move)
      let p := 2 * (sgn 16 (leNat (vals h)) * sgn 16 (leNat (vals y)))
      c.ea (xm o) 2 2 = .at ax nx → c.ea (ym o) 2 2 = .at ay ny → may ax 2 → may ay 2 → may dst 2 →
      anyP h = false → anyP y = false → (c.accu acc).p = false → Answers (.tapm x acc o move) s fun u =>
        acts ((t2.accAdd k acc p).coreWrite k dst.toNat y) u ∧
          ∀ off, coreTarget s.regs k dst.toNat = .tile off → (u.core k).pc = c.pc + 4 + 4 ∧ (u.core k).sb = pushed c.sb off y ∧
            (u.core k).accu acc = ⟨BitVec.ofInt 72 ((c.accu acc).v.toInt + p), false⟩ ∧ (∀ i, i ≠ acc.val → (u.core k).accu i = c.accu i) ∧
            (u.core k).g = c.g ∧ (u.core k).v = c.v ∧
            (o.ymode.val ≠ 0 → (u.core k).reg .a o.ay = ⟨ny, false⟩) ∧
            (o.xmode.val ≠ 0 → o.ax ≠ o.ay → (u.core k).reg .a o.ax = ⟨nx, false⟩) ∧
            ∀ i, (o.xmode.val = 0 ∨ i ≠ o.ax.val) → (o.ymode.val = 0 ∨ i ≠ o.ay.val) → (u.core k).reg .a i = c.reg .a i) ∧
    (∀ (size : Fin 4) (rdx rdy : Fin 32) (o : Dual) (ax nx ay ny : Word),
      let e := 2 ^ size.val
      let bx := t.coreBytes k ax.toNat e
      let t1 := t.coreRead k ax.toNat e
      let bv := t1.coreBytes k ay.toNat e
      regOk .g size rdx = true → regOk .g size rdy = true → c.ea (xm o) e e = .at ax nx → c.ea (ym o) e e = .at ay ny → may ax e →
      may ay e → Answers (.ld2 x size rdx rdy o) s fun u => acts (t1.coreRead k ay.toNat e) u ∧ (u.core k).pc = c.pc + 4 + 4 ∧
        (u.core k).g = ((c.loaded .g size rdx bx).loaded .g size rdy bv).g ∧ (u.core k).acc = c.acc ∧ (u.core k).v = c.v ∧
        (o.ymode.val ≠ 0 → (u.core k).reg .a o.ay = ⟨ny, false⟩) ∧
        (o.xmode.val ≠ 0 → o.ax ≠ o.ay → (u.core k).reg .a o.ax = ⟨nx, false⟩) ∧ (s.mec.merges = [] → u.mem = s.mem)) ∧
    (∀ (size : Fin 4) (rd rs : Fin 32) (o : Dual) (ax nx ay ny : Word),
      let e := 2 ^ size.val
      let bx := t.coreBytes k ax.toNat e
      let bs := c.stored .g size rs
      regOk .g size rd = true → regOk .g size rs = true → c.ea (xm o) e e = .at ax nx → c.ea (ym o) e e = .at ay ny → may ax e →
      may ay e → Answers (.ldst x size rd rs o) s fun u => acts ((t.coreRead k ax.toNat e).coreWrite k ay.toNat bs) u ∧
        ∀ off, coreTarget s.regs k ay.toNat = .tile off → (u.core k).pc = c.pc + 4 + 4 ∧ (u.core k).sb = pushed c.sb off bs ∧
          (u.core k).g = (c.loaded .g size rd bx).g ∧ (u.core k).acc = c.acc ∧ (u.core k).v = c.v ∧
          (o.ymode.val ≠ 0 → (u.core k).reg .a o.ay = ⟨ny, false⟩) ∧
          (o.xmode.val ≠ 0 → o.ax ≠ o.ay → (u.core k).reg .a o.ax = ⟨nx, false⟩)) ∧
    (∀ (a : Fin 16) (v : Word) (off : Nat), c.reg .a a = ⟨v, false⟩ → v.toNat % 64 = 0 → coreTarget s.regs k v.toNat = .tile off →
      c.sb.length < 8 → Answers (.lpsave x a) s fun u => Done x 4 [Rg.ZCR_LOOP_DEPTH k] s u ∧
        u.getF (Rg.ZCR_LOOP_DEPTH k) Fd.ZCR_LOOP_DEPTH_depth = 0 ∧
        u.core k = { c with sb := c.sb ++ [⟨BitVec.ofNat 32 off, clean (loopBytes (loopsOf s.regs k))⟩]
                            pc := (u.core k).pc
                            waiting := false }) ∧
    (∀ (a : Fin 16) (v : Word),
      let bs := t.coreBytes k v.toNat 64
      let w := fun (n j : Nat) => le (vals bs) (16 + 12 * n + 4 * j) 4
      c.reg .a a = ⟨v, false⟩ → may v 64 → anyP bs = false → le (vals bs) 0 4 % 8 ≤ 4 →
      atLoopEnd (loopsFrom (vals bs)) c.pc = false → Answers (.lprest x a) s fun u => acts (t.coreRead k v.toNat 64) u ∧ CoreKept x s u ∧
        (u.core k).pc = c.pc + 4 ∧ u.getF (Rg.ZCR_LOOP_DEPTH k) Fd.ZCR_LOOP_DEPTH_depth = le (vals bs) 0 4 % 8 ∧
        ∀ n, n < 4 → u.rd (Rg.ZCR_LOOP_START k n) = BitVec.ofNat 32 (w n 0) ∧ u.rd (Rg.ZCR_LOOP_END k n) = BitVec.ofNat 32 (w n 1) ∧
          u.getF (Rg.ZCR_LOOP_COUNT k n) Fd.ZCR_LOOP_COUNT_count = w n 2 % 2 ^ 24)) ∧
  (∀ (s : State) (k : Fin 144) (e : SbEntry) (rest : List SbEntry), (s.core k).sb = e :: rest →
    let a := tileAddr k e.addr.toNat
    a + e.bytes.length ≤ wordOf s.regs a + wordSize s.regs a → s.mec.merges = [] →
    Answers (.storeBufferDrain k) s fun u => u.core k = { s.core k with sb := rest } ∧ (∀ j, j ≠ k.val → u.core j = s.core j) ∧
      (inInit s.regs (wordOf s.regs a) = false → (∀ i, accessible s.regs (coreAgent k) (a + i) = true ∨ e.bytes.length ≤ i) →
        vals (u.peekBytes a e.bytes.length) = vals e.bytes) ∧
      (∀ y, y < a ∨ a + e.bytes.length ≤ y → vals (u.peekBytes y 1) = vals (s.peekBytes y 1)) ∧
      u = { s with mem := u.mem, mec := u.mec, regs := u.regs, out := u.out, host := u.host, wtr := u.wtr, cores := u.cores }) ∧
  (∀ (s : State) (k : Fin 144), (s.core k).sb = [] → exec (.storeBufferDrain k) s = .next s) ∧
  (∀ (s : State) (x : Ins) (file : RegFile) (rd : Fin 32) (m : AMode) (ea new : Word) (dev a d l : Nat), s.issues x.core = true →
    x.illegal = false → atLoopEnd (loopsOf s.regs x.core) (s.core x.core).pc = false → s.span.outstanding (coreAgent x.core) = false →
    let k := x.core.val
    let c := s.core k
    let g := coreAgent k
    regOk file 2 rd = true → c.ea m 4 4 = .at ea new → ea.toNat % 4 = 0 → coreTarget s.regs k ea.toNat = .dev dev →
    placeOf s.regs dev = .there d l a →
    (s.span.busy g = false → Answers (.load x file 2 rd m) s fun u => u.core k = { c with waiting := false } ∧ u.mem = s.mem ∧
      u.span.outstanding g = true ∧ (u.span.link l).txPkts = (s.span.link l).txPkts ++
        [⟨1, false, 0, ownIndex s.regs, d, s.span.nextTag, 4, a, 0, []⟩]) ∧
    (∀ bs, s.span.answers = [⟨g, d, a, 4, false, [], some bs⟩] → c.issuing = [] → Answers (.load x file 2 rd m) s fun u => u.span.answers = [] ∧
      (u.core k).pc = c.pc + 4 ∧ (u.core k).reg file rd = ⟨BitVec.ofNat 32 (leNat (vals bs)), anyP bs⟩ ∧ u.mem = s.mem) ∧
    (s.span.answers = [⟨g, d, a, 4, false, [], none⟩] → c.issuing = [] → Answers (.load x file 2 rd m) s fun u => u.span.answers = [] ∧
      Traps k 0x03 (some ea) s u) ∧
    (coreRuns s.regs k = true → s.span.busy g = true → Answers (.coreRunStop x.core 0) s fun u => u.issues k = true)) ∧
  (∀ (s : State) (x : Ins) (i : Instr), s.issues x.core = true → s.span.outstanding (coreAgent x.core) = true →
    i ∈ [Instr.wait x, .sync x, .bexpclr x, .ret x, .rti0 x, .rti1 x, .vlimset x] → exec i s = .next s)

/-- R196, R197, R203, R206, R207: where execution goes on. A branch ends the levels whose body does not hold its target, calls, returns and RTI end none;
a LOOP takes the next level, a count of 0 passes the body by, a fifth level overflows; the instruction at the end of the innermost level counts it
down and loops back or ends it; RTI0 swaps the bank back, RTI0 and RTI1 restore pc, F and level. (What a displacement counts from and the return
register are the model's, log entries 20 and 37.) -/
def Obligations.CoresGoOn : Prop :=
  (∀ (s : State) (x : Ins), Runs x s →
    let k := x.core.val
    let c := s.core k
    let l := loopsOf s.regs k
    let e0 := s.rd (Rg.ZCR_ESR0 k)
    let e1 := s.rd (Rg.ZCR_ESR1 k)
    let cyc := [Rg.ZCR_CYCLES_LO k, Rg.ZCR_CYCLES_LO k + 4]
    let only := fun (r : List Nat) (u : State) => u = { s with regs := u.regs, cores := u.cores, evt := { s.evt with epochs := u.evt.epochs } } ∧
      RegsBut (cyc ++ r) s u ∧ ∀ j, j ≠ k → u.core j = s.core j
    let goes := fun (pc : Word) (u : State) => u.core k = { c with pc := pc, waiting := false }
    let inside := fun (n : Nat) (a : Word) => nth 0 l.start n ≤ a ∧ a ≤ nth 0 l.last n
    (∀ (cond : Fin 16) (disp : Int), cond.val ≤ 2 →
      let taken := cond.val = 0 ∨ (cond.val = 1 ∧ flagF s.regs k = true) ∨ (cond.val = 2 ∧ flagF s.regs k = false)
      let tgt := branchTarget c.pc disp
      (¬ taken → (Answers (.branch x cond disp) s fun u => only [] u ∧ goes (c.pc + 4) u) ∧
        Answers (.call x cond disp) s fun u => only [] u ∧ goes (c.pc + 4) u) ∧
      (taken → l.depth ≤ 4 → (Answers (.branch x cond disp) s fun u => only (loopRegs k) u ∧ goes tgt u ∧
        let m := loopsOf u.regs k
        m = { l with depth := m.depth } ∧ m.depth ≤ l.depth ∧ (∀ n, m.depth ≤ n → n < l.depth → ¬ inside n tgt) ∧
          (m.depth ≠ 0 → inside (m.depth - 1) tgt))) ∧
      (taken → Answers (.call x cond disp) s fun u => only [] u ∧ (u.core k).link = c.pc + 4 ∧
        u.core k = { c with pc := tgt, waiting := false, link := (u.core k).link })) ∧
    (Answers (.ret x) s fun u => only [] u ∧ goes c.link u) ∧
    (∀ (n : LoopCount) (last : Word), (c.gimm n).p = false → l.depth < 4 →
      let v := (c.gimm n).v
      (v = 0 → Answers (.loop x n last) s fun u => u.free = s.free + 1 ∧ only [] { u with free := s.free } ∧
        goes (last + BitVec.ofNat 32 (s.insLen k last)) u) ∧
      (0 < v.toNat → v.toNat < 2 ^ 24 → last ≠ c.pc → Answers (.loop x n last) s fun u =>
        u.free = s.free + 1 ∧ only (loopRegs k) { u with free := s.free } ∧ goes (c.pc + 4) u ∧ (loopsOf u.regs k).depth = l.depth + 1 ∧
          u.rd (Rg.ZCR_LOOP_START k l.depth) = c.pc + 4 ∧ u.rd (Rg.ZCR_LOOP_END k l.depth) = last ∧
          u.getF (Rg.ZCR_LOOP_COUNT k l.depth) Fd.ZCR_LOOP_COUNT_count = v.toNat ∧
          ∀ m, m < l.depth → nth 0 (loopsOf u.regs k).start m = nth 0 l.start m ∧ nth 0 (loopsOf u.regs k).last m = nth 0 l.last m ∧
            nth 0 (loopsOf u.regs k).count m = nth 0 l.count m)) ∧
    (Answers (.rti0 x) s fun u => only (Rg.ZCR_STATUS k :: loopRegs k) u ∧ (u.core k).pc = s.rd (Rg.ZCR_EPC0 k) ∧
        flagF u.regs k = e0.getLsbD 0 ∧ coreLevel u.regs k = e0.toNat / 2 % 4 ∧
        (loopsOf u.regs k).depth = c.sloops.depth % 8 ∧ (u.core k).sloops = l ∧ swapped c (u.core k)) ∧
    (Answers (.rti1 x) s fun u => only [Rg.ZCR_STATUS k] u ∧ goes (s.rd (Rg.ZCR_EPC1 k)) u ∧ flagF u.regs k = e1.getLsbD 0 ∧
      coreLevel u.regs k = e1.toNat / 2 % 4)) ∧
  (∀ (s : State) (x : Ins) (acc : Fin 8), s.issues x.core = true → x.illegal = false → s.span.busy (coreAgent x.core) = false →
    let k := x.core.val
    let c := s.core k
    let l := loopsOf s.regs k
    let d := l.depth - 1
    1 ≤ l.depth → l.depth ≤ 4 → nth 0 l.last d = c.pc → 1 ≤ (nth 0 l.count d).toNat → (nth 0 l.count d).toNat < 2 ^ 24 →
    Answers (.clra x acc) s fun u => (u.core k).accu acc = ⟨0, false⟩ ∧
      (nth 0 l.count d ≠ 1 → (u.core k).pc = nth 0 l.start d ∧ (loopsOf u.regs k).depth = l.depth ∧
        (nth 0 (loopsOf u.regs k).count d).toNat = (nth 0 l.count d).toNat - 1) ∧
      (nth 0 l.count d = 1 → (d = 0 ∨ nth 0 l.last (d - 1) ≠ c.pc) → (u.core k).pc = c.pc + 4 ∧ (loopsOf u.regs k).depth = d) ∧
      RegsBut ([Rg.ZCR_CYCLES_LO k, Rg.ZCR_CYCLES_LO k + 4] ++ loopRegs k) s u)

/-- R198, R204, R205 to R207, R209 to R211: exceptions, interrupts and the run bit of a core. An exception leaves registers and memory as they were; at
thread level it is taken at level 1, else the core stops with a fatal fault. The lowest enabled pending input of a level is taken, its bit cleared:
level 0 swaps the bank, level 1 swaps nothing. (Where a handler begins is a free value, log entry 33.) -/
def Obligations.ExceptionsAndInterruptsAreTaken : Prop :=
  (∀ (s : State) (x : Ins), s.issues x.core = true → s.span.busy (coreAgent x.core) = false → (s.core x.core).issuing = [] →
    let k := x.core.val
    let c := s.core k
    (x.illegal = true → ∀ (file : RegFile) (size : Fin 4) (r1 r2 r3 : Fin 32) (m : AMode) (acc : Fin 8) (o : Dual) (form : AccForm) (v : Vop)
        (g : Gop) (cond a : Fin 16) (disp : Int) (opc : BitVec 7) (func : BitVec 6) (n : GImm) (last : Word) (off : Nat),
      ∀ i ∈ [Instr.load x file size r1 m, .store x file size r1 m, .alu x .arith opc func r1 r2 r3, .aluImmediate x .move opc r1 r2 0,
          .compare x opc r1 n, .mac x acc r1 r2 true true 0, .msu x acc r1 r2 false true 0, .cmac x acc r1 r2, .mva x form acc r1,
          .sta x form acc m, .expa x acc r1, .clra x acc, .bexpclr x, .tapm x acc o disp, .ld2 x size r1 r2 o, .ldst x size r1 r2 o,
          .branch x cond disp, .call x cond disp, .ret x, .loop x n last, .lpsave x a, .lprest x a, .rti0 x, .rti1 x, .mfz x r1 off,
          .mtz x r1 off, .ptst x (.file file) r1, .wait x, .sync x, .ciss x r1 a 0 true, .ccmt x r1, .ckil x r1, .ctstE x 0, .ctstT x r1,
          .crkl x r1 r2, .vadds x v, .vgath x g, .vplt x a r1 r2 0, .vlimset x],
        Answers i s (Traps k 0x01 none s)) ∧
    (x.illegal = false → atLoopEnd (loopsOf s.regs k) c.pc = true → ∀ (cond a : Fin 16) (disp : Int) (n : GImm) (last : Word),
      ∀ i ∈ [Instr.branch x cond disp, .call x cond disp, .ret x, .loop x n last, .lprest x a, .rti0 x, .rti1 x],
        Answers i s (Traps k 0x01 none s)) ∧
    (Runs x s →
      (∀ (cond : Fin 16) (disp : Int), 2 < cond.val → Answers (.branch x cond disp) s (Traps k 0x01 none s)) ∧
      (∀ (n : GImm) (last : Word), (loopsOf s.regs k).depth = 4 → Answers (.loop x n last) s fun u =>
        Traps k 0x05 none { s with free := s.free + 1 } u) ∧
      (∀ (file : RegFile) (size : Fin 4) (rd : Fin 32) (m : AMode), regOk file size rd = true →
        (∀ cause, c.ea m (2 ^ size.val) (2 ^ size.val) = .bad cause → (cause = 0x01 ∨ cause = 0x04 ∨ cause = 0x06) ∧
          Answers (.load x file size rd m) s (Traps k cause none s) ∧ Answers (.store x file size rd m) s (Traps k cause none s)) ∧
        (∀ ea new, c.ea m (2 ^ size.val) (2 ^ size.val) = .at ea new →
          (ea.toNat % 2 ^ size.val ≠ 0 → Answers (.load x file size rd m) s (Traps k 0x02 (some ea) s) ∧
            Answers (.store x file size rd m) s (Traps k 0x02 (some ea) s)) ∧
          (∀ b, ea.toNat % 2 ^ size.val = 0 → s.coreBad k ea.toNat (2 ^ size.val) = some b →
            Answers (.load x file size rd m) s (Traps k 0x03 (some (BitVec.ofNat 32 b)) s) ∧
            Answers (.store x file size rd m) s (Traps k 0x03 (some (BitVec.ofNat 32 b)) s)))) ∧
      (∀ (opc : BitVec 7) (func : BitVec 6) (rd rs1 rs2 : Fin 32), (c.reg .g rs1).p = true ∨ (c.reg .g rs2).p = true →
        Answers (.alu x .arith opc func rd rs1 rs2) s fun u => Traps k 0x04 none s u ∧ (u.rd (Rg.PPT_CLUSTER (k / 8))).getLsbD 2 = true))) ∧
  (∀ (s : State) (kk : Fin 144),
    let k := kk.val
    let c := s.core k
    let l := loopsOf s.regs k
    let ready := s.rd (Rg.ZCR_INT_PENDING k) &&& s.rd (Rg.ZCR_INT_ENABLE k)
    let hi := ready &&& s.rd (Rg.ZCR_INT_LEVEL k)
    let lo := ready &&& ~~~ s.rd (Rg.ZCR_INT_LEVEL k)
    let lowest := fun (w : Word) (i : Nat) => w.getLsbD i = true ∧ ∀ j, j < i → w.getLsbD j = false
    let only := fun (r : List Nat) (u : State) => u = { s with regs := u.regs, cores := u.cores, free := s.free + 1 } ∧ RegsBut r s u ∧
      (u.core k).pc.toNat % 4 = 0 ∧ ∀ j, j ≠ k → u.core j = s.core j
    let busy := s.span.busy (coreAgent k)
    let cleared := fun (i : Nat) (u : State) => u.rd (Rg.ZCR_INT_PENDING k) =
      if i = 1 ∧ s.getF (Rg.CPL_LATE_INFO (k / 8) (k % 8)) Fd.CPL_LATE_INFO_valid = 1 then s.rd (Rg.ZCR_INT_PENDING k)
      else s.rd (Rg.ZCR_INT_PENDING k) &&& ~~~ bitW i
    (∀ w : Word, coreRuns s.regs k = false → ∀ i ∈ [Instr.interruptLevel0 ⟨kk, w⟩, .interruptLevel1 ⟨kk, w⟩], Answers i s fun u =>
      u = { s with regs := u.regs } ∧ RegsBut [Rg.ZCR_INT_PENDING k] s u ∧
        u.rd (Rg.ZCR_INT_PENDING k) = s.rd (Rg.ZCR_INT_PENDING k) ||| (w &&& 0x0000FF18#32)) ∧
    ((hi = 0 ∨ coreRuns s.regs k = false ∨ coreLevel s.regs k = 2 ∨ busy = true) → exec (.interruptLevel0 ⟨kk, 0⟩) s = .next s) ∧
    ((lo = 0 ∨ coreRuns s.regs k = false ∨ coreLevel s.regs k ≠ 0 ∨ hi ≠ 0 ∨ busy = true) → exec (.interruptLevel1 ⟨kk, 0⟩) s = .next s) ∧
    (∀ i, lowest hi i → coreRuns s.regs k = true → coreLevel s.regs k ≠ 2 → busy = false → Answers (.interruptLevel0 ⟨kk, 0⟩) s fun u =>
      only ([Rg.ZCR_INT_PENDING k, Rg.ZCR_EPC0 k, Rg.ZCR_ESR0 k, Rg.ZCR_STATUS k] ++ loopRegs k) u ∧ swapped c (u.core k) ∧
        cleared i u ∧ u.rd (Rg.ZCR_EPC0 k) = c.pc ∧
        u.getF (Rg.ZCR_ESR0 k) Fd.ZCR_ESR0_input = i ∧ u.getF (Rg.ZCR_ESR0 k) Fd.ZCR_ESR0_prev_f = b2n (flagF s.regs k) ∧
        u.getF (Rg.ZCR_ESR0 k) Fd.ZCR_ESR0_prev_level = coreLevel s.regs k ∧ coreLevel u.regs k = 2 ∧ flagF u.regs k = flagF s.regs k ∧
        (loopsOf u.regs k).depth = 0 ∧ (u.core k).sloops = l) ∧
    (∀ i, lowest lo i → coreRuns s.regs k = true → coreLevel s.regs k = 0 → hi = 0 → busy = false → Answers (.interruptLevel1 ⟨kk, 0⟩) s fun u =>
      only [Rg.ZCR_INT_PENDING k, Rg.ZCR_EPC1 k, Rg.ZCR_ESR1 k, Rg.ZCR_STATUS k] u ∧
        u.core k = { c with pc := (u.core k).pc, waiting := false } ∧
        cleared i u ∧ u.rd (Rg.ZCR_EPC1 k) = c.pc ∧
        u.getF (Rg.ZCR_ESR1 k) Fd.ZCR_ESR1_input = i ∧ u.getF (Rg.ZCR_ESR1 k) Fd.ZCR_ESR1_prev_f = b2n (flagF s.regs k) ∧
        u.getF (Rg.ZCR_ESR1 k) Fd.ZCR_ESR1_prev_level = 0 ∧ coreLevel u.regs k = 1 ∧ flagF u.regs k = flagF s.regs k) ∧
    (∀ v : Word, Fd.ZCR_CTRL_run.get v = 1 → coreRuns s.regs k = false → Answers (.coreRunStart kk v) s fun u =>
      u = { s with regs := u.regs, cores := u.cores, span := u.span } ∧ RegsBut [Rg.ZCR_CTRL k, Rg.ZCR_ESR1 k, Rg.ZCR_STATUS k] s u ∧
        coreRuns u.regs k = true ∧ u.getF (Rg.ZCR_ESR1 k) Fd.ZCR_ESR1_fatal = 0 ∧ coreLevel u.regs k = 0 ∧
        u.span = s.span.forget (coreAgent k) ∧ u.span.busy (coreAgent k) = false ∧
        u.core k = { c with pc := s.rd (Rg.ZCR_ENTRY k), waiting := false, issuing := [] } ∧ ∀ j, j ≠ k → u.core j = s.core j) ∧
    (∀ v : Word, Fd.ZCR_CTRL_run.get v = 1 → coreRuns s.regs k = true → Answers (.coreRunStart kk v) s fun u =>
      u = { s with regs := u.regs } ∧ RegsBut [] s u) ∧
    (∀ v : Word, Fd.ZCR_CTRL_run.get v = 0 → Answers (.coreRunStop kk v) s fun u =>
      u = { s with regs := u.regs } ∧ RegsBut [Rg.ZCR_CTRL k] s u ∧ coreRuns u.regs k = false) ∧
    (Answers (.coreTimerExpiry kk) s fun u => u = { s with regs := u.regs } ∧ RegsBut [Rg.ZCR_TIMER k, Rg.ZCR_INT_PENDING k] s u ∧
      u.rd (Rg.ZCR_TIMER k) = 0 ∧ u.rd (Rg.ZCR_INT_PENDING k) =
        if s.rd (Rg.ZCR_TIMER k) = 0 then s.rd (Rg.ZCR_INT_PENDING k) else s.rd (Rg.ZCR_INT_PENDING k) ||| bitW 7) ∧
    (∀ v : Word, Answers (.softInterruptSet kk v) s fun u => u = { s with regs := u.regs } ∧ RegsBut [Rg.ZCR_INT_PENDING k] s u ∧
      u.rd (Rg.ZCR_INT_PENDING k) = s.rd (Rg.ZCR_INT_PENDING k) ||| (v &&& 0xFFFF0000#32)))

/-- R216, R217: VPLT sets the elements below a bound, by sums that do not wrap, with F as element 0; VINC adds the number of elements of a vector, which
is VLEN_B (64) over the element width. -/
def Obligations.VectorsStripMine : Prop :=
  ∀ (s : State) (x : Ins) (esz : Fin 4), Runs x s → esz.val < 3 →
    let k := x.core.val
    let c := s.core k
    let n := 64 / 2 ^ esz.val
    (∀ (pd : Fin 16) (gs gt : Fin 32), (c.reg .g gs).p = false → (c.reg .g gt).p = false →
      let below := fun i => decide ((c.reg .g gs).v.toNat + i < (c.reg .g gt).v.toNat)
      Answers (.vplt x pd gs gt esz) s fun u => Done x 4 [Rg.ZCR_VSTART k, Rg.ZCR_STATUS k] s u ∧
        u.core k = { c with pd := (u.core k).pd, pc := (u.core k).pc, waiting := false } ∧
        (pd.val ≠ 0 → ∀ i, i < n → ((u.core k).pred pd).getLsbD i = below i) ∧
        (pd.val ≠ 0 → ∀ i, n ≤ i → ((u.core k).pred pd).getLsbD i = false) ∧
        (∀ j, j ≠ pd.val ∨ j = 0 → (u.core k).pred j = c.pred j) ∧
        u.rd (Rg.ZCR_STATUS k) = Fd.ZCR_STATUS_f.set (s.rd (Rg.ZCR_STATUS k)) (b2n (below 0)) ∧
        u.getF (Rg.ZCR_VSTART k) Fd.ZCR_VSTART_vstart = 0) ∧
    (∀ gd : Fin 32, (c.reg .g gd).p = false → Answers (.vinc x gd esz) s fun u => Done x 4 [Rg.ZCR_VSTART k] s u ∧
      GWritten x gd ⟨(c.reg .g gd).v + BitVec.ofNat 32 n, false⟩ s u ∧ u.getF (Rg.ZCR_VSTART k) Fd.ZCR_VSTART_vstart = 0)

/-- R213 to R215, R218, R219, R222, R225, R226: the vector instructions beside memory. Active elements hold the result, with vsat where one saturates;
inactive ones stand, or read zero without poison under z; moves, VNARR, VWID and permutes carry poison; an active poisoned source raises VPOISON and
changes nothing else; every completion sets VSTART to 0. (What an opc value of the logic, compare, permute, reduction and predicate groups computes is
the model's unnamed function, log entry 21; that VMOVG of an inactive element keeps the register, or zeroes it under z, is its choice, log entry 205.) -/
def Obligations.VectorsCompute : Prop :=
  ∀ (s : State) (x : Ins), Runs x s →
    let k := x.core.val
    let c := s.core k
    let vst := Rg.ZCR_VSTATUS k
    let fin := fun (l : List Nat) (u : State) => Done x 4 (Rg.ZCR_VSTART k :: l) s u ∧ u.getF (Rg.ZCR_VSTART k) Fd.ZCR_VSTART_vstart = 0
    let onlyP := fun (pd : Nat) (u : State) => u.core k = { c with pd := (u.core k).pd, pc := (u.core k).pc, waiting := false } ∧
      ∀ j, j ≠ pd ∨ j = 0 → (u.core k).pred j = c.pred j
    let setsP := fun (pd n : Nat) (f : Nat → Bool) (u : State) => onlyP pd u ∧
      (pd ≠ 0 → (∀ i, i < n → ((u.core k).pred pd).getLsbD i = f i) ∧ ∀ i, n ≤ i → ((u.core k).pred pd).getLsbD i = false)
    let act := fun (pg : Fin 16) (i : Nat) => (c.pred pg).getLsbD i
    let el := fun (vd w n : Nat) (z : Bool) (pg : Fin 16) (f : Nat → Nat) (p : Nat → Bool) (u : State) =>
      u.core k = { c with v := (u.core k).v, pc := (u.core k).pc, waiting := false } ∧ (∀ j, j ≠ vd → (u.core k).vec j = c.vec j) ∧
      ∀ i, i < n → ((u.core k).vec vd).elem w i = (if act pg i then f i else if z then 0 else (c.vec vd).elem w i) ∧
        ((u.core k).vec vd).bad w i = (if act pg i then p i else if z then false else (c.vec vd).bad w i)
    let noP := fun (_ : Nat) => false
    let fits := fun (w : Nat) (r : Int) => decide (satS (8 * w) r = r)
    let flagged := fun (b : Bool) (u : State) => u.rd vst = if b then Fd.ZCR_VSTATUS_vsat.set (s.rd vst) 1 else s.rd vst
    (∀ (o : Vop) (amt : Nat), o.esz.val < 3 →
      let w := 2 ^ o.esz.val
      let n := 64 / w
      let a := fun i => sgn (8 * w) ((c.vec o.vs1).elem w i)
      let b := fun i => sgn (8 * w) ((c.vec o.vs2).elem w i)
      let ua := fun i => (c.vec o.vs1).elem w i
      let ub := fun i => (c.vec o.vs2).elem w i
      let cleanA := ∀ i, i < n → act o.pg i = true → (c.vec o.vs1).bad w i = false
      let cleanB := ∀ i, i < n → act o.pg i = true → (c.vec o.vs2).bad w i = false
      let sats := fun (r : Nat → Int) (u : State) => fin [vst] u ∧ el o.vd w n o.z o.pg (fun i => twos (8 * w) (satS (8 * w) (r i))) noP u ∧
        flagged ((List.range n).any (fun i => act o.pg i && !fits w (r i))) u
      let wraps := fun (r : Nat → Int) (u : State) => fin [] u ∧ el o.vd w n o.z o.pg (fun i => twos (8 * w) (r i)) noP u
      (cleanA → cleanB → Answers (.vadds x o) s (sats (fun i => a i + b i)) ∧ Answers (.vsubs x o) s (sats (fun i => a i - b i)) ∧
        Answers (.vmulhr x o) s (sats (fun i => rndEven (a i * b i) (8 * w - 1))) ∧ Answers (.vadd x o) s (wraps (fun i => a i + b i)) ∧
        Answers (.vsub x o) s (wraps (fun i => a i - b i)) ∧ Answers (.vmul x o) s (wraps (fun i => a i * b i)) ∧
        (∀ opc, Answers (.vectorLogic x opc o) s fun u => fin [] u ∧
          el o.vd w n o.z o.pg (fun i => Config.vlogic opc (8 * w) (ua i) (ub i) % 2 ^ (8 * w)) noP u) ∧
        (∀ opc, o.vd.val < 16 → Answers (.vectorCompare x opc o) s fun u => fin [] u ∧ setsP o.vd n (fun i =>
          if act o.pg i then Config.vcmp opc (8 * w) (ua i) (ub i) else !o.z && (c.pred o.vd).getLsbD i) u)) ∧
      (cleanA → Answers (.vabss x o) s (sats (fun i => (a i).natAbs)) ∧ Answers (.vnegs x o) s (sats (fun i => -a i)) ∧
        (amt < 8 * w → Answers (.vshrr x o amt) s (wraps (fun i => rndEven (a i) amt)) ∧
          Answers (.vshls x o amt) s (sats (fun i => a i * 2 ^ amt))) ∧
        (∀ opc (rd : Fin 32), Answers (.vectorReduction x opc rd o) s fun u => fin [] u ∧ GWritten x rd
          ⟨Config.vreduce opc (8 * w) (((List.range n).filter (fun i => act o.pg i)).map ua), false⟩ s u)) ∧
      (∀ opc, Answers (.vectorPermute x opc o) s fun u => fin [] u ∧
        let src := fun i => Config.vperm opc (8 * w) (c.vec o.vs1).v (c.vec o.vs2).v i % (2 * n)
        el o.vd w n o.z o.pg (fun i => if src i < n then ua (src i) else ub (src i - n))
          (fun i => if src i < n then (c.vec o.vs1).bad w (src i) else (c.vec o.vs2).bad w (src i - n)) u) ∧
      (1 ≤ o.esz.val → amt < 8 * w → Answers (.vnarr x o amt) s fun u => fin [vst] u ∧
        el o.vd (w / 2) n o.z o.pg (fun i => twos (4 * w) (satS (4 * w) (rndEven (a i) amt))) (fun i => (c.vec o.vs1).bad w i) u ∧
        (∀ i, n ≤ i → i < 2 * n → ((u.core k).vec o.vd).elem (w / 2) i = (c.vec o.vd).elem (w / 2) i) ∧
        flagged ((List.range n).any (fun i => act o.pg i && !fits (w / 2) (rndEven (a i) amt))) u) ∧
      (o.esz.val ≤ 1 → Answers (.vwid x o) s fun u => fin [] u ∧
        el o.vd (2 * w) (n / 2) o.z o.pg (fun i => twos (16 * w) (a i)) (fun i => (c.vec o.vs1).bad w i) u) ∧
      (∀ i, i < n → act o.pg i = true → (c.vec o.vs1).bad w i = true →
        (∀ j, j < i → act o.pg j = true → (c.vec o.vs1).bad w j = false ∧ (c.vec o.vs2).bad w j = false) → coreLevel s.regs k = 0 →
        c.issuing = [] →
        ∀ e ∈ [Instr.vadds x o, .vsubs x o, .vabss x o, .vnegs x o, .vmulhr x o, .vadd x o, .vsub x o, .vmul x o], Answers e s fun u =>
          CoreKept x s u ∧ u.mem = s.mem ∧ u.rd (Rg.ZCR_EPC1 k) = c.pc ∧ u.getF (Rg.ZCR_ESR1 k) Fd.ZCR_ESR1_cause = 0x0A ∧
            u.getF vst Fd.ZCR_VSTATUS_fault_elem = i ∧ u.getF (Rg.ZCR_VSTART k) Fd.ZCR_VSTART_vstart = 0 ∧ coreLevel u.regs k = 1 ∧
            (u.rd (Rg.PPT_CLUSTER (k / 8))).getLsbD 2 = true)) ∧
    (∀ (o : Vop) (conj : Bool), o.esz.val = 1 → (∀ i, i < 16 → act o.pg i = true → (c.vec o.vs1).bad 4 i = false ∧ (c.vec o.vs2).bad 4 i = false) →
      let part := fun (v : Nat) (i q : Nat) => sgn 16 ((c.vec v).elem 4 i / 2 ^ (16 * q))
      let bq := fun i => if conj then -(part o.vs2 i 1) else part o.vs2 i 1
      let re := fun i => rndEven (part o.vs1 i 0 * part o.vs2 i 0 - part o.vs1 i 1 * bq i) 15
      let im := fun i => rndEven (part o.vs1 i 0 * bq i + part o.vs1 i 1 * part o.vs2 i 0) 15
      Answers (.vcmulhr x o conj) s fun u => fin [vst] u ∧
        el o.vd 4 16 o.z o.pg (fun i => twos 16 (satS 16 (re i)) + twos 16 (satS 16 (im i)) * 65536) noP u ∧
        flagged ((List.range 16).any (fun i => act o.pg i && !(fits 2 (re i) && fits 2 (im i)))) u) ∧
    (∀ opc (d : PredEsz) (s1 s2 : Fin 16), d.esz.val < 3 → Answers (.predicateLogic x opc d s1 s2) s fun u => fin [] u ∧
      setsP d.p (64 / 2 ^ d.esz.val) (fun i => (Config.plogic opc (c.pred s1) (c.pred s2)).getLsbD i) u) ∧
    (∀ (vd : Fin 32) (src : GImm) (pg : Fin 16) (z : Bool) (esz : Fin 4), esz.val < 3 → Answers (.vdup x vd src pg z esz) s fun u =>
      let w := 2 ^ esz.val
      fin [] u ∧ el vd w (64 / w) z pg (fun _ => (c.gimm src).v.toNat % 2 ^ (8 * w)) (fun _ => (c.gimm src).p) u) ∧
    (∀ (gd vs : Fin 32) (idx : GImm) (o : GovEsz), o.esz.val < 3 → (c.gimm idx).p = false → (c.gimm idx).v.toNat < 64 / 2 ^ o.esz.val →
      let w := 2 ^ o.esz.val
      let j := (c.gimm idx).v.toNat
      (act o.pg j = true → (c.vec vs).bad w j = false → Answers (.vmovg x gd vs idx o) s fun u => fin [] u ∧
        GWritten x gd ⟨((u.core k).reg .g gd).v, false⟩ s u ∧ ((u.core k).reg .g gd).v.toNat % 2 ^ (8 * w) = (c.vec vs).elem w j) ∧
      (act o.pg j = true → (c.vec vs).bad w j = true → coreLevel s.regs k = 0 → c.issuing = [] → Answers (.vmovg x gd vs idx o) s fun u =>
        CoreKept x s u ∧ u.rd (Rg.ZCR_EPC1 k) = c.pc ∧ u.getF (Rg.ZCR_ESR1 k) Fd.ZCR_ESR1_cause = 0x0A ∧
          u.getF vst Fd.ZCR_VSTATUS_fault_elem = j) ∧
      (act o.pg j = false → Answers (.vmovg x gd vs idx o) s fun u => fin [] u ∧
        GWritten x gd (if o.z then ⟨0, false⟩ else c.reg .g gd) s u)) ∧
    (∀ (pd pg : Fin 16) (vs : Fin 32) (esz : Fin 4), esz.val < 3 →
      let w := 2 ^ esz.val
      let n := 64 / w
      let lim := s.getF (Rg.ZCR_VLIM k) Fd.ZCR_VLIM_vlim
      let setF := fun (b : Bool) (u : State) => u.rd (Rg.ZCR_STATUS k) = Fd.ZCR_STATUS_f.set (s.rd (Rg.ZCR_STATUS k)) (b2n b)
      (Answers (.vptst x pd vs pg esz) s fun u => fin [Rg.ZCR_STATUS k] u ∧ setsP pd n (fun i => act pg i && (c.vec vs).bad w i) u ∧
        setF ((List.range n).any (fun i => act pg i && (c.vec vs).bad w i)) u) ∧
      (pd.val ≠ 0 → Answers (.vlimp x pd pg esz) s fun u => fin [Rg.ZCR_STATUS k] u ∧ setsP pd n (fun i => act pg i && decide (i * w < lim)) u ∧
        setF ((List.range n).all (fun i => !act pg i || decide (i * w < lim))) u)) ∧
    (let lim := fun (u : State) => u.getF (Rg.ZCR_VLIM k) Fd.ZCR_VLIM_vlim
     (Answers (.vlimset x) s fun u => fin [Rg.ZCR_VLIM k] u ∧ CoreKept x s u ∧ lim u = 64) ∧
     (∀ gs : Fin 32, (c.reg .g gs).p = false → Answers (.vlimw x gs) s fun u => fin [Rg.ZCR_VLIM k] u ∧ CoreKept x s u ∧
       lim u = min (c.reg .g gs).v.toNat 64) ∧
     (∀ gd : Fin 32, Answers (.vlimr x gd) s fun u => fin [] u ∧ GWritten x gd ⟨BitVec.ofNat 32 (lim s), false⟩ s u))

/-- R220 to R226, R228, R229: vectors and memory. An access without fault moves its active elements from VSTART on, writes the address register and sets
VSTART to 0; inactive elements stand. The first fault leaves the elements from it on, keeps its number in VSTART and raises its exception, or, in
VLDFF behind the first active element, lowers the limit. Predicates move as 8 bytes, saved vectors as 72, of which only the bytes that active elements
reach are accessed; a poisoned one of a predicate raises VPOISON with its element. -/
def Obligations.VectorsReachMemory : Prop :=
  ∀ (s : State) (x : Ins), Runs x s →
    let k := x.core.val
    let c := s.core k
    let t := s.tickCore k
    let vs := s.getF (Rg.ZCR_VSTART k) Fd.ZCR_VSTART_vstart
    let ended := fun (u : State) => u.getF (Rg.ZCR_VSTART k) Fd.ZCR_VSTART_vstart = 0
    let act := fun (pg : Fin 16) (n i : Nat) => i < n ∧ vs ≤ i ∧ (c.pred pg).getLsbD i = true
    let fine := fun (w : Nat) (ea : Word) => ea.toNat % w = 0 ∧ s.coreBad k ea.toNat w = none ∧ Near s k ea.toNat w
    let plain := c.sb = [] ∧ s.mec.merges = [] ∧ s.mec.poison = [] ∧ s.mec.upset = [] ∧ 3 ≤ clusterState s.regs (k / 8) ∧
      ∀ a, inInit s.regs a = false
    let inTile := fun (w : Nat) (ea : Word) => ea.toNat + w ≤ 0x80000
    let datum := fun (w : Nat) (ea : Word) => leNat (Memory.bytes s.mem (tileAddr k ea.toNat) w)
    let kept := fun (vd w : Nat) (stay : Nat → Prop) (u : State) => (∀ j, j ≠ vd → (u.core k).vec j = c.vec j) ∧ (u.core k).g = c.g ∧
      (u.core k).acc = c.acc ∧ (u.core k).pd = c.pd ∧ (s.mec.merges = [] → u.mem = s.mem) ∧
      ∀ i, i < 64 / w → stay i → ((u.core k).vec vd).elem w i = (c.vec vd).elem w i ∧ ((u.core k).vec vd).bad w i = (c.vec vd).bad w i
    let took := fun (cause i : Nat) (ea : Word) (u : State) => u.rd (Rg.ZCR_EPC1 k) = c.pc ∧ coreLevel u.regs k = 1 ∧
      u.getF (Rg.ZCR_ESR1 k) Fd.ZCR_ESR1_cause = cause ∧ u.rd (Rg.ZCR_EADDR k) = ea ∧ u.getF (Rg.ZCR_VSTART k) Fd.ZCR_VSTART_vstart = i
    let faults := fun (w : Nat) (ea : Word) (cause : Nat) => (cause = 0x09 ∧ ea.toNat % w ≠ 0 ∧ c.issuing = []) ∨
      (cause = 0x08 ∧ ea.toNat % w = 0 ∧ s.coreBad k ea.toNat w = some ea.toNat ∧ c.issuing = [])
    let full := fun (sb : List SbEntry) (ea : Word) (bs : List PByte) => sb ++ [(⟨ea, bs⟩ : SbEntry)]
    let reached := fun (ea : Word) (size : Nat) (js : List Nat) => ea.toNat % 8 = 0 ∧
      (if js.length = size then s.coreBad k ea.toNat size = none else ∀ j ∈ js, s.coreBad k (ea.toNat + j) 1 = none) ∧
      Near s k ea.toNat size ∧ ∀ j, j < size → Near s k (ea.toNat + j) 1
    (∀ (vd : Fin 32) (m : AMode) (pg : Fin 16) (esz : Fin 4) (ea new : Word), esz.val < 3 → m.mode.val ≠ 5 →
      let w := 2 ^ esz.val
      let n := 64 / w
      let at_ := fun i => ea + BitVec.ofNat 32 (i * w)
      c.ea m w (if m.mode.val = 4 ∧ (c.reg .w m.a).v ≠ 0 then 1 else 64) = .at ea new → vs < n →
      ((∀ i, act pg n i → fine w (at_ i)) → ∀ e ∈ [Instr.vld x vd m pg esz, .vldff x (.contiguous vd m pg esz)], Answers e s fun u =>
        ended u ∧ (u.core k).pc = c.pc + 4 ∧ (u.core k).reg .a m.a = ⟨new, false⟩ ∧ kept vd w (fun i => ¬ act pg n i) u ∧
          (plain → (∀ i, act pg n i → inTile w (at_ i)) → ∀ i, act pg n i → ((u.core k).vec vd).elem w i = datum w (at_ i) ∧
            ((u.core k).vec vd).bad w i = false)) ∧
      (∀ i cause, act pg n i → faults w (at_ i) cause → (∀ j, j < i → act pg n j → fine w (at_ j)) →
        (coreLevel s.regs k = 0 → Answers (.vld x vd m pg esz) s fun u => took cause i (at_ i) u ∧
          kept vd w (fun j => ¬ act pg n j ∨ i ≤ j) u ∧ (u.core k).a = c.a) ∧
        ((∃ j, j < i ∧ act pg n j) → Answers (.vldff x (.contiguous vd m pg esz)) s fun u => ended u ∧ (u.core k).pc = c.pc + 4 ∧
          kept vd w (fun j => ¬ act pg n j ∨ i ≤ j) u ∧ u.getF (Rg.ZCR_VLIM k) Fd.ZCR_VLIM_vlim =
            min (s.getF (Rg.ZCR_VLIM k) Fd.ZCR_VLIM_vlim) (i * w))) ∧
      ((∀ i, act pg n i → fine w (at_ i)) → Answers (.vst x vd m pg esz) s fun u => ended u ∧ (u.core k).reg .a m.a = ⟨new, false⟩ ∧
        ((∀ i, act pg n i → inTile w (at_ i)) → (u.core k).pc = c.pc + 4 ∧ (u.core k).v = c.v ∧ (u.core k).g = c.g ∧ (u.core k).acc = c.acc ∧
          (pg = 0 → vs = 0 → ea.toNat % 64 = 0 → c.sb.length < 8 → u.mem = s.mem ∧ (u.core k).sb = full c.sb ea
            ((List.range n).flatMap (fun i => (leBytes w ((c.vec vd).elem w i)).map (fun b => (⟨b, (c.vec vd).bad w i⟩ : PByte)))))))) ∧
    (∀ (o : Gop), o.esz.val < 3 → (c.reg .a o.a).p = false → vs < 16 → (∀ i, act o.pg 16 i → (c.vec o.vi).bad 4 i = false) →
      let w := 2 ^ o.esz.val
      let at_ := fun i => (c.reg .a o.a).v + (BitVec.ofNat 32 ((c.vec o.vi).elem 4 i) <<< o.sh.val)
      ((∀ i, act o.pg 16 i → fine w (at_ i)) → ∀ e ∈ [Instr.vgath x o, .vldff x (.gather o)], Answers e s fun u =>
        ended u ∧ (u.core k).pc = c.pc + 4 ∧ (u.core k).a = c.a ∧ kept o.vd 4 (fun i => ¬ act o.pg 16 i) u ∧
          (plain → (∀ i, act o.pg 16 i → inTile w (at_ i)) → ∀ i, act o.pg 16 i → ((u.core k).vec o.vd).elem 4 i =
            (if o.sx then datum w (at_ i) else twos 32 (sgn (8 * w) (datum w (at_ i)))) ∧ ((u.core k).vec o.vd).bad 4 i = false)) ∧
      (∀ i cause, act o.pg 16 i → faults w (at_ i) cause → (∀ j, j < i → act o.pg 16 j → fine w (at_ j)) →
        (coreLevel s.regs k = 0 → Answers (.vgath x o) s fun u => took cause i (at_ i) u ∧ kept o.vd 4 (fun j => ¬ act o.pg 16 j ∨ i ≤ j) u) ∧
        ((∃ j, j < i ∧ act o.pg 16 j) → Answers (.vldff x (.gather o)) s fun u => ended u ∧ (u.core k).pc = c.pc + 4 ∧
          kept o.vd 4 (fun j => ¬ act o.pg 16 j ∨ i ≤ j) u ∧ u.getF (Rg.ZCR_VLIM k) Fd.ZCR_VLIM_vlim =
            min (s.getF (Rg.ZCR_VLIM k) Fd.ZCR_VLIM_vlim) (i * 4))) ∧
      ((∀ i, act o.pg 16 i → fine w (at_ i)) → Answers (.vscat x o) s fun u => ended u ∧
        ((∀ i, act o.pg 16 i → inTile w (at_ i)) → (u.core k).pc = c.pc + 4 ∧ (u.core k).v = c.v ∧ (u.core k).g = c.g ∧ (u.core k).a = c.a ∧
          ∀ i, (∀ j, act o.pg 16 j ↔ j = i) → c.sb.length < 8 → u.mem = s.mem ∧ (u.core k).sb = full c.sb (at_ i)
            ((leBytes w ((c.vec o.vd).elem 4 i)).map (fun b => (⟨b, (c.vec o.vd).bad 4 i⟩ : PByte)))))) ∧
    (∀ (pd pg : Fin 16) (esz : Fin 4) (m : AMode), esz.val < 3 →
      let n := 64 / 2 ^ esz.val
      let on := fun (i : Nat) => decide (i < n) && (c.pred pg).getLsbD i
      let js := predBytes n (c.actives pg n)
      let jv := recordBytes (2 ^ esz.val) (c.actives pg n)
      (∀ j, j ∈ js ↔ j < 8 ∧ ((∀ i, i < n → on i = true) ∨ ∃ i, on i = true ∧ i / 8 = j)) ∧
      let stands := fun (u : State) => ended u ∧ (u.core k).pc = c.pc + 4 ∧ CoreKept x s u ∧ u.mem = s.mem
      ((∀ i, i < n → on i = false) → ∀ (v : Fin 32) (a : Fin 16),
        ∀ e ∈ [Instr.vldp x pd ⟨m, pg, esz⟩, .vstp x pd ⟨m, pg, esz⟩, .vldx x v ⟨a, pg, esz⟩, .vstx x v ⟨a, pg, esz⟩],
          Answers e s stands) ∧
      ((∃ i, i < n ∧ on i = true) →
        (∀ ea new, c.ea m 8 8 = .at ea new → reached ea 8 js →
          let bs := (t.readRecord k ea.toNat 8 js).1
          (∀ i, on i = true → (nth ⟨0, false⟩ bs (i / 8)).p = true → (∀ j, j < i → on j = true → (nth ⟨0, false⟩ bs (j / 8)).p = false) →
            coreLevel s.regs k = 0 → c.issuing = [] → Answers (.vldp x pd ⟨m, pg, esz⟩) s fun u => u.rd (Rg.ZCR_EPC1 k) = c.pc ∧
              u.getF (Rg.ZCR_ESR1 k) Fd.ZCR_ESR1_cause = 0x0A ∧ u.getF (Rg.ZCR_VSTATUS k) Fd.ZCR_VSTATUS_fault_elem = i ∧
              (u.core k).pd = c.pd ∧ (u.core k).a = c.a) ∧
          ((∀ i, on i = true → (nth ⟨0, false⟩ bs (i / 8)).p = false) → Answers (.vldp x pd ⟨m, pg, esz⟩) s fun u => ended u ∧
            (u.core k).pc = c.pc + 4 ∧
            (u.core k).reg .a m.a = ⟨new, false⟩ ∧
            (pd.val ≠ 0 → ∀ i, i < 64 → ((u.core k).pred pd).getLsbD i = if on i then (leNat (vals bs)).testBit i
              else decide (i < n) && (c.pred pd).getLsbD i) ∧
            (∀ j, j ≠ pd.val ∨ j = 0 → (u.core k).pred j = c.pred j) ∧
            (u.core k).v = c.v ∧ (u.core k).g = c.g ∧ (s.mec.merges = [] → u.mem = s.mem)) ∧
          (Answers (.vstp x pd ⟨m, pg, esz⟩) s fun u => ended u ∧ (u.core k).reg .a m.a = ⟨new, false⟩ ∧
            (inTile 8 ea → c.sb.length < 8 → (∀ i, i < n → on i = true) → (u.core k).pc = c.pc + 4 ∧ u.mem = s.mem ∧
              u.core k = { c.post m.a new with sb := full c.sb ea (clean (leBytes 8 (c.pred pd).toNat))
                                               pc := (u.core k).pc
                                               waiting := false }) ∧
            (∀ i, inTile 8 ea → c.sb.length < 8 → (∀ j, on j = true ↔ j = i) → (u.core k).pc = c.pc + 4 ∧ u.mem = s.mem ∧
              u.core k = { c.post m.a new with
                           sb := full c.sb (ea + BitVec.ofNat 32 (i / 8)) [⟨BitVec.ofNat 8 ((c.pred pd).toNat / 2 ^ (8 * (i / 8))), false⟩]
                           pc := (u.core k).pc
                           waiting := false }))) ∧
        (∀ (v : Fin 32) (a : Fin 16) (ea : Word), c.reg .a a = ⟨ea, false⟩ → reached ea 72 jv →
          let r := t.readRecord k ea.toNat 72 jv
          let d := BitVec.ofNat 512 (leNat ((vals r.1).take 64))
          let q := BitVec.ofNat 64 (leNat ((vals r.1).drop 64))
          (Answers (.vldx x v ⟨a, pg, esz⟩) s fun u => ended u ∧ (u.core k).pc = c.pc + 4 ∧
            (∀ b, b < 512 → ((u.core k).vec v).v.getLsbD b = if on (b / (8 * 2 ^ esz.val)) then d.getLsbD b else (c.vec v).v.getLsbD b) ∧
            (∀ b, b < 64 → ((u.core k).vec v).p.getLsbD b = if on (b / 2 ^ esz.val) then q.getLsbD b else (c.vec v).p.getLsbD b) ∧
            (∀ j, j ≠ v.val → (u.core k).vec j = c.vec j) ∧ (u.core k).g = c.g ∧ (u.core k).a = c.a ∧ (s.mec.merges = [] → u.mem = s.mem)) ∧
          (Answers (.vstx x v ⟨a, pg, esz⟩) s fun u => ended u ∧
            ((∀ i, i < n → on i = true) → inTile 72 ea → c.sb.length < 8 → (u.core k).pc = c.pc + 4 ∧ u.mem = s.mem ∧
              u.core k = { c with sb := full c.sb ea (clean (leBytes 64 (c.vec v).v.toNat ++ leBytes 8 (c.vec v).p.toNat))
                                  pc := (u.core k).pc
                                  waiting := false })))))

/-- R231 to R238, R241: Cupola. An accepted CISS takes the oldest free tag, counts its sequence, queues the descriptor with the tag in byte 1 and sets F
and the handle; a refused one clears F and counts. A token commits a tag that is ISSUED and not held, CCMT one that is held; CKIL frees a tag that is
ISSUED, or COMMITTED in a paired decode; what does not apply is ignored and counted; the tests only set F. A CISS is sent ahead of the end of an older
instruction that waits for another device (the model's choice, log entry 205): its token goes out only when that one has completed, and an exception
of it kills the command and puts register and F back. -/
def Obligations.CommandsAreIssuedAndKilled : Prop :=
  (∀ (s : State) (x : Ins), Runs x s →
    let k := x.core.val
    let cl := k / 8
    let c := s.core k
    let t := s.tickCore k
    let p := s.cup cl
    let st := Rg.ZCR_STATUS k
    let cyc := [Rg.ZCR_CYCLES_LO k, Rg.ZCR_CYCLES_LO k + 4]
    let only := fun (l : List Nat) (u : State) => Next x 4 s u ∧ QuietBut (cyc ++ l) s u ∧ u.mem = s.mem ∧ u.drum = s.drum ∧
      (∀ j, j ≠ cl → u.cup j = s.cup j)
    let setF := fun (b : Bool) (u : State) => u.rd st = Fd.ZCR_STATUS_f.set (s.rd st) (b2n b)
    let cup := fun (q : Cupola) (u : State) => u.cup cl = q ∧ u.getF (Rg.CPL_TAGS cl) Fd.CPL_TAGS_free = q.freeTags.length % 512
    let accepts := fun (e : Nat) => (p.queue e).length < engDepth e ∧ p.inUse false < 256 - remoteReserve s.regs cl
    (∀ (r1 : Fin 32) (a : Fin 16) (eng : Fin 4) (h : Bool) (ea : Word),
      let n := descSize eng
      let bs := t.coreBytes k ea.toNat n
      c.reg .a a = ⟨ea, false⟩ →
      (eng.val = 3 → c.issuing = [] → Answers (.ciss x r1 a eng h) s (Traps k 0x01 none s)) ∧
      (eng.val ≠ 3 → c.issuing = [] → ea.toNat % 32 ≠ 0 → Answers (.ciss x r1 a eng h) s (Traps k 0x02 (some ea) s)) ∧
      (eng.val ≠ 3 → c.issuing = [] → ea.toNat % 32 = 0 → descPlace ea.toNat n = false → Answers (.ciss x r1 a eng h) s (Traps k 0x03 (some ea) s)) ∧
      (eng.val ≠ 3 → ea.toNat % 32 = 0 → descPlace ea.toNat n = true → s.coreBad k ea.toNat n = none → anyP bs = false →
        (∀ tag rest, accepts eng → p.freeTags = tag :: rest → Answers (.ciss x r1 a eng h) s fun u => (u.core k).pc = c.pc + 4 ∧
          (u.core k).reg .g r1 = ⟨tagHandle tag ((p.tag tag).seq + 1), false⟩ ∧ (∀ i, i ≠ r1.val → (u.core k).reg .g i = c.reg .g i) ∧
          (u.core k).issuing = c.issuing ∧
          flagF u.regs k = true ∧ (u.cup cl).queue eng = p.queue eng ++ [tag] ∧ (∀ j, j ≠ eng.val → j < 3 → (u.cup cl).queue j = p.queue j) ∧
          (u.cup cl).freeTags = rest.filter (· != tag) ∧ (∀ j, j ≠ tag → (u.cup cl).tag j = p.tag j) ∧
          (u.cup cl).tag tag = { state := .issued
                                 seq := (p.tag tag).seq + 1
                                 eng := eng
                                 owner := k % 8
                                 held := h
                                 desc := (vals bs).set 1 (BitVec.ofNat 8 tag)
                                 reading := false
                                 result := none
                                 late := []
                                 reply := none } ∧
          (s.mec.merges = [] → u.mem = s.mem) ∧ u.drum = s.drum) ∧
        (¬ (accepts eng ∧ p.freeTags ≠ []) → Answers (.ciss x r1 a eng h) s fun u => (u.core k).pc = c.pc + 4 ∧ flagF u.regs k = false ∧
          (u.core k).g = c.g ∧ u.cpl = s.cpl ∧ CountedBy (Rg.CPL_REFUSED cl) 1 s u ∧ (s.mec.merges = [] → u.mem = s.mem)))) ∧
    (∀ (r : Fin 32) (h : Word), c.reg .g r = ⟨h, false⟩ →
      let tag := h.toNat % 256
      let g := p.tag tag
      let mine := g.seq.toNat = h.toNat / 256 % 256
      (mine → g.state = .issued → g.held = true → Answers (.ccmt x r) s fun u => only [Rg.CPL_TAGS cl] u ∧ CoreKept x s u ∧
        cup (p.setTag tag { g with state := .committed, held := false }) u) ∧
      (¬ (mine ∧ g.state = .issued ∧ g.held = true) → Answers (.ccmt x r) s fun u => only [Rg.CPL_KILLS_IGNORED cl] u ∧ CoreKept x s u ∧
        u.cpl = s.cpl ∧ CountedBy (Rg.CPL_KILLS_IGNORED cl) 1 s u) ∧
      (mine → (g.state = .issued ∨ (g.state = .committed ∧ pairedDesc g.eng g.desc = true)) → Answers (.ckil x r) s fun u =>
        only [Rg.CPL_TAGS cl, Rg.CPL_KILLS cl] u ∧ CoreKept x s u ∧ CountedBy (Rg.CPL_KILLS cl) 1 s u ∧
          ((u.cup cl).tag tag).state = .free ∧ ((u.cup cl).tag tag).seq = g.seq ∧ (u.cup cl).freeTags = p.freeTags.filter (· != tag) ++ [tag] ∧
          (∀ e, e < 3 → (u.cup cl).queue e = (p.queue e).filter (· != tag)) ∧ ∀ j, j ≠ tag → (u.cup cl).tag j = p.tag j) ∧
      (¬ (mine ∧ (g.state = .issued ∨ (g.state = .committed ∧ pairedDesc g.eng g.desc = true))) → Answers (.ckil x r) s fun u =>
        only [Rg.CPL_KILLS_IGNORED cl] u ∧ CoreKept x s u ∧ u.cpl = s.cpl ∧ CountedBy (Rg.CPL_KILLS_IGNORED cl) 1 s u) ∧
      (Answers (.ctstT x r) s fun u => Done x 4 [st] s u ∧ CoreKept x s u ∧
        setF (decide (g.state = .returned ∨ g.state = .free ∨ ¬ mine)) u)) ∧
    (∀ e : Fin 4, e.val ≠ 3 → Answers (.ctstE x e) s fun u => Done x 4 [st] s u ∧ CoreKept x s u ∧
      setF (decide (accepts e ∧ p.freeTags ≠ [])) u) ∧
    (∀ (r1 r2 : Fin 32) (a item : Word), c.reg .g r1 = ⟨a, false⟩ → c.reg .g r2 = ⟨item, false⟩ →
      let d := a.toNat % 32
      (18 ≤ d → Answers (.crkl x r1 r2) s fun u => Done x 4 [] s u ∧ CoreKept x s u) ∧
      (d < 18 → Answers (.crkl x r1 r2) s fun u => (u.core k).pc = c.pc + 4 ∧ u.core k = { c with pc := c.pc + 4, waiting := false } ∧
        ((s.queue d).valid = true → (∀ o ∈ s.qm.ops, o.q ≠ d) → (u.queue d).fill = ((s.queued d).filter (fun e => !entryOf item.toNat e)).length) ∧
        (∀ tag, tag < 256 → ((s.cup d).tag tag).state = .issued → le ((s.cup d).tag tag).desc 4 4 = item.toNat → ((u.cup d).tag tag).state = .free) ∧
        (∀ tag, le ((s.cup d).tag tag).desc 4 4 ≠ item.toNat → (u.cup d).tag tag = (s.cup d).tag tag) ∧ u.drum = s.drum))) ∧
  (∀ (s : State) (c : Fin 18) (tag : Fin 256),
    let g := (s.cup c).tag tag
    let retired := ∀ i ∈ (s.core (8 * c.val + g.owner)).issuing, handleTag i.handle ≠ tag
    (g.state = .issued → g.held = false → retired → Answers (.commitToken c tag) s fun u =>
      u.cup c = (s.cup c).setTag tag { g with state := .committed } ∧ RegsBut [Rg.CPL_TAGS c] s u ∧ (∀ j, j ≠ c.val → u.cup j = s.cup j) ∧
        u = { s with regs := u.regs, cpl := u.cpl }) ∧
    (g.state ≠ .issued ∨ g.held = true ∨ ¬ retired → exec (.commitToken c tag) s = .next s)) ∧
  (∀ (s : State) (x : Ins) (r1 : Fin 32) (a : Fin 16) (eng : Fin 4) (h : Bool) (ea : Word), s.issues x.core = true → x.illegal = false →
    s.span.busy (coreAgent x.core) = true →
    let k := x.core.val
    let cl := k / 8
    let c := s.core k
    let p := s.cup cl
    let n := descSize eng
    let bs := (s.tickCore k).coreBytes k ea.toNat n
    let accepts := (p.queue eng).length < engDepth eng ∧ p.inUse false < 256 - remoteReserve s.regs cl
    (∀ tag rest, accepts → p.freeTags = tag :: rest → eng.val ≠ 3 → c.reg .a a = ⟨ea, false⟩ → ea.toNat % 32 = 0 →
      descPlace ea.toNat n = true → s.coreBad k ea.toNat n = none → anyP bs = false → Answers (.ciss x r1 a eng h) s fun u =>
        (u.core k).pc = c.pc ∧ (u.core k).reg .g r1 = ⟨tagHandle tag ((p.tag tag).seq + 1), false⟩ ∧
        (∀ i, i ≠ r1.val → (u.core k).reg .g i = c.reg .g i) ∧ flagF u.regs k = true ∧ ((u.cup cl).tag tag).state = .issued ∧
        (u.core k).issuing = c.issuing ++ [⟨tagHandle tag ((p.tag tag).seq + 1), r1, c.reg .g r1, flagF s.regs k⟩] ∧
        (((u.cup cl).tag tag).owner < 8 → ∀ ch : Fin 18, ch.val = cl → ∀ tf : Fin 256, tf.val = tag → exec (.commitToken ch tf) u = .next u)) ∧
    (¬ (accepts ∧ p.freeTags ≠ []) → exec (.ciss x r1 a eng h) s = .next s)) ∧
  (∀ (s : State) (x : Ins) (file : RegFile) (rd : Fin 32) (m : AMode) (ea new : Word) (dev a d l : Nat) (i : Issuing),
    s.issues x.core = true → x.illegal = false → s.span.outstanding (coreAgent x.core) = false →
    let k := x.core.val
    let c := s.core k
    let p := s.cup (k / 8)
    let tag := handleTag i.handle
    regOk file 2 rd = true → (c.setReg .g i.r1 i.old).ea m 4 4 = .at ea new → ea.toNat % 4 = 0 → coreTarget s.regs k ea.toNat = .dev dev →
    placeOf s.regs dev = .there d l a → c.issuing = [i] → i.r1 < 32 → c.reg .g i.r1 = ⟨i.handle, false⟩ →
    s.span.answers = [⟨coreAgent k, d, a, 4, false, [], none⟩] → (p.tag tag).state = .issued → (p.tag tag).seq = handleSeq i.handle →
    coreLevel s.regs k = 0 → Answers (.load x file 2 rd m) s fun u =>
      (u.core k).reg .g i.r1 = i.old ∧ (∀ j, j ≠ i.r1 → (u.core k).reg .g j = c.reg .g j) ∧ (u.core k).issuing = [] ∧
        ((u.cup (k / 8)).tag tag).state = .free ∧ flagF u.regs k = i.oldF ∧ coreLevel u.regs k = 1 ∧
        u.rd (Rg.ZCR_EPC1 k) = c.pc ∧ u.getF (Rg.ZCR_ESR1 k) Fd.ZCR_ESR1_cause = 0x03)

/-- R180, R181, R238, R240, R407: Cupola takes the oldest entry of its system queue while the cluster runs and has room for it, commits its command at
once under a tag of its own, or kills by item; an entry wakes a cluster in Nap. A disagreement at core 0 stops that core, kills its issued commands
and fails the cluster; an activated spare runs, and a failed activation sets cause 5; a drained retired cluster is reset and held. -/
def Obligations.SystemQueuesAndSpares : Prop :=
  (∀ (s : State) (c : Fin 18),
    (s.queued c = [] → exec (.systemQueueTake c) s = .next s) ∧
    (s.queued c ≠ [] → clusterState s.regs c ≠ 4 → Answers (.systemQueueTake c) s fun u => u.cpl = s.cpl ∧ u.qm = s.qm ∧ u.mem = s.mem ∧
      u.cores = s.cores ∧ (clusterState s.regs c = 3 → (2 + c.val) ∉ s.pwr.quiesce → (2 + c.val) ∈ u.pwr.exiting)) ∧
    (∀ e rest, s.queued c = e :: rest → clusterState s.regs c = 4 → s.canTake c e = false → exec (.systemQueueTake c) s = .next s) ∧
    (∀ e rest, s.queued c = e :: rest → clusterState s.regs c = 4 → s.canTake c e = true →
      let r := s.qx.dequeue (cplAgent c) c
      let b := vals e
      r.2.1 = 0 → r.2.2 = e → Answers (.systemQueueTake c) s fun u => u.drum = s.drum ∧ u.cores = s.cores ∧
        ((anyP e = true ∨ 1 < le b 0 1) → u.cpl = s.cpl) ∧
        (anyP e = false → le b 0 1 = 0 → 1 ≤ le b 1 1 → le b 1 1 ≤ 3 → ∀ tag tags, (s.cup c).freeTags = tag :: tags →
          ((u.cup c).tag tag).state = .committed ∧ ((u.cup c).tag tag).owner = 8 ∧ ((u.cup c).tag tag).eng = le b 1 1 - 1 ∧
            ((u.cup c).tag tag).seq = ((s.cup c).tag tag).seq + 1 ∧ ((u.cup c).tag tag).reply = some (le b 4 4 % 2 ^ 20) ∧
            ((u.cup c).tag tag).desc = ((b.drop 32).take (descSize (le b 1 1 - 1))).set 1 (BitVec.ofNat 8 tag) ∧
            (u.cup c).queue (le b 1 1 - 1) = (s.cup c).queue (le b 1 1 - 1) ++ [tag] ∧ ∀ j, j ≠ tag → (u.cup c).tag j = (s.cup c).tag j) ∧
        (anyP e = false → le b 0 1 = 1 → ∀ tag, (tag < 256 → ((s.cup c).tag tag).state = .issued → le ((s.cup c).tag tag).desc 4 4 = le b 8 4 →
          ((u.cup c).tag tag).state = .free) ∧
          (le ((s.cup c).tag tag).desc 4 4 ≠ le b 8 4 → (u.cup c).tag tag = (s.cup c).tag tag)))) ∧
  (∀ (s : State) (c : Fin 18), Answers (.core0LockstepDisagree c) s fun u =>
    coreRuns u.regs (8 * c) = false ∧ (u.rd (Rg.PPT_CLUSTER c)).getLsbD 3 = true ∧
      (∀ tag, tag < 256 → ((u.cup c).tag tag).state = .issued → ((u.cup c).tag tag).owner ≠ 0) ∧
      (∀ tag, ((s.cup c).tag tag).state = .committed → (u.cup c).tag tag = (s.cup c).tag tag) ∧ (∀ j, j ≠ c.val → u.cup j = s.cup j) ∧
      (role s.regs c = 0 → (∀ f ∈ s.ppt.failing, f.cluster ≠ c.val) → (u.rd (Rg.EVT_STATUS 1)).getLsbD 0 = true ∧
        (∃ f ∈ u.ppt.failing, f.cluster = c.val ∧ f.spare = lowestSpare s.regs) ∧ ∀ k, lowestSpare s.regs = some k → role u.regs k = 2) ∧
      u.mem = s.mem ∧ u.drum = s.drum ∧ u.cores = s.cores ∧ u.qm = s.qm ∧ u.dma = s.dma) ∧
  (∀ (s : State) (c : Fin 18) (pass : Bool), role s.regs c ≠ 2 ∨ (∃ f ∈ s.ppt.failing, f.waiting = true ∧ f.cluster = c.val) →
    exec (.spareActivationDone c pass) s = .next s) ∧
  (∀ (s : State) (c : Fin 18), role s.regs c = 2 → (∀ f ∈ s.ppt.failing, f.cluster ≠ c.val) →
    let takes := s.ppt.failing.any (fun f => f.spare == some c.val)
    (Answers (.spareActivationDone c true) s fun u => clusterState u.regs c = 4 ∧ role u.regs c = (if takes then 2 else 0) ∧
      u.ppt.ready = (if takes then s.ppt.ready ++ [c.val] else s.ppt.ready) ∧ u.drum = s.drum ∧ u.qm = s.qm ∧
      (s.mec.merges = [] → ∀ a, a < tileBase c ∨ tileBase (c + 1) ≤ a → Memory.byte u.mem a = Memory.byte s.mem a)) ∧
    (Answers (.spareActivationDone c false) s fun u => (u.rd (Rg.PPT_CLUSTER c)).getLsbD 5 = true ∧ (u.rd (Rg.EVT_STATUS 1)).getLsbD 0 = true ∧
      role u.regs c = 2 ∧ (∃ f ∈ u.ppt.failing, f.cluster = c.val ∧ f.waiting = takes) ∧ (∀ f ∈ u.ppt.failing, f.spare ≠ some c.val) ∧
      (∀ k, lowestSpare s.regs = some k → role u.regs k = 2) ∧ u.mem = s.mem ∧ u.drum = s.drum ∧ u.cores = s.cores ∧ u.qm = s.qm)) ∧
  (∀ (s : State) (c : Fin 18),
    (role s.regs c ≠ 3 → exec (.retiredClusterDrained c) s = .next s) ∧
    (role s.regs c = 3 → (0x2000 + c.val) ∉ s.boot.resetUnits → Answers (.retiredClusterDrained c) s fun u =>
      u.boot.resetUnits = (0x2000 + c.val) :: s.boot.resetUnits ∧ (∀ j, j < 8 → u.core (8 * c + j) = Core.reset) ∧
        (∀ a, tileBase c ≤ a → a < tileBase (c + 1) → Memory.byte u.mem a = 0) ∧
        (∀ a, a < tileBase c ∨ tileBase (c + 1) ≤ a → Memory.byte u.mem a = Memory.byte s.mem a) ∧ u.ppt = s.ppt ∧ u.qm = s.qm ∧
        u.drum = { s.drum with items := u.drum.items } ∧
        u.drum.items = s.drum.items.map (fun i => { i with done := i.done || (i.cluster == c.val && i.phase != .admitted) })))

/-- R284, R290, R292, R295, R299 to R304: links train, lose lanes and heal. Training ends, when the peer sends UP too, with the aligned lanes in use, at
width 4 (UP) or 3 (DEGRADED), or DOWN with its event; a peer in TRAIN trains this end; a lane that loses lock is marked out, reported and nacked, and the
period in progress discarded; a reported lane moves to the spare, or the link to width 3, or DOWN; a returned lane restores width 4 or is the spare. An ack
frees periods, a nack asks for their replay. A changed width asks for a new plan. An eye scan runs once at a time, on a lane that is locked, and ends with
its records written. (What writes of enable train, and what STATUS shows in training, are the model's reading, log entry 131.) -/
def Obligations.LinksTrainAndHeal : Prop :=
  ∀ (s : State) (ll : Fin 4),
    let l := ll.val
    let k := s.span.link l
    let sta := Rg.SPN_LINK_STATUS l
    let ctl := Rg.SPN_LINK_CTRL l
    let lanes := (List.range 5).map (fun p => Rg.SPN_LANE_STATUS l p)
    let only := fun (r : List Nat) (u : State) => u = { s with
        regs := u.regs
        out := u.out
        host := u.host
        wtr := u.wtr
        span := u.span
        drum := { s.drum with
          replan := s.drum.replan || u.getF sta Fd.SPN_LINK_STATUS_width != s.getF sta Fd.SPN_LINK_STATUS_width } } ∧
      QuietBut r s u ∧ (∀ j, j ≠ l → u.span.link j = s.span.link j) ∧ u.span.reqs = s.span.reqs ∧ u.span.nextTag = s.span.nextTag
    let width := fun (st w : Nat) (u : State) => linkState u.regs l = st ∧ u.getF sta Fd.SPN_LINK_STATUS_width = w
    let lane := fun (p : Nat) (f : Fld) (u : State) => u.getF (Rg.SPN_LANE_STATUS l p) f
    let raised := fun (b : Nat) (u : State) => (u.rd (Rg.EVT_STATUS 7)).getLsbD (4 * l + b) = true
    let powers := fun (r : List Nat) (u : State) => only (Rg.PWR_DOM 24 :: Rg.PWR_SUPERSEDED :: r) { u with pwr := s.pwr }
    let trains := fun (u : State) => powers [ctl, sta] u ∧ width 0 0 u ∧ u.getF sta Fd.SPN_LINK_STATUS_out_a = 7 ∧
      u.getF sta Fd.SPN_LINK_STATUS_out_b = 7 ∧ u.getF ctl Fd.SPN_LINK_CTRL_enable = 1 ∧
      u.span.link l = { Link.reset with training := true, txPkts := k.txPkts }
    let isOn := linkState s.regs l = 1 ∨ linkState s.regs l = 2
    let rests := linkState s.regs l = 3 ∧ k.training = false
    let ends := fun (al : BitVec 5) (i : Instr) =>
      let n := ((List.range 5).filter (fun p => al.getLsbD p)).length
      Answers i s fun u => only (sta :: lanes) u ∧ (u.span.link l).training = false ∧
        (∀ p, p < 5 → lane p Fd.SPN_LANE_STATUS_retired u = b2n (!al.getLsbD p) ∧ lane p Fd.SPN_LANE_STATUS_out u = b2n (!al.getLsbD p) ∧
          lane p Fd.SPN_LANE_STATUS_locked u = b2n (al.getLsbD p) ∧ lane p Fd.SPN_LANE_STATUS_aligned u = b2n (al.getLsbD p)) ∧
        (n < 3 → width 3 0 u ∧ raised 0 u) ∧
        (n = 3 → width 2 3 u ∧ (u.span.link l).lanes = (List.range 5).filter (fun p => al.getLsbD p) ∧ (u.span.link l).spare = none) ∧
        (n = 4 → width 1 4 u ∧ (u.span.link l).spare = none ∧ ∀ q, q < 4 → nth 9 (u.span.link l).lanes q = if al.getLsbD q then q else 4) ∧
        (n = 5 → width 1 4 u ∧ (u.span.link l).spare = some 4 ∧ (u.span.link l).lanes = [0, 1, 2, 3])
    let peerIsUp := fun (st : Nat) => st = 1 ∨ st = 2
    (∀ v : Word, Fd.SPN_LINK_CTRL_enable.get v = 1 →
      ((s.getF ctl Fd.SPN_LINK_CTRL_enable = 0 ∨ Fd.SPN_LINK_CTRL_retrain.get v = 1 ∨ rests) → Answers (.linkEnable ll v) s trains) ∧
      (s.getF ctl Fd.SPN_LINK_CTRL_enable = 1 → Fd.SPN_LINK_CTRL_retrain.get v = 0 → ¬ rests → Answers (.linkEnable ll v) s fun u =>
        powers [ctl] u ∧ u.span = s.span) ∧
      (Fd.SPN_LINK_CTRL_retrain.get v = 1 → Answers (.linkRetrain ll v) s trains)) ∧
    (∀ v : Word, Fd.SPN_LINK_CTRL_enable.get v = 0 → Answers (.linkDisable ll v) s fun u => powers [ctl, sta] u ∧ width 3 0 u ∧
      u.getF ctl Fd.SPN_LINK_CTRL_enable = 0 ∧ u.span.link l = Link.reset) ∧
    (k.training = false → exec (.linkTrainingTimeout ll) s = .next s ∧ ∀ a sk pl pi, exec (.linkTrainingEnd ll a sk pl pi) s = .next s) ∧
    (k.training = true → Answers (.linkTrainingTimeout ll) s fun u => only [sta] u ∧ width 3 0 u ∧ raised 0 u ∧
      u.span.link l = { k with training := false }) ∧
    (∀ (al : BitVec 5) (sk : List Nat) (pl pi : Nat), k.training = true →
      let n := ((List.range 5).filter (fun p => al.getLsbD p)).length
      (peerIsUp k.peerState ∨ n < 3 → ends al (.linkTrainingEnd ll al sk pl pi)) ∧
      (¬ peerIsUp k.peerState → 3 ≤ n → Answers (.linkTrainingEnd ll al sk pl pi) s fun u => only [] u ∧ u.regs = s.regs ∧
        u.span.link l = { k with trained := some ⟨al, sk, pl, pi⟩ } ∧ (commaField u.regs l (u.span.link l)).toNat / 0x4000 = 1)) ∧
    (¬ isOn → ∀ p : Fin 5, exec (.laneReturn ll p) s = .next s ∧ Answers (.laneLoss ll p) s fun u => only [] u ∧ u.regs = s.regs ∧
      u.span.link l = { k with trained := (u.span.link l).trained } ∧
      (k.trained = none → (u.span.link l).trained = none) ∧
      ∀ t, k.trained = some t → ∃ t', (u.span.link l).trained = some t' ∧ t'.skews = t.skews ∧
        ∀ q, q < 5 → t'.aligned.getLsbD q = (t.aligned.getLsbD q && q != p.val)) ∧
    (∀ p : Fin 5, isOn → lane p Fd.SPN_LANE_STATUS_out s = 0 → p.val ∉ k.rxOut →
      let scanned := s.getF (Rg.SPN_SCAN_STATUS l) Fd.SPN_SCAN_STATUS_state = 1 ∧ s.getF (Rg.SPN_SCAN_CTRL l) Fd.SPN_SCAN_CTRL_lane = p.val
      Answers (.laneLoss ll p) s fun u => only [sta, Rg.SPN_LANE_STATUS l p, Rg.SPN_SCAN_STATUS l] u ∧ lane p Fd.SPN_LANE_STATUS_out u = 1 ∧
        lane p Fd.SPN_LANE_STATUS_locked u = 0 ∧ lane p Fd.SPN_LANE_STATUS_aligned u = 0 ∧ (u.span.link l).nackTx = true ∧
        (∀ q, q < 5 → (q ∈ (u.span.link l).rxOut ↔ q = p.val ∨ q ∈ k.rxOut)) ∧ linkState u.regs l = linkState s.regs l ∧
        u.span.link l = { k with rxOut := (u.span.link l).rxOut, nackTx := true, discard := true } ∧
        (k.rxOut = [] → k.peerOutA ≠ p.val → k.peerOutB ≠ p.val → u.getF sta Fd.SPN_LINK_STATUS_rx_lost = p.val) ∧
        u.getF (Rg.SPN_SCAN_STATUS l) Fd.SPN_SCAN_STATUS_state =
          if scanned then 3 else s.getF (Rg.SPN_SCAN_STATUS l) Fd.SPN_SCAN_STATUS_state) ∧
    (∀ p : Fin 5, isOn → p.val ∉ k.lanes → k.spare ≠ some p.val → k.lanes.length = 3 →
      Answers (.laneReturn ll p) s fun u => width 1 4 u ∧ (u.span.link l).lanes.length = 4 ∧ (u.span.link l).spare = none ∧ raised 1 u ∧
        CountedBy (Rg.SPN_LINK_RESTRIPES l) 1 s u ∧ lane p Fd.SPN_LANE_STATUS_out u = 0 ∧
        lane p Fd.SPN_LANE_STATUS_retired u = 0 ∧ lane p Fd.SPN_LANE_STATUS_locked u = 1 ∧ only [sta, Rg.SPN_LANE_STATUS l p,
          Rg.SPN_LINK_RESTRIPES l] u) ∧
    (∀ p : Fin 5, isOn → p.val ∉ k.lanes → k.spare ≠ some p.val → k.lanes.length = 4 →
      Answers (.laneReturn ll p) s fun u => (u.span.link l).spare = some p.val ∧ (u.span.link l).lanes = k.lanes ∧
        lane p Fd.SPN_LANE_STATUS_out u = 0 ∧ only [sta, Rg.SPN_LANE_STATUS l p] u) ∧
    (∀ p : Fin 5, isOn → p.val ∈ k.lanes ∨ k.spare = some p.val →
      (lane p Fd.SPN_LANE_STATUS_out s = 0 → exec (.laneReturn ll p) s = .next s) ∧
      (lane p Fd.SPN_LANE_STATUS_out s = 1 → Answers (.laneReturn ll p) s fun u => only [sta, Rg.SPN_LANE_STATUS l p] u ∧
        lane p Fd.SPN_LANE_STATUS_out u = 0 ∧ (u.span.link l).lanes = k.lanes ∧ (u.span.link l).spare = k.spare ∧ p.val ∉ (u.span.link l).rxOut)) ∧
    (∀ c : BitVec 16,
      let outA := bits c.toNat 13 11
      let outB := bits c.toNat 10 8
      let lost := bits c.toNat 7 5
      let valid := (outA ≤ 3 ∨ outA = 7) ∧ (outB ≤ 3 ∨ outB = 7) ∧ (lost ≤ 4 ∨ lost = 7)
      let heard := { k with peerState := bits c.toNat 15 14, peerOutA := outA, peerOutB := outB, rxLanes := peerLanes outA outB }.acked (bits c.toNat 3 0)
      let linkIs := fun (x : Link) (u : State) => u.span.link l = { x with lanes := (u.span.link l).lanes, spare := (u.span.link l).spare
                                                                           training := (u.span.link l).training }
      (¬ valid → exec (.commaReceive ll c) s = .next s) ∧
      let st := bits c.toNat 15 14
      let again := fun (u : State) => only [sta] u ∧ width 0 0 u ∧
        u.span.link l = { Link.reset with training := true, txPkts := k.txPkts, peerState := 0 }
      (valid → ¬ isOn → k.training = true → ∀ t, k.trained = some t → peerIsUp st → ends t.aligned (.commaReceive ll c)) ∧
      (valid → ¬ isOn → (k.training = true ∧ (k.trained = none ∨ ¬ peerIsUp st)) ∨
          (k.training = false ∧ (st ≠ 0 ∨ s.getF ctl Fd.SPN_LINK_CTRL_enable = 0)) →
        Answers (.commaReceive ll c) s fun u => only [] u ∧ u.regs = s.regs ∧ u.span.link l = { k with peerState := st }) ∧
      (valid → ¬ isOn → k.training = false → st = 0 → s.getF ctl Fd.SPN_LINK_CTRL_enable = 1 → Answers (.commaReceive ll c) s again) ∧
      (valid → isOn → st = 0 → Answers (.commaReceive ll c) s again) ∧
      (valid → isOn → st ≠ 0 → lost = 7 → Answers (.commaReceive ll c) s fun u => only [sta] u ∧
        (bit c.toNat 4 = false → u.span.link l = heard) ∧
        (bit c.toNat 4 = true → k.replayFrom = none → k.resent = false →
          u.span.link l = { heard with replayFrom := (heard.held.head?).map (·.1) })) ∧
      (valid → isOn → st ≠ 0 → lost ≤ 4 → bit c.toNat 4 = false →
        (∀ sp, k.spare = some sp → sp ≠ lost → k.lanes.length = 4 → k.lanes.Nodup → lost ∈ k.lanes → sp ∉ k.lanes →
          (∀ p ∈ sp :: k.lanes, p < 5) → Answers (.commaReceive ll c) s fun u => linkIs heard u ∧ width 1 4 u ∧ (u.span.link l).spare = none ∧
            (u.span.link l).lanes.length = 4 ∧ lost ∉ (u.span.link l).lanes ∧ CountedBy (Rg.SPN_LINK_RESTRIPES l) 1 s u ∧
            only [sta, Rg.SPN_LINK_RESTRIPES l] u) ∧
        (k.spare = none → k.lanes.length = 4 → k.lanes.Nodup → lost ∈ k.lanes → (∀ p ∈ k.lanes, p < 5) → Answers (.commaReceive ll c) s fun u =>
          linkIs heard u ∧ width 2 3 u ∧ (u.span.link l).lanes.length = 3 ∧ lost ∉ (u.span.link l).lanes ∧ raised 1 u ∧ only [sta, Rg.SPN_LINK_RESTRIPES l] u ∧
            CountedBy (Rg.SPN_LINK_RESTRIPES l) 1 s u) ∧
        (k.spare = none → k.lanes.length = 3 → lost ∈ k.lanes → Answers (.commaReceive ll c) s fun u => width 3 0 u ∧ raised 0 u ∧
          linkIs heard u ∧ only [sta] u))) ∧
    (∀ v : Word, Fd.SPN_SCAN_CTRL_start.get v = 1 → Answers (.eyeScanStart ll v) s fun u => u = { s with regs := u.regs } ∧
      RegsBut [Rg.SPN_SCAN_CTRL l, Rg.SPN_SCAN_STATUS l] s u ∧
      u.getF (Rg.SPN_SCAN_CTRL l) Fd.SPN_SCAN_CTRL_dwell_log2 = Fd.SPN_SCAN_CTRL_dwell_log2.get v ∧
      u.getF (Rg.SPN_SCAN_CTRL l) Fd.SPN_SCAN_CTRL_lane = Fd.SPN_SCAN_CTRL_lane.get v ∧
      (if s.getF (Rg.SPN_SCAN_STATUS l) Fd.SPN_SCAN_STATUS_state = 1 ∨ lane (Fd.SPN_SCAN_CTRL_lane.get v) Fd.SPN_LANE_STATUS_locked s ≠ 1 then u.rd (Rg.SPN_SCAN_STATUS l) = s.rd (Rg.SPN_SCAN_STATUS l)
      else u.getF (Rg.SPN_SCAN_STATUS l) Fd.SPN_SCAN_STATUS_state = 1 ∧ u.getF (Rg.SPN_SCAN_STATUS l) Fd.SPN_SCAN_STATUS_points = 0)) ∧
    (∀ errors : List Word,
      let es := errors.take 4096
      let w := s.busWrite (linkUnit l) (s.rd64 (Rg.SPN_SCAN_ADDR_LO l))
        (clean (scanBytes (s.getF (Rg.SPN_SCAN_CTRL l) Fd.SPN_SCAN_CTRL_dwell_log2) es))
      (s.getF (Rg.SPN_SCAN_STATUS l) Fd.SPN_SCAN_STATUS_state ≠ 1 → exec (.eyeScanEnd ll errors) s = .next s) ∧
      (s.getF (Rg.SPN_SCAN_STATUS l) Fd.SPN_SCAN_STATUS_state = 1 → Answers (.eyeScanEnd ll errors) s fun u => u.mem = w.mem ∧ u.mec = w.mec ∧
        u.cores = w.cores ∧ u.getF (Rg.SPN_SCAN_STATUS l) Fd.SPN_SCAN_STATUS_state = (if es.length = 4096 then 2 else 3) ∧
        u.getF (Rg.SPN_SCAN_STATUS l) Fd.SPN_SCAN_STATUS_points = min 4095 es.length ∧ QuietBut [Rg.SPN_SCAN_STATUS l] w u))

/-- R285 to R289: behind whatever holds no 40 ones in a row, the comma marker is found and what a lane carries of a period after it, stuffed and
scrambled, is read back word for word, whatever fill follows; no 32 of its bits in a row are alike, so none makes a marker. -/
def Obligations.LanePeriodsSurviveTheWire : Prop :=
  ∀ (p : Fin 5) (c : BitVec 16) (ws : List (BitVec 64)) (before fill : List Bool), ws.length = 4096 →
    (∀ i, ∃ j, j < 40 ∧ before[i + j]? ≠ some true) →
    (afterMarker 0 (before ++ markerBits ++ laneBits p c ws ++ fill)).map (unlane p) = some ws ∧
      ∀ i b, ∃ j, j < 32 ∧ (laneBits p c ws)[i + j]? ≠ some b

/-- R135, R284, R293 to R299, R306: link periods and packets. A sender sends what is new under the next sequence and holds it, idle periods while two are held,
held ones again in a replay; a receiver takes the period that follows, whole and without error, and else nacks. A packet for this device is applied
and answered, an answer ends its request (an error is a late error of an engine's command), any other is passed on with its hop counted; an access to another device becomes packets on its route, and
one that times out meets a decode error. R70, R307: in relay mode only relay messages are taken (what numbers a device and how a message finds its
way are the model's choice, log entries 45 and 137): one from upstream is served where it ends, one from below goes up. -/
def Obligations.PeriodsAndPacketsCross : Prop :=
  (∀ (s : State) (ll : Fin 4),
    let l := ll.val
    let k := s.span.link l
    let n := laneWords * k.lanes.length
    let isOn := linkState s.regs l = 1 ∨ linkState s.regs l = 2
    let own := ownIndex s.regs
    let peer := s.getF (Rg.SPN_LINK_STATUS l) Fd.SPN_LINK_STATUS_peer_index
    let only := fun (u : State) => u = { s with span := u.span, out := u.out } ∧ (∀ j, j ≠ l → u.span.link j = s.span.link j) ∧
      u.span.reqs = s.span.reqs
    let sends := fun (x : Link) (idle : Bool) (q : BitVec 15) (ws : List (BitVec 64)) (u : State) => only u ∧ u.span.link l = x ∧
      u.out = periodOut s.regs l x idle q ws ++ s.out
    let still := ∀ e ∈ s.host.relayOut, e.1 ≠ l
    (¬ still → exec (.linkPeriodSend ll) s = exec (.linkPeriodSend ll) (s.withSx (s.sx.relayDue l)) ∧
      ∀ e ∈ s.host.relayOut, e.1 = l → e.2 ∈ ((s.sx.relayDue l).span.link l).txPkts) ∧
    (still → ¬ isOn → k.training = false → exec (.linkPeriodSend ll) s = .next s) ∧
    (still → ¬ isOn → k.training = true → Answers (.linkPeriodSend ll) s (sends k true 0 (List.replicate n 0))) ∧
    (still → isOn → k.replayFrom = none → 2 ≤ k.held.length → Answers (.linkPeriodSend ll) s (sends { k with resent := false } true 0 (List.replicate n 0))) ∧
    (still → isOn → k.replayFrom = none → k.held.length < 2 →
      let r := ({ k with resent := false }).take (relayMode s.regs) own peer n
      (r.1 = [] → Answers (.linkPeriodSend ll) s (sends r.2 true 0 (List.replicate n 0))) ∧
      (r.1 ≠ [] → Answers (.linkPeriodSend ll) s (sends
        { r.2 with held := k.held ++ [(k.txSeq, fit 0 n r.1)], txSeq := k.txSeq + 1 } false k.txSeq (fit 0 n r.1)))) ∧
    (∀ (p : Packet) (ps : List Packet), still → isOn → k.replayFrom = none → k.held.length < 2 → k.txWords = [] → k.txPkts = p :: ps →
      let q := { p with credits := k.owed }
      ((pktWords q).length ≤ n → packetUnits q ≤ k.credits → Answers (.linkPeriodSend ll) s fun u =>
        (∃ ws, (u.span.link l).held = k.held ++ [(k.txSeq, ws)] ∧ ws.take (pktWords q).length = pktWords q) ∧
          (∃ m, (u.span.link l).txPkts = ps.drop m) ∧ (u.span.link l).owed = 0) ∧
      (k.credits < packetUnits q → k.owed = 0 → Answers (.linkPeriodSend ll) s fun u => (u.span.link l).txPkts = k.txPkts ∧
        (u.span.link l).held = k.held ∧ (u.span.link l).txSeq = k.txSeq)) ∧
    (∀ q ws, still → isOn → k.replayFrom = some q → k.held.all (fun h => h.2.length == n) = true → k.held.find? (fun h => h.1 == q) = some (q, ws) →
      Answers (.linkPeriodSend ll) s fun u => (u.span.link l).held = k.held ∧ (u.span.link l).txSeq = k.txSeq ∧ (u.span.link l).resent = true ∧
        (u.span.link l).replayFrom = (if k.held.any (fun h => h.1 == q + 1) then some (q + 1) else none) ∧
        (u.out.take 5).reverse = (periodOut s.regs l (u.span.link l) false q ws).reverse ∧
        (if k.resent then RegsBut [] s u else CountedBy (Rg.SPN_LINK_REPLAYS l) 1 s u ∧ QuietBut [Rg.SPN_LINK_REPLAYS l] s u)) ∧
    (∀ got : List LanePeriod,
      let d := k.rxLanes.map (fun p => if p ∈ k.rxOut then none else linkLaneOf got p)
      (¬ isOn → exec (.linkPeriodReceive ll got) s = .next s) ∧
      (isOn → k.discard = true → (∀ p ws, p < 5 → linkLaneOf got p = some ws → laneOk ws = true) → Answers (.linkPeriodReceive ll got) s fun u =>
        only u ∧ u.out = s.out ∧ u.span.link l = { k with discard := false }) ∧
      (isOn → k.discard = false → (∀ p ws, p < 5 → linkLaneOf got p = some ws → laneOk ws = true) →
        (∀ wss : List (List (BitVec 64)), d = wss.map some → wss ≠ [] →
          let r := parseWords ((k.rxWords ++ unstripe k.rxLanes.length (wss.map (·.take laneWords))).length + 1)
            (k.rxWords ++ unstripe k.rxLanes.length (wss.map (·.take laneWords)))
          ((∀ p ∈ k.rxLanes, p < 5) → (∀ ws ∈ wss, bit (trailOf ws) 47 = false ∧ bits (trailOf ws) 46 32 = (k.rxSeq + 1).toNat) →
            Answers (.linkPeriodReceive ll got) s fun u => only u ∧ u.out = s.out ∧ u.span.link l = { k with
              rxSeq := k.rxSeq + 1
              nackTx := false
              rxPkts := k.rxPkts ++ r.1
              rxWords := r.2 }) ∧
          ((∀ p ∈ k.rxLanes, p < 5) → (∀ ws ∈ wss, bit (trailOf ws) 47 = true) → exec (.linkPeriodReceive ll got) s = .next s) ∧
          ((∀ p ∈ k.rxLanes, p < 5) → (∃ ws ∈ wss, bit (trailOf ws) 47 = false) → (∃ ws ∈ wss, bits (trailOf ws) 46 32 ≠ (k.rxSeq + 1).toNat) →
            Answers (.linkPeriodReceive ll got) s fun u => u = { s with span := u.span } ∧ u.span.link l = { k with nackTx := true })) ∧
        (none ∈ d → (∀ p ∈ k.rxLanes, p < 5) → (∀ ws, some ws ∈ d → bit (trailOf ws) 47 = false) → Answers (.linkPeriodReceive ll got) s fun u =>
          only u ∧ u.out = s.out ∧ u.span.link l = { k with nackTx := true }))) ∧
    (k.rxPkts = [] → exec (.spanPacketReceive ll) s = .next s) ∧
    (∀ (p : Packet) (ps : List Packet), k.rxPkts = p :: ps → relayMode s.regs = true →
      let v := { s with span := s.span.setLink l { k with
        rxPkts := ps
        credits := min 2048 (k.credits + p.credits)
        owed := if p.kind = 6 then k.owed else k.owed + packetUnits p } }
      (p.kind ≠ 5 → exec (.spanPacketReceive ll) s = .next v) ∧
      (p.kind = 5 → numbering p = true → relayEnds p = true → exec (.spanPacketReceive ll) s = .next { v with
        host := { s.host with self := ⟨p.dst, p.src, l⟩ } }) ∧
      (p.kind = 5 → numbering p = false → s.host.self.parent ≠ 0xFF → s.host.self.link = l → relayEnds p = true →
        exec (.spanPacketReceive ll) s = .next { v with host := { s.host with cmds := s.host.cmds ++ [relayRequest l p] } }) ∧
      (p.kind = 5 → numbering p = false → s.host.self.parent ≠ 0xFF → s.host.self.link ≠ l →
        Answers (.spanPacketReceive ll) s fun u => u = { v with span := u.span } ∧
          (u.span.link s.host.self.link).txPkts = (v.span.link s.host.self.link).txPkts ++ [{ p with hops := p.hops + 1 }])) ∧
    (∀ (p : Packet) (ps : List Packet), k.rxPkts = p :: ps → relayMode s.regs = false →
      let took := { k with rxPkts := ps
                           credits := min 2048 (k.credits + p.credits)
                           owed := if p.kind = 6 then k.owed else k.owed + packetUnits p }
      let v := { s with span := s.span.setLink l took }
      let queued := fun (m : Nat) (a : Packet) (u : State) => (u.span.link m).txPkts = (v.span.link m).txPkts ++ [a]
      let err : Packet := ⟨p.kind + 2, true, 0, own, p.src, p.tag, p.length, p.address, 0, []⟩
      ((p.kind = 0 ∨ 5 ≤ p.kind) → Answers (.spanPacketReceive ll) s fun u => u = v) ∧
      (1 ≤ p.kind → p.kind ≤ 4 → p.dst ≠ own → p.hops < 7 → ∀ m, routeTo s.regs p.dst = some m → Answers (.spanPacketReceive ll) s fun u =>
        queued m { p with hops := p.hops + 1 } u ∧ u = { v with span := u.span }) ∧
      (p.kind = 1 ∨ p.kind = 2 → p.dst ≠ own → (7 ≤ p.hops ∨ routeTo s.regs p.dst = none) → ∀ m, routeTo s.regs p.src = some m →
        Answers (.spanPacketReceive ll) s fun u => queued m err u ∧ u = { v with span := u.span }) ∧
      (p.kind = 1 → p.dst = own → windowOf p.address = none → s.decodeBad (linkUnit l) p.address p.length = none → ∀ m,
        routeTo s.regs p.src = some m → Answers (.spanPacketReceive ll) s fun u => u.mem = (v.busRead (linkUnit l) p.address p.length).mem ∧
          (isReg p.address = false → queued m ⟨3, false, 0, own, p.src, p.tag, p.length, p.address, 0,
            v.busBytes (linkUnit l) p.address p.length⟩ u)) ∧
      (p.kind = 2 → p.dst = own → windowOf p.address = none → isReg p.address = false →
        s.decodeBad (linkUnit l) p.address p.length = none → ∀ m, routeTo s.regs p.src = some m → Answers (.spanPacketReceive ll) s fun u =>
          u.mem = (v.memWrite (linkUnit l) p.address p.payload).mem ∧
          queued m ⟨4, false, 0, own, p.src, p.tag, p.length, p.address, 0, []⟩ u) ∧
      (∀ r, (p.kind = 3 ∨ p.kind = 4) → p.dst = own → s.span.reqs.find? (fun r => r.tag == p.tag && r.isWrite == (p.kind == 4)) = some r →
        p.err = false → Answers (.spanPacketReceive ll) s fun u => u.span.reqs = s.span.reqs.filter (fun q => q.tag != r.tag) ∧
          u.span.answers = (if r.held then s.span.answers ++ [⟨r.agent, r.dst, r.addr, r.len, r.isWrite, r.body, some p.payload⟩]
            else s.span.answers) ∧
          (r.isWrite = true ∨ r.held = true → u.out = s.out) ∧
          (r.isWrite = false → r.held = false → r.agent ≠ hostAgent → u.out = .data r.agent p.payload :: s.out) ∧
          (r.isWrite = false → r.held = false → r.agent = hostAgent → r.addr / 64 = (r.addr + r.len - 1) / 64 → p.payload.length = r.len →
            0 < r.len → u.out = .completion (vals p.payload) (anyP p.payload) :: s.out) ∧
          u = { v with span := u.span, out := u.out }) ∧
      (∀ r t, p.kind = 4 → p.dst = own → s.span.reqs.find? (fun r => r.tag == p.tag && r.isWrite == (p.kind == 4)) = some r → p.err = true →
        r.cmd = some t → let c := r.agent % 0x1000 / 3
        Answers (.spanPacketReceive ll) s fun u => u.span.reqs = s.span.reqs.filter (fun q => q.tag != r.tag) ∧
          (u.rd (Rg.EVT_STATUS 4)).getLsbD 0 = true ∧
          ((u.cup c).tag t).late = ((s.cup c).tag t).late ++ [(1, remoteOf r.dst r.addr)] ∧ ∀ x, x ≠ c → u.cup x = s.cup x))) ∧
  (∀ (s : State) (g a len : Nat) (wr : Option (List PByte)) (d l x : Nat), placeOf s.regs a = .there d l x →
    (∀ bs, wr = some bs → bs.length = len) → len ≤ 256 → 0 < len →
    Answers (.remoteWindowAccess g a len wr) s fun u =>
      u = { s with span := u.span } ∧ u.span.reqs = s.span.reqs ++ [⟨s.span.nextTag, g, x, len, wr.isSome, l, d, false, wr.getD [], none⟩] ∧
        (u.span.link l).txPkts = (s.span.link l).txPkts ++ [⟨if wr.isSome then 2 else 1, false, 0, ownIndex s.regs, d, s.span.nextTag, len, x, 0,
          wr.getD []⟩] ∧ u.span.nextTag = (s.span.nextTag + 1) % 65536) ∧
  (∀ (s : State) (g a len x : Nat) (bs : List PByte), windowOf a ≠ none → placeOf s.regs a = .here x → isReg x = false → wokenBy g x = none →
    (Answers (.remoteWindowAccess g a len none) s fun u => u.out.head? = some (.data g (s.memBytes g x len)) ∧ u.mem = (s.memRead g x len).mem) ∧
    (Answers (.remoteWindowAccess g a len (some bs)) s fun u => u = s.memWrite g x bs)) ∧
  (∀ (s : State) (tag : Nat),
    ((∀ r ∈ s.span.reqs, r.tag ≠ tag) → exec (.spanRequestTimeout tag) s = .next s) ∧
    (∀ r, s.span.reqs.find? (fun r => r.tag == tag) = some r → r.link < 4 → Answers (.spanRequestTimeout tag) s fun u =>
      u.span.reqs = s.span.reqs.filter (fun q => q.tag != tag) ∧ CountedBy (Rg.SPN_LINK_TIMEOUTS r.link) 1 s u ∧
        (u.rd (Rg.EVT_STATUS 7)).getLsbD (4 * r.link + 2) = true ∧ (u.rd (Rg.EVT_STATUS 4)).getLsbD 0 = true ∧
        (r.isWrite = false → r.held = false → r.agent ≠ hostAgent → u.out.head? = some (.data r.agent (poisoned (leBytes r.len 0)))) ∧
        (r.isWrite = false → r.held = false → r.agent = hostAgent → u.out.head? = some .unsupported) ∧
        (r.held = true → u.span.answers = s.span.answers ++ [⟨r.agent, r.dst, r.addr, r.len, r.isWrite, r.body, none⟩]) ∧
        (r.cmd = none → u.cpl = s.cpl) ∧
        (∀ t, r.cmd = some t → let c := r.agent % 0x1000 / 3
          ((u.cup c).tag t).late = ((s.cup c).tag t).late ++ [(1, remoteOf r.dst r.addr)] ∧ (∀ x, x ≠ c → u.cup x = s.cup x) ∧
            ∀ y, y ≠ t → (u.cup c).tag y = (s.cup c).tag y) ∧
        QuietBut (Rg.SPN_LINK_TIMEOUTS r.link :: if r.cmd = none then [] else [Rg.CPL_TAGS (r.agent % 0x1000 / 3)]) s u ∧
        OnlyReports { s with span := u.span, cpl := u.cpl } u))

/-- R332, R334 to R339: PTP messages of a bound port. An Announce of its domain joins the selection, a change of master is counted, raised and restarts
filter and counts; a Sync and its follow-up are kept, and with the delay response give an offset that counts after three Announces; the 16th offset steps
the base, or it converges or tracks; clients are answered within the limits; messages carry the time of the base corrected by latency and asymmetry; the
loss of the last master enters HOLDOVER, once, graded each second; the system base is compared with the radio base that it follows. (The filter and servo
are the model's free functions, log entry 27; what the alternate selection compares and when a master has qualified again, 120; the correction of received
frames, 223; when the comparison is made, 221.) -/
def Obligations.NetworkTimeIsFollowed : Prop :=
  (∀ (s : State) (port : Fin 33) (i : PtpInst), s.blf.inst port = some i → i.base < 3 →
    let b := i.base
    let z := s.blf.base b
    let others := fun (u : State) => (∀ c, c < 3 → c ≠ b → u.blf.base c = s.blf.base c) ∧ u.mem = s.mem ∧ u.cores = s.cores ∧ u.ppt = s.ppt
    let put := fun (p : PtpInst) => { s.blf with ptp := Map.set none s.blf.ptp port (some p) }
    let restarted := fun (m : Option Nat) (u : State) => (u.blf.base b).selected = m ∧ (u.blf.base b).offsets = [] ∧ (u.blf.base b).within = 0 ∧
      u.rd64 (Rg.BLF_TB_MASTER_LO b) = m.getD 0 % 2 ^ 64
    let stampOf := fun (d : Int) =>
      let n := (ptpTotal (s.ptpNow b) + d).toNat
      (⟨n / 1000000000 % 2 ^ 48, n % 1000000000⟩ : PtpTime)
    let late : Int := Config.phyLatency port + leS i.payload 12 4
    (∀ a : Announce, i.role ≠ 1 → tbSource s.regs b = 1 → a.domain = le i.payload 4 1 →
      let n := ((z.masters.find? (fun m => m.data.identity == a.identity)).map (·.heard)).getD 0
      let heard := (⟨a, port, decide (le i.payload 2 1 < 2), le i.payload 11 1, n + 1⟩ : Master) ::
        z.masters.filter (fun m => m.data.identity != a.identity)
      let best := (bestOf heard).map (·.data.identity)
      (z.selected = best → Answers (.ptpAnnounce port a) s fun u => (u.blf.base b).masters = heard ∧ (u.blf.base b).selected = best ∧
        (u.blf.base b).announces = z.announces + (if best = some a.identity then 1 else 0) ∧ (u.blf.base b).offsets = z.offsets ∧
        RegsBut [] s u ∧ others u ∧ u = { s with blf := u.blf }) ∧
      (z.selected ≠ best → Answers (.ptpAnnounce port a) s fun u => (u.blf.base b).masters = heard ∧ restarted best u ∧ others u ∧
        (u.blf.base b).announces = (if best = some a.identity then 1 else 0) ∧
        (if z.last = none ∨ z.last = best then RegsBut [Rg.BLF_TB_MASTER_LO b, Rg.BLF_TB_MASTER_LO b + 4] s u
        else CountedBy (Rg.BLF_TB_MASTER_CHANGES b) 1 s u ∧ (u.rd (Rg.EVT_STATUS 10)).getLsbD (4 * b + 1) = true ∧
          QuietBut [Rg.BLF_TB_MASTER_LO b, Rg.BLF_TB_MASTER_LO b + 4, Rg.BLF_TB_MASTER_CHANGES b] s u))) ∧
    (∀ a : Announce, (i.role = 1 ∨ tbSource s.regs b ≠ 1 ∨ a.domain ≠ le i.payload 4 1) → exec (.ptpAnnounce port a) s = .next s) ∧
    (∀ m t2 t1, i.role ≠ 1 → Answers (.ptpSync port m t2 t1) s fun u =>
      u = { s with blf := put { i with t2 := some t2, t1 := t1, syncMaster := m } }) ∧
    (∀ m t1, i.role ≠ 1 → i.syncMaster = m → Answers (.ptpFollowUp port m t1) s fun u => u = { s with blf := put { i with t1 := some t1 } }) ∧
    (∀ m t1, i.syncMaster ≠ m → exec (.ptpFollowUp port m t1) s = .next s) ∧
    (∀ m (t1 t2 t3 t4 : PtpTime), i.t1 = some t1 → i.t2 = some t2 → i.role ≠ 1 → i.syncMaster = m → tbSource s.regs b = 1 →
      (z.selected ≠ some m ∨ z.announces < 3 → exec (.ptpDelayResp port m t3 t4) s = .next s) ∧
      (z.selected = some m → 3 ≤ z.announces → b ≠ 0 →
        let o := ((ptpTotal t2 - ptpTotal t1) - (ptpTotal t4 - ptpTotal t3)) / 2
        let os := (o :: z.offsets).take 16
        let f := Config.filter os
        let lock : Int := lockNs s.regs b
        Answers (.ptpDelayResp port m t3 t4) s fun u => u.blf.inst port = some { i with t1 := none, t2 := none } ∧ others u ∧ u.drum = s.drum ∧
          (tbStepped s.regs b = false → os.length < 16 → (u.blf.base b).offsets = os ∧ tbStepped u.regs b = false ∧
            tbState u.regs b = tbState s.regs b ∧ u.phase b = s.phase b ∧ u.rd (Rg.BLF_TB_OFFSET b) = BitVec.ofInt 32 (satS 32 f)) ∧
          (tbStepped s.regs b = false → os.length = 16 → tbStepped u.regs b = true ∧ tbState u.regs b = 2 ∧ (u.blf.base b).offsets = [] ∧
            u.phase b = ((s.phase b : Int) - os.foldl (· + ·) 0 / 16 * 65536).toNat ∧ (u.rd (Rg.EVT_STATUS 10)).getLsbD (4 * b) = true) ∧
          (tbStepped s.regs b = true → (u.blf.base b).offsets = os ∧ u.phase b = s.phase b ∧ tbStepped u.regs b = true ∧
            u.rd (Rg.BLF_TB_OFFSET b) = BitVec.ofInt 32 (satS 32 f) ∧
            (tbState s.regs b = 2 → f ≤ lock → -lock ≤ f → tbState u.regs b = 2 ∧ (u.blf.base b).freq = Config.servo b z.freq f) ∧
            (tbState s.regs b = 2 → (lock < f ∨ f < -lock) → tbState u.regs b = 3 ∧ (u.blf.base b).within = 0 ∧ (u.blf.base b).target =
              (if 0 ≤ f then -1 else 1) * (s.getF (Rg.BLF_TB_SLEW b) Fd.BLF_TB_SLEW_rate_cap_ppb * 1000 : Int)) ∧
            (tbState s.regs b = 3 → o.natAbs ≤ lockNs s.regs b → 15 ≤ z.within → tbState u.regs b = 2 ∧ (u.blf.base b).target = 0) ∧
            (tbState s.regs b = 3 → (lockNs s.regs b < o.natAbs ∨ z.within < 15) → tbState u.regs b = 3 ∧
              (u.blf.base b).within = (if o.natAbs ≤ lockNs s.regs b then z.within + 1 else 0))))) ∧
    (∀ client : Nat, i.role ≠ 0 →
      let total := s.blf.ptp.foldl (fun n e => n + match e.2 with | some q => q.clients.length | none => 0) 0
      let answers := fun (cs : List Nat) (u : State) => u = { s with blf := put { i with clients := cs }
                                                                     out := .ptpDelayResp port client (stampOf (-late)) :: s.out }
      (client ∈ i.clients → Answers (.ptpDelayReq port client) s (answers i.clients)) ∧
      (client ∉ i.clients → i.clients.length < min 32 (le i.payload 16 1) → total < 256 →
        Answers (.ptpDelayReq port client) s (answers (i.clients ++ [client]))) ∧
      (client ∉ i.clients → (min 32 (le i.payload 16 1) ≤ i.clients.length ∨ 256 ≤ total) → Answers (.ptpDelayReq port client) s fun u =>
        u = { s with blf := { s.blf with discardedReqs := s.blf.discardedReqs + 1 } })) ∧
    (∀ k : PtpKind, exec (.ptpMessageTransmit port k) s = .next
      (if (k = .delayReq ∧ (i.role = 0 ∨ i.role = 2)) ∨ (k ≠ .delayReq ∧ (i.role = 1 ∨ i.role = 2)) then
        { s with out := (if k = .sync ∧ bit (le i.payload 5 1) 0 = false then [.ptpFollowUp port (stampOf late)] else []) ++
            (Out.ptp port k (stampOf late) :: s.out) } else s))) ∧
  (∀ (s : State) (port : Fin 33),
    let on := fun (b m : Nat) => tbSource s.regs b = 1 ∧ (s.blf.base b).selected = some m ∧
      ∃ e ∈ (s.blf.base b).masters, e.data.identity = m ∧ e.port = port.val
    ((∀ b m, b < 2 → ¬ on b m) → exec (.announceTimeout port) s = .next s) ∧
    (∀ b m, b < 2 → on b m → (b = 1 → ∀ x, ¬ on 0 x) →
      let z := s.blf.base b
      let left := (z.masters.filter (fun e => e.data.identity != m)).filter (fun e => decide (3 ≤ e.heard))
      let others := fun (u : State) => (∀ c, c < 3 → c ≠ b → u.blf.base c = s.blf.base c) ∧ u.mem = s.mem ∧ u.cores = s.cores ∧ u.ppt = s.ppt
      let restarted := fun (m : Option Nat) (u : State) => (u.blf.base b).selected = m ∧ (u.blf.base b).offsets = [] ∧
        (u.blf.base b).within = 0 ∧ u.rd64 (Rg.BLF_TB_MASTER_LO b) = m.getD 0 % 2 ^ 64
      (∀ a, bestOf left = some a → Answers (.announceTimeout port) s fun u => restarted (some a.data.identity) u ∧
        (z.last = some m → CountedBy (Rg.BLF_TB_MASTER_CHANGES b) 1 s u) ∧ tbState u.regs b = tbState s.regs b ∧ others u) ∧
      (bestOf left = none → Answers (.announceTimeout port) s fun u => restarted none u ∧ CountedBy (Rg.BLF_TB_ANNOUNCE_TIMEOUTS b) 1 s u ∧
        u.phase b = s.phase b ∧ u.drum = s.drum ∧ others u ∧
        (if tbStepped s.regs b = true ∧ tbState s.regs b ≠ 4 then
          tbState u.regs b = 4 ∧ (u.rd (Rg.EVT_STATUS 10)).getLsbD (4 * b + 2) = true ∧ (u.blf.base b).holdFrom = s.now ∧
            (u.blf.base b).target = 0 ∧ (u.blf.base b).slew = 0 ∧ (u.blf.base b).ask = z.freq
        else tbState u.regs b = tbState s.regs b ∧ (u.blf.base b).holdFrom = z.holdFrom)))) ∧
  (∀ (s : State) (port : Fin 33), s.blf.inst port = none → ∀ (a : Announce) (m : Nat) (t3 t4 : PtpTime) (o : Option PtpTime) (k : PtpKind),
    ∀ i ∈ [Instr.ptpAnnounce port a, .ptpSync port m t3 o, .ptpFollowUp port m t3, .ptpDelayReq port m, .ptpDelayResp port m t3 t4,
      .ptpMessageTransmit port k], exec i s = .next s) ∧
  (∀ s : State,
    let v := s.withTx s.tx.follow
    let o := nsOfPhase 2 ((s.phase 2 : Int) - nanoOfRadio (s.phase 0))
    let follows := tbSource s.regs 2 = 3 ∧ tbStepped s.regs 2 = true ∧ tbStepped s.regs 0 = true
    (¬ follows → v = s) ∧
    (follows → v.blf.base2.offsets = (o :: s.blf.base2.offsets).take 16 ∧ v.phase 2 = s.phase 2 ∧ v.blf.base0 = s.blf.base0 ∧
      v.blf.base1 = s.blf.base1 ∧ v.mem = s.mem ∧ v.drum = s.drum ∧ v.rd (Rg.BLF_TB_OFFSET 2) =
        BitVec.ofInt 32 (satS 32 (Config.filter ((o :: s.blf.base2.offsets).take 16))))) ∧
  (∀ (s0 : State) (bb : Fin 3),
    let b := bb.val
    let s := if b = 2 then s0.withTx s0.tx.follow else s0
    let e := (s.now - (s.blf.base b).holdFrom) / secUnits
    let lim := fun (f : Fld) => 60 * s.getF Rg.BLF_HOLDOVER_LIMITS f
    let g := if tbState s.regs b ≠ 4 then 0 else if e < lim Fd.BLF_HOLDOVER_LIMITS_limit_1 then 1
      else if e < lim Fd.BLF_HOLDOVER_LIMITS_limit_2 then 2 else if e < lim Fd.BLF_HOLDOVER_LIMITS_limit_3 then 3
      else if e < lim Fd.BLF_HOLDOVER_LIMITS_limit_4 then 4 else 5
    Answers (.holdoverGradeEval bb) s0 fun u => u.getF (Rg.BLF_TB_STATUS b) Fd.BLF_TB_STATUS_grade = g ∧ OnlyReports s u ∧
      tbState u.regs b = tbState s.regs b ∧
      (if g = s.getF (Rg.BLF_TB_STATUS b) Fd.BLF_TB_STATUS_grade then RegsBut [Rg.BLF_TB_STATUS b] s u
      else Raised (320 + 4 * b + 3) s u ∧ QuietBut [Rg.BLF_TB_STATUS b] s u))

/-- R328, R340 to R342, R344, R345: the time pins, timestamps, the keeper and latches. A frame that asks for one and is not dropped leaves a timestamp, in
order, up to 64; a further one is discarded, counted and raised; a pop removes the oldest. A window of 524,288 keeper ticks sets the ratio, while the
reference runs. A latch holds the time of a base in three words. An edge of PPS_IN is stamped in every base. PPS_OUT and FRAME_OUT rise at the next second
or frame boundary. (That a source which a base lacks is ignored is the model's choice, log entry 219, and so is that the pulses let the clock run, 8.) -/
def Obligations.TimeIsStampedAndLatched : Prop :=
  (∀ (s : State) (port : Fin 33) (ident : BitVec 16) (req drop : Bool),
    let q := s.blf.stamps port
    let sta := Rg.BLF_TXTS_STATUS port
    let e : Txts := ⟨ident, s.stamp port⟩
    let head := fun (l : List Txts) (u : State) => u.getF sta Fd.BLF_TXTS_STATUS_depth = l.length % 128 ∧ match l with
      | [] => u.rd (Rg.BLF_TXTS_ID port) = 0
      | x :: _ => u.rd (Rg.BLF_TXTS_ID port) = BitVec.ofNat 32 (2 ^ 31 + x.ident.toNat) ∧
        u.rd (Rg.BLF_TXTS_TS_W0 port) = BitVec.ofNat 32 x.t.ns ∧ u.rd (Rg.BLF_TXTS_TS_W1 port) = BitVec.ofNat 32 x.t.sec ∧
        u.rd (Rg.BLF_TXTS_TS_W2 port) = BitVec.ofNat 32 (x.t.sec / 2 ^ 32 % 65536)
    let words := [sta, Rg.BLF_TXTS_ID port, Rg.BLF_TXTS_TS_W0 port, Rg.BLF_TXTS_TS_W1 port, Rg.BLF_TXTS_TS_W2 port]
    (req = false ∨ drop = true → exec (.txTimestamp port ident req drop) s = .next s) ∧
    (q.length < 64 → Answers (.txTimestamp port ident true false) s fun u => u.blf.stamps port = q ++ [e] ∧ head (q ++ [e]) u ∧
      RegsBut words s u ∧ u = { s with regs := u.regs, blf := u.blf } ∧ ∀ p, p ≠ port.val → u.blf.stamps p = s.blf.stamps p) ∧
    (64 ≤ q.length → Answers (.txTimestamp port ident true false) s fun u => u.blf.stamps port = q ∧
      CountedBy (Rg.BLF_TXTS_DROPPED port) 1 s u ∧ u.getF sta Fd.BLF_TXTS_STATUS_overflow = 1 ∧
      (u.rd (Rg.EVT_STATUS 10)).getLsbD 12 = true ∧ QuietBut [sta, Rg.BLF_TXTS_DROPPED port] s u ∧ OnlyReports { s with blf := u.blf } u) ∧
    (∀ v : Word, Fd.BLF_TXTS_POP_pop.get v = 1 → Answers (.txtsPop port v) s fun u => u.blf.stamps port = q.tail ∧ head q.tail u ∧
      RegsBut words s u ∧ u = { s with regs := u.regs, blf := u.blf } ∧ ∀ p, p ≠ port.val → u.blf.stamps p = s.blf.stamps p)) ∧
  (∀ (s : State) (units : Nat), inDeep s.regs = true → exec (.keeperRatioUpdate units) s = .next s) ∧
  (∀ (s : State) (units : Nat), inDeep s.regs = false → Answers (.keeperRatioUpdate units) s fun u => u.rd64 Rg.BLF_KEEPER_RATIO_LO = units * 8192 % 2 ^ 64 ∧
    u.getF Rg.BLF_KEEPER_STATUS Fd.BLF_KEEPER_STATUS_calibrated = 1 ∧
    RegsBut [Rg.BLF_KEEPER_RATIO_LO, Rg.BLF_KEEPER_RATIO_LO + 4, Rg.BLF_KEEPER_STATUS] s u ∧ u = { s with regs := u.regs }) ∧
  (∀ (s : State) (bb : Fin 3) (v : Word), Fd.BLF_TB_CTRL_latch.get v = 1 →
    let b := bb.val
    let src := Fd.BLF_TB_CTRL_source.get v
    let has := src = 0 ∨ (src = 1 ∧ b ≠ 2) ∨ (src = 2 ∧ b = 0) ∨ (src = 3 ∧ b = 2)
    src ≠ 3 ∨ b ≠ 2 →
    let p := s.phase b
    let w := if b = 0 then p % 2 ^ 96 else
      p / 65536 / 1000000000 % 2 ^ 48 * 2 ^ 48 + p / 65536 % 1000000000 * 65536 + p % 65536
    Answers (.timeLatch bb v) s fun u => u.rd (Rg.BLF_TB_LATCH_W0 b) = BitVec.ofNat 32 w ∧
      u.rd (Rg.BLF_TB_LATCH_W1 b) = BitVec.ofNat 32 (w / 2 ^ 32) ∧ u.rd (Rg.BLF_TB_LATCH_W2 b) = BitVec.ofNat 32 (w / 2 ^ 64) ∧
      (has → tbSource u.regs b = src) ∧ (¬ has → u.rd (Rg.BLF_TB_CTRL b) = s.rd (Rg.BLF_TB_CTRL b) ∧ u.blf = s.blf) ∧ u.phase b = p ∧
      RegsBut [Rg.BLF_TB_CTRL b, Rg.BLF_TB_LATCH_W0 b, Rg.BLF_TB_LATCH_W1 b, Rg.BLF_TB_LATCH_W2 b] s u ∧ u = { s with regs := u.regs, blf := u.blf }) ∧
  (∀ (s : State),
    let n := if s.blf.tod.isSome then s.blf.base0.pps + 1 else 0
    let o := match s.blf.tod with
      | some t => nsOfPhase 0 ((s.phase 0 : Int) - radioOfPtp t)
      | none => nearSecond (s.phase 0)
    let on := s.flag Rg.BLF_PPS_CTRL Fd.BLF_PPS_CTRL_in_enable
    let edge := fun (u : State) => u.rd64 Rg.BLF_PPS_IN_LO = s.rt % 2 ^ 64 ∧ u.blf.edge = [s.phase 0, s.phase 1, s.phase 2] ∧ u.blf.tod = none ∧ u.blf.base0.pps = n ∧ u.mem = s.mem ∧
      u.cores = s.cores ∧ u.blf.ptp = s.blf.ptp
    (on = false → exec .ppsInEdge s = .next s) ∧
    (on = true → (tbSource s.regs 0 ≠ 2 ∨ (tbStepped s.regs 0 = false ∧ n < 3)) → Answers .ppsInEdge s fun u => edge u ∧ u.drum = s.drum ∧
      u.phase 0 = s.phase 0 ∧ QuietBut [Rg.BLF_PPS_IN_LO, Rg.BLF_PPS_IN_LO + 4] s u) ∧
    (on = true → tbSource s.regs 0 = 2 → tbStepped s.regs 0 = false → 3 ≤ n → tbSource s.regs 2 ≠ 3 → s.blf.base2.lead = none → Answers .ppsInEdge s fun u => edge u ∧
      tbStepped u.regs 0 = true ∧ tbState u.regs 0 = 2 ∧ u.phase 0 = ((s.phase 0 : Int) - phaseOfNs 0 o).toNat ∧
      (u.rd (Rg.EVT_STATUS 10)).getLsbD 0 = true ∧ u.blf.base2 = s.blf.base2) ∧
    (on = true → tbSource s.regs 0 = 2 → tbStepped s.regs 0 = true → Answers .ppsInEdge s fun u => edge u ∧ u.phase 0 = s.phase 0 ∧
      u.blf.base0.offsets = (o :: s.blf.base0.offsets).take 16 ∧ tbStepped u.regs 0 = true)) ∧
  (∀ (s : State),
    let b := s.getF Rg.BLF_PPS_CTRL Fd.BLF_PPS_CTRL_base
    let code := s.getF Rg.BLF_FRAME_OUT_CTRL Fd.BLF_FRAME_OUT_CTRL_rate
    let pulse := s.flag Rg.BLF_PPS_CTRL Fd.BLF_PPS_CTRL_out_enable = true ∧ b < 3 ∧ tbState s.regs b ≠ 0
    let frame := s.flag Rg.BLF_FRAME_OUT_CTRL Fd.BLF_FRAME_OUT_CTRL_enable = true ∧ 2 ≤ tbState s.regs 1 ∧ code < 10
    let m := if b = 0 then 983040000 * 2 ^ 32 else 1000000000 * 65536
    (¬ pulse → exec .ppsOutPulse s = .next s) ∧
    (pulse → ∃ p, m ∣ p ∧ s.phase b ≤ p ∧ p < s.phase b + m ∧ Answers .ppsOutPulse s fun u =>
      let w := s.passBase b p
      u = { w with out := .pulse .ppsOut (s.getF Rg.BLF_PPS_CTRL Fd.BLF_PPS_CTRL_width_ms * 1000000) :: s.out } ∧ s.now ≤ w.now) ∧
    (¬ frame → exec .frameOutPulse s = .next s) ∧
    (frame → ∃ k p, p = ceilDiv (k * rateM code) (rateN code) ∧ s.phase 1 ≤ p ∧ (k = 0 ∨ (k - 1) * rateM code < s.phase 1 * rateN code) ∧
      Answers .frameOutPulse s fun u =>
        let w := s.passBase 1 p
        u = { w with out := .pulse .frameOut (s.getF Rg.BLF_FRAME_OUT_CTRL Fd.BLF_FRAME_OUT_CTRL_width_us * 1000) :: s.out } ∧ s.now ≤ w.now))

/-- R341: a timestamp that arrives while its queue holds 64 entries is discarded and the entries stand; it is counted, and the timestamp-overflow event is
raised with the port and the discarded identifier, as the event's record shows where it is recorded and there is room. -/
def Obligations.AFullTimestampQueueKeepsItsEntries : Prop :=
  ∀ (s : State) (port : Fin 33) (ident : BitVec 16), (s.blf.stamps port).length = 64 → Answers (.txTimestamp port ident true false) s fun u =>
    (∀ p, u.blf.stamps p = s.blf.stamps p) ∧ u.blf = { s.blf with txts := u.blf.txts } ∧ CountedBy (Rg.BLF_TXTS_DROPPED port) 1 s u ∧ Raised 332 s u ∧
      u.getF (Rg.BLF_TXTS_STATUS port) Fd.BLF_TXTS_STATUS_overflow = 1 ∧
      QuietBut [Rg.BLF_TXTS_STATUS port, Rg.BLF_TXTS_DROPPED port] s u ∧ OnlyReports { s with blf := u.blf } u ∧
      ((s.rd (Rg.EVT_RECORD 10)).getLsbD 12 = true → s.flag Rg.WTR_CTRL Fd.WTR_CTRL_enable = true → s.wtr.fifo.length < 8 →
        s.rd (Rg.EVT_RING 10) = 0 → s.rd (Rg.BLF_TXTS_DROPPED port) ≠ 0xFFFFFFFE → ∃ r ∈ u.wtr.fifo,
          r.code = 0x1000 + 332 ∧ r.p0 = BitVec.ofNat 32 port ∧ r.p1 = BitVec.ofNat 32 ident.toNat)

/-- R329, R335, R348 to R350, R352, R353: the holdover DAC. At a step tick a channel moves toward its source by at most max_step codes, and channel
0's move is compensated in the studio and system bases without a step of their phases; Belfry's request of channel 0 is the code of the radio base's
frequency term, and that of the start of a HOLDOVER in it; in a clear a channel stands at its clear code, and in Deep nothing moves. The first cause of a clear takes every channel to its clear code at once, counted and
raised, or is latched in Deep. (The code of a term and what stands in for it at a gain of 0 are the model's choice, log entry 220.) -/
def Obligations.TheDacFollowsAndClears : Prop :=
  (∀ (s : State) (cc : Fin 4) (req : BitVec 20),
    let ch := cc.val
    let out := dacOut s.regs ch
    let m := dacStep s.regs ch
    let c : Int := dacCode s.regs ch
    let a : Int := dacAmp s.regs ch
    let g := Map.get DacGen.reset s.dac.gens ch
    let still := clearInForce s.regs = true ∨ inDeep s.regs = true
    let toward := fun (t : Nat) => if m = 0 then t else if out ≤ t then min t (out + m) else max t (out - m)
    let drives := fun (code : Nat) (u : State) => dacOut u.regs ch = code % 2 ^ 32 ∧ RegsBut [Rg.HDC_CH_OUT ch] s u ∧
      u = { s with regs := u.regs, out := u.out, dac := u.dac, blf := u.blf, free := s.free + 1 } ∧ u.blf.base0 = s.blf.base0 ∧
      u.out = (if out = code then s.out else .pin (.dacOut ch code) true :: s.out) ∧ u.phase 1 = s.phase 1 ∧ u.phase 2 = s.phase 2 ∧
      (ch ≠ 0 → u.blf = s.blf) ∧ (s.blf.base2.lead ≠ none → u.blf.base2 = s.blf.base2) ∧
      (ch = 0 → ∀ b, b = 1 ∨ (b = 2 ∧ s.blf.base2.lead = none) → (u.blf.base b).comp =
        (s.blf.base b).comp - ((code : Int) - out) * sgn 32 (s.rd (Rg.HDC_CH_GAIN 0)).toNat * 1000)
    let tick := fun (P : State → Prop) => Answers (.dacStepTick cc req) s P
    (inDeep s.regs = true → tick fun u => u = { s with free := s.free + 1 }) ∧
    (inDeep s.regs = false → clearInForce s.regs = true → tick fun u => drives (dacClear s.regs ch) u ∧ u.dac = s.dac) ∧
    (¬ still → (dacSource s.regs ch = 0 ∨ dacSource s.regs ch = 3) → tick fun u => drives (toward (dacCode s.regs ch)) u ∧ u.dac = s.dac) ∧
    let gain := sgn 32 (s.rd (Rg.HDC_CH_GAIN 0)).toNat
    let asks := fun (r : Nat) => tick fun u => drives (toward r) u ∧ u.dac = { s.dac with held := some r }
    (¬ still → dacSource s.regs ch = 1 → ch ≠ 0 → tick fun u => drives (toward req.toNat) u ∧ u.dac = s.dac) ∧
    (¬ still → dacSource s.regs ch = 1 → ch = 0 → gain ≠ 0 →
      (tbState s.regs 0 ≠ 4 → asks (freqCode gain s.blf.base0.freq) ∧ (s.blf.base0.freq = 0 → asks 0x80000)) ∧
      (tbState s.regs 0 = 4 → asks (freqCode gain s.blf.base0.ask))) ∧
    (¬ still → dacSource s.regs ch = 1 → ch = 0 → gain = 0 → asks (if tbState s.regs 0 = 4 then s.dac.held.getD req.toNat else req.toNat)) ∧
    (¬ still → dacSource s.regs ch = 2 → dacKind s.regs ch = 0 → m ≠ 0 → 0 ≤ c - a → tick fun u =>
      let v := if g.up then min (c + a) (g.value + m) else max (c - a) (g.value - m)
      (Map.get DacGen.reset u.dac.gens ch).value = v ∧
        (Map.get DacGen.reset u.dac.gens ch).up = (if g.up then decide (v ≠ c + a) else decide (v = c - a)) ∧
        drives (toward (min 0xFFFFF v).toNat) u) ∧
    (¬ still → dacSource s.regs ch = 2 → dacKind s.regs ch = 1 → m ≠ 0 → tick fun u =>
      (Map.get DacGen.reset u.dac.gens ch).value = (if c + a ≤ g.value then c - a else min (c + a) (g.value + m)) ∧
        drives (if c + a ≤ g.value then (min 0xFFFFF (c - a)).toNat else toward (min 0xFFFFF (min (c + a) (g.value + m))).toNat) u) ∧
    (¬ still → dacSource s.regs ch = 2 → dacKind s.regs ch = 2 → tick fun u =>
      let l := lfsrNext g.lfsr
      (Map.get DacGen.reset u.dac.gens ch).lfsr = l ∧
        drives (toward (min 0xFFFFF (c - a + (l.toNat : Int) % (2 * a + 1))).toNat) u)) ∧
  (∀ s : State,
    (clearInForce s.regs = true → Answers .dacClearPinAssert s fun u => (u.rd Rg.HDC_STATUS).getLsbD 0 = true ∧
      RegsBut [Rg.HDC_STATUS] s u ∧ u = { s with regs := u.regs }) ∧
    (clearInForce s.regs = false → inDeep s.regs = true → Answers .dacClearPinAssert s fun u => (u.rd Rg.HDC_STATUS).getLsbD 0 = true ∧
      RegsBut [Rg.HDC_STATUS] s u ∧ u = { s with regs := u.regs, dac := { s.dac with latched := true } }) ∧
    (clearInForce s.regs = false → inDeep s.regs = false → Answers .dacClearPinAssert s fun u => (u.rd Rg.HDC_STATUS).getLsbD 0 = true ∧
      CountedBy Rg.HDC_CLEARS 1 s u ∧ (u.rd (Rg.EVT_STATUS 11)).getLsbD 0 = true ∧ (∀ ch, ch < 4 → dacOut u.regs ch = dacClear s.regs ch) ∧
      QuietBut ([Rg.HDC_STATUS, Rg.HDC_CLEARS] ++ (List.range 4).map Rg.HDC_CH_OUT) s u ∧ u.phase 1 = s.phase 1 ∧ u.phase 2 = s.phase 2 ∧
      u.blf.base0 = s.blf.base0 ∧ OnlyReports { s with blf := u.blf } u) ∧
    (Answers .dacClearPinRelease s fun u => u.rd Rg.HDC_STATUS = s.rd Rg.HDC_STATUS &&& ~~~ 1#32 ∧ RegsBut [Rg.HDC_STATUS] s u ∧
      u = { s with regs := u.regs }) ∧
    (∀ v : Word, Answers (.dacCauseClear v) s fun u => u.rd Rg.HDC_STATUS = s.rd Rg.HDC_STATUS &&& ~~~ (v &&& 0xE#32) ∧
      RegsBut [Rg.HDC_STATUS] s u ∧ u = { s with regs := u.regs }))

/-- R343, R354 to R356, R359 to R367: power requests and their races. A request is satisfied, started, absorbed or made pending in place of another;
an entry is refused by a unit that would lose state, commits, or ends by timeout, which leaves the domain as it was, counted, raised and named; a wake
during an entry is latched and served at its end. The device goes Active, Standby, Deep under the conditions of R361; in Deep a wake source releases
SLEEP_OUT, and at the wake the bases have advanced over the sleep under a new epoch; what Deep does not keep is at its reset value. -/
def Obligations.PowerIsRequestedAndSwitched : Prop :=
  (∀ (s : State) (dd : Fin 96) (v : Word),
    let d := dd.val
    let reg := Rg.PWR_DOM d
    let t := Fd.PWR_DOM_REQ_target.get v
    let st := domState s.regs d
    let f := domFlight s.regs d
    let w := domPending s.regs d
    let idle := f = 7 ∧ d ∉ s.pwr.exiting
    let only := fun (r : List Nat) (u : State) => QuietBut r s u ∧ OnlyReports { s with pwr := u.pwr } u
    let req := fun (P : State → Prop) => Answers (.powerDomainRequest dd v) s P
    (supports d t = false → exec (.powerDomainRequest dd v) s = .next s) ∧
    (supports d t = true → f = t → exec (.powerDomainRequest dd v) s = .next s) ∧
    (supports d t = true → f ≠ t → idle → st = t → req fun u => only [] u ∧ u.pwr = s.pwr) ∧
    (supports d t = true → f ≠ t → idle → st ≠ t → (t = 4 ∨ (isCluster d = true ∧ st ≠ 4)) → req fun u => only [reg] u ∧
      domFlight u.regs d = t ∧ domState u.regs d = st ∧ u.pwr = { s.pwr with exiting := d :: s.pwr.exiting }) ∧
    (supports d t = true → f ≠ t → idle → st ≠ t → t ≠ 4 → (isCluster d = false ∨ st = 4) →
      (s.refuser d t = none → req fun u => only [reg] u ∧ domFlight u.regs d = t ∧ domState u.regs d = st ∧
        u.pwr = { s.pwr with quiesce := d :: s.pwr.quiesce }) ∧
      (∀ unit why, s.refuser d t = some (unit, why) → req fun u => only [Rg.PWR_REFUSALS, Rg.PWR_LAST_REFUSER] u ∧ u.pwr = s.pwr ∧
        CountedBy Rg.PWR_REFUSALS 1 s u ∧ (u.rd (Rg.EVT_STATUS 11)).getLsbD 1 = true ∧
        (u.rd Rg.PWR_LAST_REFUSER).toNat = unit % 65536 * 65536 + d * 256 + why % 256)) ∧
    (supports d t = true → f ≠ t → ¬ idle → req fun u => domPending u.regs d = t ∧ domFlight u.regs d = f ∧ domState u.regs d = st ∧
      u.pwr = s.pwr ∧ only [reg, Rg.PWR_SUPERSEDED] u ∧
      (if w = 7 then u.rd Rg.PWR_SUPERSEDED = s.rd Rg.PWR_SUPERSEDED else CountedBy Rg.PWR_SUPERSEDED 1 s u)) ∧
    (d ∉ s.pwr.quiesce → exec (.powerCommit (.dom dd)) s = .next s ∧ ∀ r, exec (.quiesceTimeout (.dom dd) r) s = .next s) ∧
    (d ∈ s.pwr.quiesce → f ≠ 7 → w = 7 → Answers (.powerCommit (.dom dd)) s fun u => domState u.regs d = f ∧ domFlight u.regs d = 7 ∧
      d ∉ u.pwr.quiesce ∧ u.drum = s.drum ∧ u.ppt = s.ppt ∧
      (∀ c, c < 18 → d = 2 + c → f = 3 → u.mem = s.mem ∧ u.cores = s.cores ∧ u.cpl = s.cpl) ∧
      (∀ c, c < 18 → d = 2 + c → f ≤ 2 → (∀ j, j < 8 → u.core (8 * c + j) = Core.reset) ∧ u.cup c = Cupola.reset ∧
        (∀ a, tileBase c ≤ a → a < tileBase (c + 1) → Memory.byte u.mem a =
          if f = 2 ∧ (s.getF (Rg.PWR_TILE_KEEP c) Fd.PWR_TILE_KEEP_banks).testBit (bankOf a) then Memory.byte s.mem a else 0)) ∧
      (s.getF reg Fd.PWR_DOM_latched = 0 → u.pwr.exiting = s.pwr.exiting) ∧
      (s.getF reg Fd.PWR_DOM_latched = 1 → d ∈ u.pwr.exiting ∧ CountedBy Rg.PWR_REPLAYED 1 s u)) ∧
    (∀ r : BitVec 16, d ∈ s.pwr.quiesce → w = 7 → Answers (.quiesceTimeout (.dom dd) r) s fun u => d ∉ u.pwr.quiesce ∧ domState u.regs d = st ∧
      domFlight u.regs d = 7 ∧ u.getF reg Fd.PWR_DOM_latched = 0 ∧ CountedBy Rg.PWR_REFUSALS 1 s u ∧ (u.rd (Rg.EVT_STATUS 11)).getLsbD 1 = true ∧
      (u.rd Rg.PWR_LAST_REFUSER).toNat = r.toNat * 65536 + d * 256 + 5 ∧ only [reg, Rg.PWR_REFUSALS, Rg.PWR_LAST_REFUSER] u) ∧
    (d ∉ s.pwr.exiting → exec (.powerExitComplete (.dom dd)) s = .next s) ∧
    (d ∈ s.pwr.exiting → (f = 4 ∨ f = 7) → w = 7 → Answers (.powerExitComplete (.dom dd)) s fun u => domState u.regs d = 4 ∧
      domFlight u.regs d = 7 ∧ d ∉ u.pwr.exiting ∧ u.drum = s.drum ∧ u.ppt = s.ppt ∧ u.qm = s.qm ∧
      (∀ c, c < 18 → d = 2 + c → st ≤ 2 → ∀ j, j < 8 → coreRuns u.regs (8 * c + j) = true ∧ u.core (8 * c + j) = Core.reset) ∧
      (¬ (isCluster d = true ∧ st ≤ 2) → u.mem = s.mem ∧ u.cores = s.cores))) ∧
  (∀ (s : State) (c : Fin 18), Answers (.clusterNapWake c) s fun u =>
    let d := 2 + c.val
    (d ∈ s.pwr.quiesce → u.getF (Rg.PWR_DOM d) Fd.PWR_DOM_latched = 1 ∧ RegsBut [Rg.PWR_DOM d] s u ∧ u = { s with regs := u.regs }) ∧
    (d ∉ s.pwr.quiesce → clusterState s.regs c = 3 → d ∉ s.pwr.exiting → u = { s with pwr := { s.pwr with exiting := d :: s.pwr.exiting } }) ∧
    (d ∉ s.pwr.quiesce → (clusterState s.regs c ≠ 3 ∨ d ∈ s.pwr.exiting) → u = s)) ∧
  (∀ (s : State) (v : Word),
    let t := Fd.PWR_DEVICE_REQ_target.get v
    let f := devFlight s.regs
    let w := devPending s.regs
    let req := fun (P : State → Prop) => Answers (.deviceStateRequest v) s P
    let only := fun (r : List Nat) (u : State) => QuietBut r s u ∧ OnlyReports { s with pwr := u.pwr } u
    ((2 < t ∨ f = t) → exec (.deviceStateRequest v) s = .next s) ∧
    (t ≤ 2 → f = 7 → (devState s.regs = t ∨ deviceAllowed s.regs t = false) → req fun u => only [] u ∧ u.pwr = s.pwr) ∧
    (t = 0 → f = 7 → devState s.regs = 1 → req fun u => only [Rg.PWR_DEVICE] u ∧ devFlight u.regs = 0 ∧ u.pwr.deviceExiting = true) ∧
    (1 ≤ t → t ≤ 2 → f = 7 → devState s.regs = t - 1 → deviceAllowed s.regs t = true →
      (deviceRefuser s.regs s.cpl t = none → req fun u => only [Rg.PWR_DEVICE] u ∧ devFlight u.regs = t ∧ u.pwr.deviceQuiesce = true ∧
        u.pwr.latched = false) ∧
      (∀ unit why, deviceRefuser s.regs s.cpl t = some (unit, why) → req fun u => u.pwr = s.pwr ∧ CountedBy Rg.PWR_REFUSALS 1 s u ∧
        (u.rd Rg.PWR_LAST_REFUSER).toNat = unit % 65536 * 65536 + why % 256 ∧ only [Rg.PWR_REFUSALS, Rg.PWR_LAST_REFUSER] u)) ∧
    (t ≤ 2 → f ≠ 7 → f ≠ t → req fun u => devPending u.regs = t ∧ devFlight u.regs = f ∧ u.pwr = s.pwr ∧
      (if w = 7 then u.rd Rg.PWR_SUPERSEDED = s.rd Rg.PWR_SUPERSEDED else CountedBy Rg.PWR_SUPERSEDED 1 s u))) ∧
  (∀ s : State,
    let f := devFlight s.regs
    (s.pwr.deviceQuiesce = false → exec (.powerCommit .device) s = .next s ∧ ∀ r, exec (.quiesceTimeout .device r) s = .next s) ∧
    (s.pwr.deviceQuiesce = true → f = 1 → devPending s.regs = 7 → Answers (.powerCommit .device) s fun u => devState u.regs = 1 ∧
      devFlight u.regs = 7 ∧ u.pwr.deviceQuiesce = false ∧ (∀ c, c < 18 → clusterState u.regs c ≤ 2) ∧
      (∀ g, g < 4 → domState u.regs (20 + g) = 0) ∧ u.drum = s.drum ∧ u.ppt = s.ppt) ∧
    (s.pwr.deviceQuiesce = true → f = 2 → devPending s.regs = 7 → Answers (.powerCommit .device) s fun u => devState u.regs = 2 ∧
      u.pwr.deviceQuiesce = false ∧ (∀ c, c < 18 → clusterState u.regs c = 0) ∧ u.blf.sleep = some (s.phase 0, s.phase 2, s.phase 1) ∧
      domState u.regs 25 = (if s.flag Rg.PWR_DEEP_CFG Fd.PWR_DEEP_CFG_dram_keep then 1 else 0) ∧ Out.pin .sleepOut true ∈ u.out ∧
      (s.flag Rg.PWR_DEEP_CFG Fd.PWR_DEEP_CFG_dram_keep = false → ∀ a, a < 0x4000000000 → Memory.byte u.mem a = 0) ∧
      (s.flag Rg.PWR_DEEP_CFG Fd.PWR_DEEP_CFG_dram_keep = true → ∀ a, a < 0x4000000000 → Memory.byte u.mem a = Memory.byte s.mem a) ∧
      (s.pwr.latched = true → CountedBy Rg.PWR_REPLAYED 1 s u ∧ u.out.head? = some (.pin .sleepOut false))) ∧
    (∀ r : BitVec 16, s.pwr.deviceQuiesce = true → devPending s.regs = 7 → Answers (.quiesceTimeout .device r) s fun u =>
      u.pwr.deviceQuiesce = false ∧ u.pwr.latched = false ∧ devState u.regs = devState s.regs ∧ devFlight u.regs = 7 ∧
        CountedBy Rg.PWR_REFUSALS 1 s u ∧ (u.rd Rg.PWR_LAST_REFUSER).toNat = r.toNat * 65536 + 5) ∧
    (s.pwr.deviceExiting = false → exec (.powerExitComplete .device) s = .next s) ∧
    (s.pwr.deviceExiting = true → devPending s.regs = 7 → Answers (.powerExitComplete .device) s fun u => devState u.regs = 0 ∧
      devFlight u.regs = 7 ∧ u.pwr.deviceExiting = false ∧ (∀ c, c < 18 → role s.regs c = 0 → 3 ≤ clusterState u.regs c) ∧
      u.drum = s.drum ∧ u.ppt = s.ppt) ∧
    (∀ (bit : Nat) (i : Instr) (on : Bool), (bit = 1 ∧ i = .wakePin ∧ on = s.flag Rg.PWR_WAKE_CFG Fd.PWR_WAKE_CFG_pin_en) ∨
        (bit = 2 ∧ i = .keeperAlarm ∧ on = s.flag Rg.PWR_WAKE_CFG Fd.PWR_WAKE_CFG_alarm_en) →
      (on = false → exec i s = .next s) ∧
      (on = true → inDeep s.regs = true → exec i s = .next { s with
        pwr := { s.pwr with wake := s.pwr.wake ||| bit }
        out := if s.pwr.wake = 0 then .pin .sleepOut false :: s.out else s.out }) ∧
      (on = true → inDeep s.regs = false → s.pwr.deviceQuiesce = true → f = 2 → exec i s = .next { s with
        pwr := { s.pwr with latched := true, wake := s.pwr.wake ||| bit } }) ∧
      (on = true → inDeep s.regs = false → (s.pwr.deviceQuiesce = false ∨ f ≠ 2) → exec i s = .next s)) ∧
    (∀ (n : Nat) (hash : Bool), (inDeep s.regs = false ∨ s.pwr.wake = 0) → exec (.deepWakeResume n hash) s = .next s) ∧
    (∀ (n : Nat) (hash : Bool) (p : Nat × Nat × Nat), s.blf.sleep = some p →
      let adv := n * s.rd64 Rg.BLF_KEEPER_RATIO_LO
      let woken := fun (u : State) => u.now = s.now + n * 30000 ∧ u.phase 0 = p.1 + adv ∧ u.phase 2 = p.2.1 + adv * 100000 / (98304 * 65536) ∧
        u.phase 1 = p.2.2 ∧ u.rd64 Rg.BLF_SLEEP_LO = n % 2 ^ 64 ∧ u.rd64 Rg.BLF_KEEPER_RATIO_LO = s.rd64 Rg.BLF_KEEPER_RATIO_LO ∧
        u.flag Rg.BLF_PPS_CTRL Fd.BLF_PPS_CTRL_in_enable = (tbSource s.regs 0 == 2 && s.flag Rg.BLF_PPS_CTRL Fd.BLF_PPS_CTRL_in_enable) ∧
        ∀ b, b < 3 → u.getF (Rg.BLF_TB_STATUS b) Fd.BLF_TB_STATUS_epoch = (s.getF (Rg.BLF_TB_STATUS b) Fd.BLF_TB_STATUS_epoch + 1) %
          (Fd.BLF_TB_STATUS_epoch.max + 1)
      (inDeep s.regs = true → s.pwr.wake ≠ 0 → hash = true → keepBit s.regs 9 = true → Answers (.deepWakeResume n hash) s fun u => woken u ∧
        u.boot.short = true ∧ bootStage u.regs = 1 ∧ devState u.regs = 1 ∧ u.getF Rg.PCE_MBX_GLOBAL Fd.PCE_MBX_GLOBAL_ready = 0 ∧
        u.getF Rg.PWR_WAKE_STATUS Fd.PWR_WAKE_STATUS_pin = b2n (s.pwr.wake.testBit 0) ∧ u.pwr.wake = 0 ∧ u.dac.latched = false ∧
        tbState u.regs 1 = 0 ∧ (∀ b, b = 0 ∨ b = 2 → tbStepped u.regs b = false ∧ tbState u.regs b = if tbState s.regs b = 0 then 0 else 1) ∧
        (tbState s.regs 0 ≠ 0 → (u.rd (Rg.BLF_TB_ERROR 0)).toNat = ((if s.getF Rg.BLF_KEEPER_STATUS Fd.BLF_KEEPER_STATUS_calibrated = 1 then 100
          else 100000) + s.blf.base0.xtal) * n / 32768 % 2 ^ 32) ∧ u.mem = s.mem ∧ u.ppt = s.ppt ∧ u.drum = State.reset.drum ∧
        (∀ c, c < 18 → role u.regs c = role s.regs c) ∧ (∀ g, g < 32 → u.rd (Rg.EVT_ENABLE g) = 0) ∧
        ∀ a, isReg a = true → winOf a ∈ [0, 2, 3, 4, 6, 7, 9, 14] → u.rd a = regReset a) ∧
      (inDeep s.regs = true → s.pwr.wake ≠ 0 → (hash = false ∨ keepBit s.regs 9 = false) → Answers (.deepWakeResume n hash) s fun u => woken u ∧
        u.boot.short = false ∧ u.boot.woken = true ∧ u.mem = [] ∧ u.cores = [] ∧ u.cpl = [])))

/-- R371, R373, R375, R377 to R381: the Lantern modem. A preamble opens a window, or takes it or a packet over when it is enough stronger; the sync word
opens a packet; an expired window and a packet's end return to SEARCH, and the packet is counted and handed over, or counted as lost when eight wait.
The AGC moves the gain index by the difference from its target and writes the transceiver. Frames of the control port go one by one. -/
def Obligations.LanternHearsAndAdapts : Prop :=
  ∀ (s : State),
    let on := lntOn s.regs
    let st := lntState s.regs
    let pd := s.lnt.pd
    let idx := s.getF Rg.LNT_STATUS Fd.LNT_STATUS_gain_index
    let diff := fun (p : Int) => p - sgn 8 (s.getF Rg.LNT_AGC Fd.LNT_AGC_target) * 256
    let moves := fun (p : Int) => s.getF Rg.LNT_CTRL Fd.LNT_CTRL_agc_en = 1 ∧ s.getF Rg.LNT_AGC Fd.LNT_AGC_hyst * 256 < (diff p).natAbs
    let idx' := fun (p : Int) => (max 0 (min 63 ((idx : Int) + roundDb (diff p)))).toNat
    let word := fun (p : Int) => BitVec.ofNat 24 (s.getF Rg.LNT_AGC Fd.LNT_AGC_agc_addr * 65536 +
      s.getF (Rg.LNT_TABLE (idx' p)) Fd.LNT_TABLE_gain_word)
    let gains := fun (p : Int) (u : State) => (moves p → u.getF Rg.LNT_STATUS Fd.LNT_STATUS_gain_index = idx' p ∧
        u.lnt.spi = s.lnt.spi ++ [(false, word p)] ∧ (s.lnt.spi = [] → u.out.head? = some (.spi (word p)))) ∧
      (¬ moves p → u.getF Rg.LNT_STATUS Fd.LNT_STATUS_gain_index = idx ∧ u.lnt.spi = s.lnt.spi)
    let only := fun (r : List Nat) (u : State) => QuietBut (Rg.LNT_STATUS :: r) s u ∧ OnlyReports { s with lnt := u.lnt } u
    (∀ p : Int,
      let run := fun (P : State → Prop) => Answers (.preambleDetect p) s P
      ((on = false ∨ st = 3 ∨ (st = 1 ∧ p < pd + 768) ∨
        (st = 2 ∧ p < s.lnt.syncRssi + 256 * s.getF Rg.LNT_RX_CFG Fd.LNT_RX_CFG_capture_db)) → exec (.preambleDetect p) s = .next s) ∧
      (on = true → st = 0 → run fun u => lntState u.regs = 1 ∧ u.getF Rg.LNT_STATUS Fd.LNT_STATUS_frozen = 1 ∧ RegsBut [Rg.LNT_STATUS] s u ∧
        u = { s with
          regs := u.regs
          lnt := { s.lnt with
            pd := p
            captured := false } }) ∧
      (on = true → st = 1 → pd + 768 ≤ p → run fun u => lntState u.regs = 1 ∧ CountedBy (Rg.LNT_CNT 3) 1 s u ∧ gains p u ∧
        u.lnt = { s.lnt with
          pd := p
          spi := u.lnt.spi } ∧ only [Rg.LNT_CNT 3] u) ∧
      (on = true → st = 2 → s.lnt.syncRssi + 256 * s.getF Rg.LNT_RX_CFG Fd.LNT_RX_CFG_capture_db ≤ p → run fun u => lntState u.regs = 1 ∧
        CountedBy (Rg.LNT_CNT 4) 1 s u ∧ gains p u ∧
        u.lnt = { s.lnt with
          pd := p
          captured := true
          spi := u.lnt.spi } ∧ only [Rg.LNT_CNT 4] u)) ∧
    (∀ r : Int, (on = true → st = 1 → Answers (.syncWordFound r) s fun u => lntState u.regs = 2 ∧ u.getF Rg.LNT_STATUS Fd.LNT_STATUS_frozen = 1 ∧
        u.getF Rg.LNT_STATUS Fd.LNT_STATUS_rssi = twos 16 r ∧ RegsBut [Rg.LNT_STATUS] s u ∧
        u = { s with
          regs := u.regs
          lnt := { s.lnt with
            syncRssi := r
            syncTime := s.rt } }) ∧
      ((on = false ∨ st ≠ 1) → exec (.syncWordFound r) s = .next s)) ∧
    (st = 1 → Answers .windowExpiry s fun u => lntState u.regs = 0 ∧ u.getF Rg.LNT_STATUS Fd.LNT_STATUS_frozen = 0 ∧
      CountedBy (Rg.LNT_CNT 2) 1 s u ∧ u.lnt = s.lnt ∧ only [Rg.LNT_CNT 2] u) ∧
    (st ≠ 1 → exec .windowExpiry s = .next s) ∧
    (∀ (r : Int) (n : Nat),
      let live := s.getF Rg.LNT_CTRL Fd.LNT_CTRL_agc_en = 1 ∧ s.getF Rg.LNT_STATUS Fd.LNT_STATUS_frozen = 0
      (on = false → exec (.agcMeasurement r n) s = .next s) ∧
      (on = true → Answers (.agcMeasurement r n) s fun u => CountedBy (Rg.LNT_CNT 9) n s u ∧ lntState u.regs = st ∧ only [Rg.LNT_CNT 9] u ∧
        u.lnt = { s.lnt with spi := u.lnt.spi } ∧ (live → u.getF Rg.LNT_STATUS Fd.LNT_STATUS_rssi = twos 16 r ∧ gains r u) ∧
        (¬ live → u.rd Rg.LNT_STATUS = s.rd Rg.LNT_STATUS ∧ u.lnt = s.lnt))) ∧
    (∀ v : Word, (Fd.LNT_SPI_CMD_go.get v = 0 → exec (.lanternSpiCommand v) s = .next s) ∧
      (Fd.LNT_SPI_CMD_go.get v = 1 → Answers (.lanternSpiCommand v) s fun u =>
        u.getF Rg.LNT_SPI_CMD Fd.LNT_SPI_CMD_frame = Fd.LNT_SPI_CMD_frame.get v ∧ u.getF Rg.LNT_SPI_CMD Fd.LNT_SPI_CMD_busy = 1 ∧
        RegsBut [Rg.LNT_SPI_CMD] s u ∧ u = { s with
          regs := u.regs
          out := if s.lnt.spi = [] then .spi (BitVec.ofNat 24 v.toNat) :: s.out else s.out
          lnt := { s.lnt with spi := s.lnt.spi ++ [(true, BitVec.ofNat 24 v.toNat)] } })) ∧
    (∀ m : BitVec 16, (s.lnt.spi = [] → exec (.spiFrameEnd m) s = .next s) ∧
      (∀ host f rest, s.lnt.spi = (host, f) :: rest → Answers (.spiFrameEnd m) s fun u =>
        u.rd Rg.LNT_SPI_DATA = (if host then m.setWidth 32 else s.rd Rg.LNT_SPI_DATA) ∧
        u.getF Rg.LNT_SPI_CMD Fd.LNT_SPI_CMD_busy = b2n (rest.any (·.1)) ∧ RegsBut [Rg.LNT_SPI_DATA, Rg.LNT_SPI_CMD] s u ∧
        u.out = (match rest with | [] => s.out | e :: _ => .spi e.2 :: s.out) ∧
        u = { s with
          regs := u.regs
          out := u.out
          lnt := { s.lnt with spi := rest } }))

/-- R373, R376, R377, R379 to R381: the packets of Lantern. The end of a packet returns to SEARCH; the bytes are recovered, the length and the CRC
judge them, and the packet waits behind those that wait; eight waiting lose it, counted. A transmission takes a descriptor: the payload goes out
framed and whitened, as the symbols of its bits, or is answered unsent where it is poisoned; its end answers it. What waits is handed over in its
order, and at each retry. -/
def Obligations.LanternPacketsAreHandedOver : Prop :=
  ∀ (s : State),
    let st := lntState s.regs
    let held := s.lnt.heldPkts
    let rxOf := fun (l : List LntPkt) => (l.filter (fun p => !p.tx)).length
    let within := fun (u : State) => u = { s with
      mem := u.mem
      mec := u.mec
      regs := u.regs
      out := u.out
      host := u.host
      wtr := u.wtr
      qm := u.qm
      lnt := u.lnt }
    -- `l` has been handed over from its front, in order, until one must wait
    let handed := fun (l : List LntPkt) (u : State) => u.lnt.heldPkts.length ≤ l.length ∧
      u.lnt.heldPkts.tail = (l.drop (l.length - u.lnt.heldPkts.length)).tail ∧
      u.getF Rg.LNT_STATUS Fd.LNT_STATUS_held = rxOf u.lnt.heldPkts % 16 ∧ u.lnt = { s.lnt with
        heldPkts := u.lnt.heldPkts
        tx := u.lnt.tx }
    (Answers .lanternRxRetry s fun u => within u ∧ handed held u ∧ lntState u.regs = st ∧ u.lnt.tx = s.lnt.tx ∧
      (held = [] → RegsBut [Rg.LNT_STATUS] s u ∧ u = { s with regs := u.regs })) ∧
    (∀ raw : List Byte,
      let bs := whiten (s.flag Rg.LNT_CTRL Fd.LNT_CTRL_whiten) raw
      let n := le bs 0 1
      let payload := fit 0 n (bs.drop 1)
      let ok := n != 0 && (bs.drop (1 + n)).take 2 == leBytes 2 (crc16 (BitVec.ofNat 8 n :: payload)).toNat
      let entry := leBytes 8 0 ++ leBytes 2 n ++ [0] ++ leBytes 1 (b2n ok + 2 * b2n s.lnt.captured) ++ leBytes 2 (twos 16 s.lnt.syncRssi) ++
        leBytes 2 0 ++ leBytes 8 s.lnt.syncTime ++ leBytes 8 0
      (st ≠ 2 → exec (.packetEnd raw) s = .next s) ∧
      (st = 2 → Answers (.packetEnd raw) s fun u => within u ∧ lntState u.regs = 0 ∧ u.getF Rg.LNT_STATUS Fd.LNT_STATUS_frozen = 0 ∧
        CountedBy (Rg.LNT_CNT (if ok then 0 else 1)) 1 s u ∧ u.lnt.tx = s.lnt.tx ∧
        (8 ≤ rxOf held → CountedBy (Rg.LNT_CNT 5) 1 s u ∧ u.mem = s.mem ∧ u.qm = s.qm ∧ u.lnt = s.lnt) ∧
        (rxOf held < 8 → u.rd (Rg.LNT_CNT 5) = s.rd (Rg.LNT_CNT 5) ∧ handed (held ++ [⟨false, none, payload, entry⟩]) u))) ∧
    (s.lnt.tx = none → exec .lanternTxEnd s = .next s) ∧
    (∀ e, s.lnt.tx = some e → Answers .lanternTxEnd s fun u => within u ∧ lntState u.regs = 0 ∧ u.lnt.tx = none ∧
      CountedBy (Rg.LNT_CNT 7) 1 s u ∧ Out.pin .lntTr false ∈ u.out ∧ Out.pin .lntPaEn false ∈ u.out ∧
      handed (held ++ [⟨true, none, [], e⟩]) u) ∧
    (let q := s.getF Rg.LNT_QUEUE_TX Fd.LNT_QUEUE_TX_queue
    let d := s.qx.dequeue 5 q
    let desc := vals d.2.2
    let buf := le desc 0 8 % 2 ^ 48
    let busy := st = 1 ∨ st = 2
    let may := lntOn s.regs = true ∧ (st = 0 ∨ (busy ∧ s.flag Rg.LNT_CTRL Fd.LNT_CTRL_tx_preempt = true))
    (¬ may → exec .lanternTxStart s = .next s) ∧
    (may → d.2.1 ≠ qOk → Answers .lanternTxStart s fun u => within u ∧ u.lnt = s.lnt ∧ lntState u.regs = st) ∧
    (may → d.2.1 = qOk → Answers .lanternTxStart s fun u => within u ∧ (busy → CountedBy (Rg.LNT_CNT 6) 1 s u) ∧
      (∀ (bytes : List PByte), (d.1.mm.read 5 buf (le desc 8 2) .none).2 = bytes →
        (anyP bytes = false ∧ anyP d.2.2 = false → lntState u.regs = 3 ∧ u.getF Rg.LNT_STATUS Fd.LNT_STATUS_frozen = 1 ∧
          u.out.head? = some (lntAir s.regs (whiten (s.flag Rg.LNT_CTRL Fd.LNT_CTRL_whiten) (lntFrame (vals bytes)))) ∧
          Out.pin .lntTr true ∈ u.out ∧ Out.pin .lntPaEn true ∈ u.out ∧ u.lnt.heldPkts = held ∧
          u.lnt.tx = some (leBytes 8 (le desc 0 8) ++ leBytes 8 0 ++ leBytes 8 (s.rt + txLead s.regs) ++ leBytes 4 (le desc 24 4) ++
            leBytes 4 0)) ∧
        (anyP bytes = true ∨ anyP d.2.2 = true → CountedBy (Rg.LNT_CNT 8) 1 s u ∧ (u.rd (Rg.EVT_STATUS 11)).getLsbD 2 = true ∧
          lntState u.regs = (if busy then 0 else st) ∧ u.lnt.tx = s.lnt.tx ∧
          handed (held ++ [⟨true, none, [], leBytes 8 (le desc 0 8) ++ leBytes 3 0 ++ leBytes 1 4 ++ leBytes 12 0 ++
            leBytes 4 (le desc 24 4) ++ leBytes 4 0⟩]) u))))

/-- R384, R386 to R390: events are cleared, and counters are copied. Ones written to a group's status clear their events, and the group's message goes out
again where an enabled one stands. While Drum is stopped a boundary takes a snapshot where one is due by its period or asked for and none is under
way: the new bank holds the counters of the frames whose domains hold state, the others from the old bank with their valid bit down. Its end writes
the firmware bank, raises the sequence, answers the commands, and raises the monitors whose word has risen to their threshold. -/
def Obligations.EventsClearAndCountersAreCopied : Prop :=
  (∀ (s : State) (g : Fin 32) (v : Word), Answers (.eventStatusClear g v) s fun u =>
    let st := s.rd (Rg.EVT_STATUS g) &&& ~~~ v
    u.rd (Rg.EVT_STATUS g) = st ∧ RegsBut [Rg.EVT_STATUS g] s u ∧ u = { s with
      regs := u.regs
      out := if st &&& s.rd (Rg.EVT_ENABLE g) ≠ 0 then .msix (vectorOf s.host g) :: s.out else s.out }) ∧
  (∀ (s : State) (v : Word), Answers (.snapRequestBit v) s fun u =>
    u.getF Rg.EVT_SNAP_CTRL Fd.EVT_SNAP_CTRL_period_slots = Fd.EVT_SNAP_CTRL_period_slots.get v ∧
    u.getF Rg.EVT_SNAP_CTRL Fd.EVT_SNAP_CTRL_request = max (s.getF Rg.EVT_SNAP_CTRL Fd.EVT_SNAP_CTRL_request) (Fd.EVT_SNAP_CTRL_request.get v) ∧
    RegsBut [Rg.EVT_SNAP_CTRL] s u ∧ u = { s with regs := u.regs }) ∧
  (∀ s : State,
    let n := s.evt.sincePeriodic + 1
    let period := s.getF Rg.EVT_SNAP_CTRL Fd.EVT_SNAP_CTRL_period_slots
    let due := (period ≠ 0 ∧ period ≤ n) ∨ s.getF Rg.EVT_SNAP_CTRL Fd.EVT_SNAP_CTRL_request = 1
    let stopped := s.getF Rg.DRM_STATUS Fd.DRM_STATUS_running = 0
    (¬ stopped → exec .snapshotBoundary s = .next s) ∧
    (stopped → (¬ due ∨ s.evt.snapBusy = true) → exec .snapshotBoundary s = .next { s with evt := { s.evt with sincePeriodic := n } }) ∧
    (stopped → due → s.evt.snapBusy = false → Answers .snapshotBoundary s fun u => u.evt.snapBusy = true ∧
      u.getF Rg.EVT_SNAP_CTRL Fd.EVT_SNAP_CTRL_request = 0 ∧ u.rd Rg.EVT_SNAP_TICK = s.host.lastTick ∧
      RegsBut [Rg.EVT_SNAP_CTRL, Rg.EVT_SNAP_TICK] s u ∧ u.evt.live = s.evt.live ∧
      u.evt.bank (snapSeq s.regs) = s.evt.bank (snapSeq s.regs) ∧
      (period ≠ 0 ∧ period ≤ n → u.evt.sincePeriodic = 0) ∧
      u = { s with
        regs := u.regs
        host := { s.host with cmds := u.host.cmds }
        evt := u.evt } ∧
      (∀ f, f < 256 → isFrame f = true →
        let word := fun (w : Nat) => Map.get 0 (u.evt.bank (snapSeq s.regs + 1)) (128 * f + w)
        let before := fun (w : Nat) => Map.get 0 (s.evt.bank (snapSeq s.regs)) (128 * f + w)
        (3 ≤ domState s.regs (frameDomain f) → (∀ i a, (frameAddrs f)[i]? = some a → word i = s.rd a) ∧ word 126 = 1 ∧
          word 127 = BitVec.ofNat 32 (Map.get 0 s.evt.epochs f)) ∧
        (domState s.regs (frameDomain f) < 3 → ∀ w, w < 128 → word w = if w = 126 then before w &&& 0xFFFFFFFE else before w)))) ∧
  (∀ s : State,
    let b := snapSeq s.regs + 1
    let at_ := rd64R s.regs Rg.EVT_FW_BASE_LO % 2 ^ 48 + b % 2 * (s.rd Rg.EVT_FW_BANK_BYTES).toNat
    let n := 0x8000 + 64 * (s.rd Rg.EVT_FW_SLOTS).toNat
    let w := s.memWrite s.ctrlUnit at_ (clean (liveBytes s.evt n))
    (s.evt.snapBusy = false → exec .snapshotComplete s = .next s) ∧
    (s.evt.snapBusy = true → Answers .snapshotComplete s fun u => u.evt.snapBusy = false ∧
      u.rd Rg.EVT_SNAP_SEQ = s.rd Rg.EVT_SNAP_SEQ + 1 ∧ u.mem = w.mem ∧ u.evt.heldLive = [] ∧ u.evt.bank0 = s.evt.bank0 ∧
      u.evt.bank1 = s.evt.bank1 ∧ u.evt.freeing = s.evt.freeing.filter (fun e => !e.2) ∧
      (∀ c ∈ u.host.cmds, ¬ (c.phase = .pending ∧ snapCmd true c = true)) ∧
      (∀ k, k < 31 → ∀ f, frameOf (s.getF (Rg.EVT_THR_SEL k) Fd.EVT_THR_SEL_unit) = some f →
        let j := 128 * f + s.getF (Rg.EVT_THR_SEL k) Fd.EVT_THR_SEL_word
        let v := s.rd (Rg.EVT_THR_VAL k)
        s.getF (Rg.EVT_THR_SEL k) Fd.EVT_THR_SEL_enable = 1 → s.getF (Rg.EVT_THR_SEL k) Fd.EVT_THR_SEL_word ≤ 125 →
        v ≤ Map.get 0 (s.evt.bank b) j → Map.get 0 (s.evt.bank (b + 1)) j < v → (u.rd (Rg.EVT_STATUS 31)).getLsbD k = true)))

/-- R391, R393 to R398: the recorder. The oldest entry of the FIFO takes the next sequence number with the time it is written at; the ring holds
16,384 and what flash had not taken is lost and counted. After a flood there is one summary for each code, or, while the ring is disabled, none, each
counted as suppressed. A record of flash is programmed in order, or fails and is raised; after lost records one gap record is presented. A checkpoint
is presented, or counted while the ring is disabled. A slot is latched as sixteen words, zeros where it is empty. -/
def Obligations.RecordsAreKept : Prop :=
  (∀ s : State,
    let seq := wtrNext s.regs
    let p := wtrPersisted s.regs
    let old := Map.get none s.wtr.ring (seq % 16384)
    let gone := ∃ e, old = some e ∧ e.1 = p
    (s.wtr.fifo = [] → exec .recordWrite s = .next s) ∧
    (∀ e rest, s.wtr.fifo = e :: rest → Answers .recordWrite s fun u =>
      u.rd Rg.WTR_NEXT_SEQ = BitVec.ofNat 32 (seq + 1) ∧
      Map.get none u.wtr.ring (seq % 16384) = some (seq, (s.rd Rg.WTR_POWER_CYCLES).toNat, { e with
        seconds := (s.rd Rg.WTR_OP_SECONDS).toNat
        nanos := opNanos s.now
        estimated := decide (tbState s.regs 0 ≤ 1)
        time := s.rt }) ∧
      (∀ k, k ≠ seq % 16384 → Map.get none u.wtr.ring k = Map.get none s.wtr.ring k) ∧
      u.rd Rg.WTR_OLDEST_SEQ = (if (seq + 1 + 2 ^ 32 - (s.rd Rg.WTR_OLDEST_SEQ).toNat) % 2 ^ 32 > 16384 then s.rd Rg.WTR_OLDEST_SEQ + 1
        else s.rd Rg.WTR_OLDEST_SEQ) ∧ u.wtr.flash = s.wtr.flash ∧
      (¬ gone ∨ s.rd Rg.WTR_FLASH_LOST ≠ 0xFFFFFFFE → u.wtr.fifo = rest ∧ u.wtr.supp = s.wtr.supp) ∧
      (gone → wtrPersisted u.regs = (p + 1) % 2 ^ 32 ∧ CountedBy Rg.WTR_FLASH_LOST 1 s u ∧
        u.wtr.lost = some ((s.wtr.lost.map (·.1)).getD p, (s.wtr.lost.map (·.2)).getD 0 + 1)) ∧
      (¬ gone → wtrPersisted u.regs = p ∧ u.rd Rg.WTR_FLASH_LOST = s.rd Rg.WTR_FLASH_LOST ∧ u.wtr.lost = s.wtr.lost) ∧
      QuietBut [Rg.WTR_NEXT_SEQ, Rg.WTR_OLDEST_SEQ, Rg.WTR_PERSISTED_SEQ, Rg.WTR_FLASH_LOST] s u ∧ OnlyReports s u)) ∧
  (∀ s : State,
    ((s.wtr.fifo ≠ [] ∨ s.wtr.supp = []) → exec .floodEnd s = .next s) ∧
    (s.wtr.fifo = [] → s.wtr.supp ≠ [] → s.getF Rg.WTR_CTRL Fd.WTR_CTRL_enable = 0 → Answers .floodEnd s fun u =>
      CountedBy Rg.WTR_SUPPRESSED s.wtr.supp.length s u ∧ u.wtr = { s.wtr with supp := [] } ∧ QuietBut [] s u ∧ OnlyReports s u) ∧
    (s.wtr.fifo = [] → s.wtr.supp ≠ [] → s.getF Rg.WTR_CTRL Fd.WTR_CTRL_enable ≠ 0 → Answers .floodEnd s fun u => u.wtr.supp = [] ∧ u.wtr.fifo.length = s.wtr.supp.length ∧
      ((∀ x ∈ s.wtr.supp, x.code < 65536) → u.wtr.fifo.Pairwise (fun a b => a.p0 ≤ b.p0)) ∧
      (∀ x ∈ s.wtr.supp, suppRec s.now x ∈ u.wtr.fifo) ∧ RegsBut [Rg.WTR_STATUS] s u ∧
      u.getF Rg.WTR_STATUS Fd.WTR_STATUS_flood = 0 ∧ u = { s with
        regs := u.regs
        wtr := { s.wtr with
          fifo := u.wtr.fifo
          supp := [] } })) ∧
  (∀ (s : State) (ok : Bool),
    let p := wtrPersisted s.regs
    (s.toProgram = none → exec (.flashProgram ok) s = .next s) ∧
    (∀ e, s.toProgram = some e → ok = false → Answers (.flashProgram ok) s fun u =>
      u.getF Rg.WTR_STATUS Fd.WTR_STATUS_flash_error = 1 ∧ (u.rd (Rg.EVT_STATUS 12)).getLsbD 3 = true ∧ wtrPersisted u.regs = p ∧
      u.wtr.flash = s.wtr.flash ∧ u.wtr.ring = s.wtr.ring ∧ QuietBut [] s u ∧ OnlyReports s u) ∧
    (∀ e, s.toProgram = some e → ok = true → ¬ (s.pwr.downWait = true ∧ e.2.2.code = 4) → Answers (.flashProgram ok) s fun u =>
      wtrPersisted u.regs = (p + 1) % 2 ^ 32 ∧ u.wtr.flash.head? = (if (p + 1) % 64 = 0 ∧ flashKeep s.regs = 0 then none else some e) ∧
      u.wtr.flash = (if (p + 1) % 64 = 0 then (e :: s.wtr.flash).take (flashKeep s.regs) else e :: s.wtr.flash) ∧ u.wtr.lost = none ∧
      u.wtr.ring = s.wtr.ring ∧ (s.wtr.lost = none → RegsBut [Rg.WTR_PERSISTED_SEQ] s u) ∧
      (∀ f n, s.wtr.lost = some (f, n) → (u.rd (Rg.EVT_STATUS 12)).getLsbD 2 = true ∧
        (s.flag Rg.WTR_CTRL Fd.WTR_CTRL_enable = true → s.wtr.fifo.length < 8 →
          ∃ r ∈ u.wtr.fifo, r.code = 5 ∧ r.p0 = BitVec.ofNat 32 f ∧ r.p1 = BitVec.ofNat 32 n)) ∧
      QuietBut [Rg.WTR_PERSISTED_SEQ] s u ∧ OnlyReports s u) ∧
    (∀ e, s.toProgram = some e → ok = true → s.pwr.downWait = true → e.2.2.code = 4 → Answers (.flashProgram ok) s fun u =>
      wtrPersisted u.regs = (p + 1) % 2 ^ 32 ∧ u.pwr.downWait = false ∧
      (devFlight s.regs = 7 → devState s.regs = 1 → deviceRefuser s.regs s.cpl 2 = none → devFlight u.regs = 2 ∧ u.pwr.deviceQuiesce = true))) ∧
  (∀ s : State,
    (s.getF Rg.WTR_CTRL Fd.WTR_CTRL_enable = 0 → Answers .checkpoint s fun u => CountedBy Rg.WTR_SUPPRESSED 1 s u ∧ u.wtr = s.wtr ∧
      QuietBut [] s u ∧ OnlyReports s u) ∧
    (s.getF Rg.WTR_CTRL Fd.WTR_CTRL_enable ≠ 0 → s.wtr.fifo.length < 8 → Answers .checkpoint s fun u =>
      u.wtr.fifo = s.wtr.fifo ++ [mkRec 2 6 0 0 0 0] ∧ u.wtr.supp = s.wtr.supp ∧ RegsBut [Rg.WTR_STATUS] s u ∧
      u.getF Rg.WTR_STATUS Fd.WTR_STATUS_fifo = s.wtr.fifo.length + 1 ∧ u = { s with
        regs := u.regs
        wtr := u.wtr }) ∧
    (s.getF Rg.WTR_CTRL Fd.WTR_CTRL_enable ≠ 0 → 8 ≤ s.wtr.fifo.length → Answers .checkpoint s fun u => u.wtr.fifo = s.wtr.fifo ∧
      (s.rd Rg.WTR_SUPPRESSED ≠ 0xFFFFFFFE → u.wtr.supp = suppress s.wtr.supp 2 6 s.now) ∧ CountedBy Rg.WTR_SUPPRESSED 1 s u ∧ QuietBut [] s u ∧ OnlyReports s u)) ∧
  (∀ (s : State) (v : Word), Answers (.recordSlotLatch v) s fun u =>
    let n := Fd.WTR_READ_SLOT_slot.get v
    u.rd Rg.WTR_READ_SLOT = BitVec.ofNat 32 n ∧ RegsBut (Rg.WTR_READ_SLOT :: (List.range 16).map Rg.WTR_READ_DATA) s u ∧
    u = { s with regs := u.regs } ∧
    (∀ i, i < 16 → (Map.get none s.wtr.ring n = none → u.rd (Rg.WTR_READ_DATA i) = 0) ∧
      (∀ q c e, Map.get none s.wtr.ring n = some (q, c, e) → u.rd (Rg.WTR_READ_DATA i) = BitVec.ofNat 32 (le (recBytes q c e) (4 * i) 4))))

/-- R7, R9, R11, R407: registers through the bus. A write or read that is not an aligned one of 32 bits, or a write with poison, takes no effect, reads as
zero, and raises the register-access event of the owning block; a unit in reset ignores writes and reads as zero; an unlisted offset ignores writes. A
register whose block does no more than its access codes say takes a write field by field, and a read clears its RC fields and no other. -/
def Obligations.RegistersFollowTheirAccessCodes : Prop :=
  (∀ (s : State) (a size : Nat) (v : Word) (poison : Bool),
    let good := a % 4 = 0 ∧ size = 4 ∧ poison = false
    (isReg a = false ∨ s.regHeld a = true → exec (.registerWrite a size v poison) s = .next s) ∧
    (isReg a = true → s.regHeld a = false → ¬ good → 0 < size → Answers (.registerWrite a size v poison) s fun u =>
      (u.rd (Rg.EVT_STATUS (groupOf a))).getLsbD 30 = true ∧ QuietBut [] s u ∧ OnlyReports s u) ∧
    (isReg a = true → good → findReg a = none → exec (.registerWrite a size v poison) s = .next s) ∧
    (∀ d, s.regHeld a = false → good → findReg a = some d → winOf a = 1 ∨ winOf a = 3 ∨ (winOf a = 9 ∧ a ≠ Rg.ETH_SYNCE_CTRL) →
      Answers (.registerWrite a size v poison) s fun u => RegsBut [a] s u ∧ u = { s with regs := u.regs } ∧
        ∀ f ∈ d.fields,
          let old := Fld.get ⟨f.lo, f.width⟩ (s.rd a)
          let new := Fld.get ⟨f.lo, f.width⟩ v
          Fld.get ⟨f.lo, f.width⟩ (u.rd a) = match f.acc with
            | .rw => new
            | .w1c => old - (old &&& new)
            | .w1s => old ||| new
            | .ro | .wo | .rc => old)) ∧
  (∀ (s : State) (a size : Nat),
    let gives := fun (v : Word) (u : State) => u.out.head? = some (.regValue a v)
    (isReg a = false → exec (.registerReadClear a size) s = .next s) ∧
    (isReg a = true → s.regHeld a = true → Answers (.registerReadClear a size) s fun u => gives 0 u ∧ u = { s with out := u.out }) ∧
    (isReg a = true → s.regHeld a = false → (a % 4 ≠ 0 ∨ size ≠ 4) → Answers (.registerReadClear a size) s fun u => gives 0 u ∧
      (u.rd (Rg.EVT_STATUS (groupOf a))).getLsbD 30 = true ∧ QuietBut [] s u ∧ OnlyReports s u) ∧
    (∀ d, s.regHeld a = false → a % 4 = 0 → size = 4 → findReg a = some d → Answers (.registerReadClear a size) s fun u =>
      u.out = .regValue a (s.view a) :: s.out ∧ (winOf a ∉ [11, 13, 14, 15] → s.view a = s.rd a) ∧ RegsBut [a] s u ∧
      u = { s with
        regs := u.regs
        out := u.out } ∧
      ∀ f ∈ d.fields, Fld.get ⟨f.lo, f.width⟩ (u.rd a) = if f.acc = .rc then 0 else Fld.get ⟨f.lo, f.width⟩ (s.rd a)) ∧
    (isReg a = true → s.regHeld a = false → a % 4 = 0 → size = 4 → findReg a = none → Answers (.registerReadClear a size) s fun u =>
      u = { s with out := .regValue a ((s.shadow a).getD 0) :: s.out }))

/-- Every step answers a next state, and takes from the queue of waiting commands the one at its front and nothing else: no command adds to the queue, and
the block never stops. -/
def Obligations.EveryStepAnswersAndTakesOneCommand : Prop := ∀ s : State, ∃ t, step s = .next t ∧ t.pending = s.pending.tail

/-- R22, R24, R253: the memory keeps its canonical form, rising addresses and no listed zero, through every step. -/
def Obligations.MemoryKeepsItsForm : Prop := ∀ s t : State, s.memOk → step s = .next t → t.memOk

/-- R47, R239, R341: the queues of the block keep their bounds through every step: two ticks wait at most, a transmit timestamp queue holds at most 64
entries and a late-error queue at most 16. -/
def Obligations.QueuesKeepTheirBounds : Prop :=
  ∀ s t : State, step s = .next t → (s.tickQueueOk → t.tickQueueOk) ∧ (s.stampsOk → t.stampsOk) ∧ (s.latesOk → t.latesOk)

/-- R402, R413: the security counter of the fuses never falls, and the unique identifier never changes, whatever step is taken. -/
def Obligations.TheSecurityCounterNeverFalls : Prop :=
  ∀ s t : State, step s = .next t → s.boot.secCounter ≤ t.boot.secCounter ∧ t.boot.uniqueId = s.boot.uniqueId

/-- The block after reset meets what every step keeps: memory is in its form, and the queues hold no more than their bounds; no command waits. -/
def Obligations.ResetMeetsWhatEveryStepKeeps : Prop :=
  State.reset.pending = [] ∧ State.reset.memOk ∧ State.reset.tickQueueOk ∧ State.reset.stampsOk ∧ State.reset.latesOk
end

