-- ==== Sys2Proof/Laws/State.lean ====
section
/-! SUPPORT. What each of the state's shared updates leaves in each field: one lemma a field and update, true by definition. -/
namespace Sys2Proof.Machine

@[simp] theorem State.withRep_pending (s : State) (r : Rep) : (s.withRep r).pending = s.pending := rfl
@[simp] theorem State.withRep_now (s : State) (r : Rep) : (s.withRep r).now = s.now := rfl
@[simp] theorem State.withRep_free (s : State) (r : Rep) : (s.withRep r).free = s.free := rfl
@[simp] theorem State.withRep_out (s : State) (r : Rep) : (s.withRep r).out = r.out := rfl
@[simp] theorem State.withRep_regs (s : State) (r : Rep) : (s.withRep r).regs = r.regs := rfl
@[simp] theorem State.withRep_mem (s : State) (r : Rep) : (s.withRep r).mem = s.mem := rfl
@[simp] theorem State.withRep_mec (s : State) (r : Rep) : (s.withRep r).mec = s.mec := rfl
@[simp] theorem State.withRep_drum (s : State) (r : Rep) : (s.withRep r).drum = s.drum := rfl
@[simp] theorem State.withRep_ppt (s : State) (r : Rep) : (s.withRep r).ppt = s.ppt := rfl
@[simp] theorem State.withRep_host (s : State) (r : Rep) : (s.withRep r).host = r.host := rfl
@[simp] theorem State.withRep_qm (s : State) (r : Rep) : (s.withRep r).qm = s.qm := rfl
@[simp] theorem State.withRep_dma (s : State) (r : Rep) : (s.withRep r).dma = s.dma := rfl
@[simp] theorem State.withRep_cores (s : State) (r : Rep) : (s.withRep r).cores = s.cores := rfl
@[simp] theorem State.withRep_cpl (s : State) (r : Rep) : (s.withRep r).cpl = s.cpl := rfl
@[simp] theorem State.withRep_span (s : State) (r : Rep) : (s.withRep r).span = s.span := rfl
@[simp] theorem State.withRep_eth (s : State) (r : Rep) : (s.withRep r).eth = s.eth := rfl
@[simp] theorem State.withRep_blf (s : State) (r : Rep) : (s.withRep r).blf = s.blf := rfl
@[simp] theorem State.withRep_dac (s : State) (r : Rep) : (s.withRep r).dac = s.dac := rfl
@[simp] theorem State.withRep_pwr (s : State) (r : Rep) : (s.withRep r).pwr = s.pwr := rfl
@[simp] theorem State.withRep_lnt (s : State) (r : Rep) : (s.withRep r).lnt = s.lnt := rfl
@[simp] theorem State.withRep_evt (s : State) (r : Rep) : (s.withRep r).evt = s.evt := rfl
@[simp] theorem State.withRep_wtr (s : State) (r : Rep) : (s.withRep r).wtr = r.wtr := rfl
@[simp] theorem State.withRep_boot (s : State) (r : Rep) : (s.withRep r).boot = s.boot := rfl
@[simp] theorem State.withRep_thm (s : State) (r : Rep) : (s.withRep r).thm = s.thm := rfl

@[simp] theorem State.withMm_pending (s : State) (m : Mm) : (s.withMm m).pending = s.pending := rfl
@[simp] theorem State.withMm_now (s : State) (m : Mm) : (s.withMm m).now = s.now := rfl
@[simp] theorem State.withMm_free (s : State) (m : Mm) : (s.withMm m).free = s.free := rfl
@[simp] theorem State.withMm_out (s : State) (m : Mm) : (s.withMm m).out = m.rep.out := rfl
@[simp] theorem State.withMm_regs (s : State) (m : Mm) : (s.withMm m).regs = m.rep.regs := rfl
@[simp] theorem State.withMm_mem (s : State) (m : Mm) : (s.withMm m).mem = m.mem := rfl
@[simp] theorem State.withMm_mec (s : State) (m : Mm) : (s.withMm m).mec = m.mec := rfl
@[simp] theorem State.withMm_drum (s : State) (m : Mm) : (s.withMm m).drum = s.drum := rfl
@[simp] theorem State.withMm_ppt (s : State) (m : Mm) : (s.withMm m).ppt = s.ppt := rfl
@[simp] theorem State.withMm_host (s : State) (m : Mm) : (s.withMm m).host = m.rep.host := rfl
@[simp] theorem State.withMm_qm (s : State) (m : Mm) : (s.withMm m).qm = s.qm := rfl
@[simp] theorem State.withMm_dma (s : State) (m : Mm) : (s.withMm m).dma = s.dma := rfl
@[simp] theorem State.withMm_cores (s : State) (m : Mm) : (s.withMm m).cores = s.cores := rfl
@[simp] theorem State.withMm_cpl (s : State) (m : Mm) : (s.withMm m).cpl = s.cpl := rfl
@[simp] theorem State.withMm_span (s : State) (m : Mm) : (s.withMm m).span = s.span := rfl
@[simp] theorem State.withMm_eth (s : State) (m : Mm) : (s.withMm m).eth = s.eth := rfl
@[simp] theorem State.withMm_blf (s : State) (m : Mm) : (s.withMm m).blf = s.blf := rfl
@[simp] theorem State.withMm_dac (s : State) (m : Mm) : (s.withMm m).dac = s.dac := rfl
@[simp] theorem State.withMm_pwr (s : State) (m : Mm) : (s.withMm m).pwr = s.pwr := rfl
@[simp] theorem State.withMm_lnt (s : State) (m : Mm) : (s.withMm m).lnt = s.lnt := rfl
@[simp] theorem State.withMm_evt (s : State) (m : Mm) : (s.withMm m).evt = s.evt := rfl
@[simp] theorem State.withMm_wtr (s : State) (m : Mm) : (s.withMm m).wtr = m.rep.wtr := rfl
@[simp] theorem State.withMm_boot (s : State) (m : Mm) : (s.withMm m).boot = s.boot := rfl
@[simp] theorem State.withMm_thm (s : State) (m : Mm) : (s.withMm m).thm = s.thm := rfl

@[simp] theorem State.withQx_pending (s : State) (x : Qx) : (s.withQx x).pending = s.pending := rfl
@[simp] theorem State.withQx_now (s : State) (x : Qx) : (s.withQx x).now = s.now := rfl
@[simp] theorem State.withQx_free (s : State) (x : Qx) : (s.withQx x).free = s.free := rfl
@[simp] theorem State.withQx_out (s : State) (x : Qx) : (s.withQx x).out = x.mm.rep.out := rfl
@[simp] theorem State.withQx_regs (s : State) (x : Qx) : (s.withQx x).regs = x.mm.rep.regs := rfl
@[simp] theorem State.withQx_mem (s : State) (x : Qx) : (s.withQx x).mem = x.mm.mem := rfl
@[simp] theorem State.withQx_mec (s : State) (x : Qx) : (s.withQx x).mec = x.mm.mec := rfl
@[simp] theorem State.withQx_drum (s : State) (x : Qx) : (s.withQx x).drum = s.drum := rfl
@[simp] theorem State.withQx_ppt (s : State) (x : Qx) : (s.withQx x).ppt = s.ppt := rfl
@[simp] theorem State.withQx_host (s : State) (x : Qx) : (s.withQx x).host = x.mm.rep.host := rfl
@[simp] theorem State.withQx_qm (s : State) (x : Qx) : (s.withQx x).qm = x.qm := rfl
@[simp] theorem State.withQx_dma (s : State) (x : Qx) : (s.withQx x).dma = s.dma := rfl
@[simp] theorem State.withQx_cores (s : State) (x : Qx) : (s.withQx x).cores = s.cores := rfl
@[simp] theorem State.withQx_cpl (s : State) (x : Qx) : (s.withQx x).cpl = s.cpl := rfl
@[simp] theorem State.withQx_span (s : State) (x : Qx) : (s.withQx x).span = s.span := rfl
@[simp] theorem State.withQx_eth (s : State) (x : Qx) : (s.withQx x).eth = s.eth := rfl
@[simp] theorem State.withQx_blf (s : State) (x : Qx) : (s.withQx x).blf = s.blf := rfl
@[simp] theorem State.withQx_dac (s : State) (x : Qx) : (s.withQx x).dac = s.dac := rfl
@[simp] theorem State.withQx_pwr (s : State) (x : Qx) : (s.withQx x).pwr = s.pwr := rfl
@[simp] theorem State.withQx_lnt (s : State) (x : Qx) : (s.withQx x).lnt = s.lnt := rfl
@[simp] theorem State.withQx_evt (s : State) (x : Qx) : (s.withQx x).evt = s.evt := rfl
@[simp] theorem State.withQx_wtr (s : State) (x : Qx) : (s.withQx x).wtr = x.mm.rep.wtr := rfl
@[simp] theorem State.withQx_boot (s : State) (x : Qx) : (s.withQx x).boot = s.boot := rfl
@[simp] theorem State.withQx_thm (s : State) (x : Qx) : (s.withQx x).thm = s.thm := rfl

@[simp] theorem State.withFw_pending (s : State) (f : Fw) : (s.withFw f).pending = s.pending := rfl
@[simp] theorem State.withFw_now (s : State) (f : Fw) : (s.withFw f).now = s.now := rfl
@[simp] theorem State.withFw_free (s : State) (f : Fw) : (s.withFw f).free = s.free := rfl
@[simp] theorem State.withFw_out (s : State) (f : Fw) : (s.withFw f).out = f.rep.out := rfl
@[simp] theorem State.withFw_regs (s : State) (f : Fw) : (s.withFw f).regs = f.rep.regs := rfl
@[simp] theorem State.withFw_mem (s : State) (f : Fw) : (s.withFw f).mem = s.mem := rfl
@[simp] theorem State.withFw_mec (s : State) (f : Fw) : (s.withFw f).mec = s.mec := rfl
@[simp] theorem State.withFw_drum (s : State) (f : Fw) : (s.withFw f).drum = s.drum := rfl
@[simp] theorem State.withFw_ppt (s : State) (f : Fw) : (s.withFw f).ppt = s.ppt := rfl
@[simp] theorem State.withFw_host (s : State) (f : Fw) : (s.withFw f).host = f.rep.host := rfl
@[simp] theorem State.withFw_qm (s : State) (f : Fw) : (s.withFw f).qm = s.qm := rfl
@[simp] theorem State.withFw_dma (s : State) (f : Fw) : (s.withFw f).dma = s.dma := rfl
@[simp] theorem State.withFw_cores (s : State) (f : Fw) : (s.withFw f).cores = s.cores := rfl
@[simp] theorem State.withFw_cpl (s : State) (f : Fw) : (s.withFw f).cpl = s.cpl := rfl
@[simp] theorem State.withFw_span (s : State) (f : Fw) : (s.withFw f).span = s.span := rfl
@[simp] theorem State.withFw_eth (s : State) (f : Fw) : (s.withFw f).eth = s.eth := rfl
@[simp] theorem State.withFw_blf (s : State) (f : Fw) : (s.withFw f).blf = s.blf := rfl
@[simp] theorem State.withFw_dac (s : State) (f : Fw) : (s.withFw f).dac = s.dac := rfl
@[simp] theorem State.withFw_pwr (s : State) (f : Fw) : (s.withFw f).pwr = s.pwr := rfl
@[simp] theorem State.withFw_lnt (s : State) (f : Fw) : (s.withFw f).lnt = s.lnt := rfl
@[simp] theorem State.withFw_evt (s : State) (f : Fw) : (s.withFw f).evt = f.evt := rfl
@[simp] theorem State.withFw_wtr (s : State) (f : Fw) : (s.withFw f).wtr = f.rep.wtr := rfl
@[simp] theorem State.withFw_boot (s : State) (f : Fw) : (s.withFw f).boot = s.boot := rfl
@[simp] theorem State.withFw_thm (s : State) (f : Fw) : (s.withFw f).thm = s.thm := rfl

@[simp] theorem State.withPx_pending (s : State) (p : Px) : (s.withPx p).pending = s.pending := rfl
@[simp] theorem State.withPx_now (s : State) (p : Px) : (s.withPx p).now = s.now := rfl
@[simp] theorem State.withPx_free (s : State) (p : Px) : (s.withPx p).free = s.free := rfl
@[simp] theorem State.withPx_out (s : State) (p : Px) : (s.withPx p).out = p.rep.out := rfl
@[simp] theorem State.withPx_regs (s : State) (p : Px) : (s.withPx p).regs = p.rep.regs := rfl
@[simp] theorem State.withPx_mem (s : State) (p : Px) : (s.withPx p).mem = s.mem := rfl
@[simp] theorem State.withPx_mec (s : State) (p : Px) : (s.withPx p).mec = s.mec := rfl
@[simp] theorem State.withPx_drum (s : State) (p : Px) : (s.withPx p).drum = s.drum := rfl
@[simp] theorem State.withPx_ppt (s : State) (p : Px) : (s.withPx p).ppt = s.ppt := rfl
@[simp] theorem State.withPx_host (s : State) (p : Px) : (s.withPx p).host = p.rep.host := rfl
@[simp] theorem State.withPx_qm (s : State) (p : Px) : (s.withPx p).qm = s.qm := rfl
@[simp] theorem State.withPx_dma (s : State) (p : Px) : (s.withPx p).dma = s.dma := rfl
@[simp] theorem State.withPx_cores (s : State) (p : Px) : (s.withPx p).cores = s.cores := rfl
@[simp] theorem State.withPx_cpl (s : State) (p : Px) : (s.withPx p).cpl = s.cpl := rfl
@[simp] theorem State.withPx_span (s : State) (p : Px) : (s.withPx p).span = s.span := rfl
@[simp] theorem State.withPx_eth (s : State) (p : Px) : (s.withPx p).eth = s.eth := rfl
@[simp] theorem State.withPx_blf (s : State) (p : Px) : (s.withPx p).blf = s.blf := rfl
@[simp] theorem State.withPx_dac (s : State) (p : Px) : (s.withPx p).dac = s.dac := rfl
@[simp] theorem State.withPx_pwr (s : State) (p : Px) : (s.withPx p).pwr = p.pwr := rfl
@[simp] theorem State.withPx_lnt (s : State) (p : Px) : (s.withPx p).lnt = s.lnt := rfl
@[simp] theorem State.withPx_evt (s : State) (p : Px) : (s.withPx p).evt = s.evt := rfl
@[simp] theorem State.withPx_wtr (s : State) (p : Px) : (s.withPx p).wtr = p.rep.wtr := rfl
@[simp] theorem State.withPx_boot (s : State) (p : Px) : (s.withPx p).boot = s.boot := rfl
@[simp] theorem State.withPx_thm (s : State) (p : Px) : (s.withPx p).thm = s.thm := rfl

@[simp] theorem State.withSx_pending (s : State) (x : Sx) : (s.withSx x).pending = s.pending := rfl
@[simp] theorem State.withSx_now (s : State) (x : Sx) : (s.withSx x).now = s.now := rfl
@[simp] theorem State.withSx_free (s : State) (x : Sx) : (s.withSx x).free = s.free := rfl
@[simp] theorem State.withSx_out (s : State) (x : Sx) : (s.withSx x).out = x.rep.out := rfl
@[simp] theorem State.withSx_regs (s : State) (x : Sx) : (s.withSx x).regs = x.rep.regs := rfl
@[simp] theorem State.withSx_mem (s : State) (x : Sx) : (s.withSx x).mem = s.mem := rfl
@[simp] theorem State.withSx_mec (s : State) (x : Sx) : (s.withSx x).mec = s.mec := rfl
@[simp] theorem State.withSx_drum (s : State) (x : Sx) : (s.withSx x).drum = s.drum := rfl
@[simp] theorem State.withSx_ppt (s : State) (x : Sx) : (s.withSx x).ppt = s.ppt := rfl
@[simp] theorem State.withSx_host (s : State) (x : Sx) : (s.withSx x).host = x.rep.host := rfl
@[simp] theorem State.withSx_qm (s : State) (x : Sx) : (s.withSx x).qm = s.qm := rfl
@[simp] theorem State.withSx_dma (s : State) (x : Sx) : (s.withSx x).dma = s.dma := rfl
@[simp] theorem State.withSx_cores (s : State) (x : Sx) : (s.withSx x).cores = s.cores := rfl
@[simp] theorem State.withSx_cpl (s : State) (x : Sx) : (s.withSx x).cpl = s.cpl := rfl
@[simp] theorem State.withSx_span (s : State) (x : Sx) : (s.withSx x).span = x.span := rfl
@[simp] theorem State.withSx_eth (s : State) (x : Sx) : (s.withSx x).eth = s.eth := rfl
@[simp] theorem State.withSx_blf (s : State) (x : Sx) : (s.withSx x).blf = s.blf := rfl
@[simp] theorem State.withSx_dac (s : State) (x : Sx) : (s.withSx x).dac = s.dac := rfl
@[simp] theorem State.withSx_pwr (s : State) (x : Sx) : (s.withSx x).pwr = s.pwr := rfl
@[simp] theorem State.withSx_lnt (s : State) (x : Sx) : (s.withSx x).lnt = s.lnt := rfl
@[simp] theorem State.withSx_evt (s : State) (x : Sx) : (s.withSx x).evt = s.evt := rfl
@[simp] theorem State.withSx_wtr (s : State) (x : Sx) : (s.withSx x).wtr = x.rep.wtr := rfl
@[simp] theorem State.withSx_boot (s : State) (x : Sx) : (s.withSx x).boot = s.boot := rfl
@[simp] theorem State.withSx_thm (s : State) (x : Sx) : (s.withSx x).thm = s.thm := rfl

@[simp] theorem State.withDx_pending (s : State) (x : Dx) : (s.withDx x).pending = s.pending := rfl
@[simp] theorem State.withDx_now (s : State) (x : Dx) : (s.withDx x).now = s.now := rfl
@[simp] theorem State.withDx_free (s : State) (x : Dx) : (s.withDx x).free = s.free := rfl
@[simp] theorem State.withDx_out (s : State) (x : Dx) : (s.withDx x).out = x.rep.out := rfl
@[simp] theorem State.withDx_regs (s : State) (x : Dx) : (s.withDx x).regs = x.rep.regs := rfl
@[simp] theorem State.withDx_mem (s : State) (x : Dx) : (s.withDx x).mem = s.mem := rfl
@[simp] theorem State.withDx_mec (s : State) (x : Dx) : (s.withDx x).mec = s.mec := rfl
@[simp] theorem State.withDx_drum (s : State) (x : Dx) : (s.withDx x).drum = s.drum := rfl
@[simp] theorem State.withDx_ppt (s : State) (x : Dx) : (s.withDx x).ppt = s.ppt := rfl
@[simp] theorem State.withDx_host (s : State) (x : Dx) : (s.withDx x).host = x.rep.host := rfl
@[simp] theorem State.withDx_qm (s : State) (x : Dx) : (s.withDx x).qm = s.qm := rfl
@[simp] theorem State.withDx_dma (s : State) (x : Dx) : (s.withDx x).dma = s.dma := rfl
@[simp] theorem State.withDx_cores (s : State) (x : Dx) : (s.withDx x).cores = s.cores := rfl
@[simp] theorem State.withDx_cpl (s : State) (x : Dx) : (s.withDx x).cpl = s.cpl := rfl
@[simp] theorem State.withDx_span (s : State) (x : Dx) : (s.withDx x).span = s.span := rfl
@[simp] theorem State.withDx_eth (s : State) (x : Dx) : (s.withDx x).eth = s.eth := rfl
@[simp] theorem State.withDx_blf (s : State) (x : Dx) : (s.withDx x).blf = x.blf := rfl
@[simp] theorem State.withDx_dac (s : State) (x : Dx) : (s.withDx x).dac = x.dac := rfl
@[simp] theorem State.withDx_pwr (s : State) (x : Dx) : (s.withDx x).pwr = s.pwr := rfl
@[simp] theorem State.withDx_lnt (s : State) (x : Dx) : (s.withDx x).lnt = s.lnt := rfl
@[simp] theorem State.withDx_evt (s : State) (x : Dx) : (s.withDx x).evt = s.evt := rfl
@[simp] theorem State.withDx_wtr (s : State) (x : Dx) : (s.withDx x).wtr = x.rep.wtr := rfl
@[simp] theorem State.withDx_boot (s : State) (x : Dx) : (s.withDx x).boot = s.boot := rfl
@[simp] theorem State.withDx_thm (s : State) (x : Dx) : (s.withDx x).thm = s.thm := rfl

@[simp] theorem State.withTx_pending (s : State) (x : Tx) : (s.withTx x).pending = s.pending := rfl
@[simp] theorem State.withTx_now (s : State) (x : Tx) : (s.withTx x).now = s.now := rfl
@[simp] theorem State.withTx_free (s : State) (x : Tx) : (s.withTx x).free = s.free := rfl
@[simp] theorem State.withTx_out (s : State) (x : Tx) : (s.withTx x).out = x.rep.out := rfl
@[simp] theorem State.withTx_regs (s : State) (x : Tx) : (s.withTx x).regs = x.rep.regs := rfl
@[simp] theorem State.withTx_mem (s : State) (x : Tx) : (s.withTx x).mem = s.mem := rfl
@[simp] theorem State.withTx_mec (s : State) (x : Tx) : (s.withTx x).mec = s.mec := rfl
@[simp] theorem State.withTx_drum (s : State) (x : Tx) : (s.withTx x).drum = x.drum := rfl
@[simp] theorem State.withTx_ppt (s : State) (x : Tx) : (s.withTx x).ppt = s.ppt := rfl
@[simp] theorem State.withTx_host (s : State) (x : Tx) : (s.withTx x).host = x.rep.host := rfl
@[simp] theorem State.withTx_qm (s : State) (x : Tx) : (s.withTx x).qm = s.qm := rfl
@[simp] theorem State.withTx_dma (s : State) (x : Tx) : (s.withTx x).dma = s.dma := rfl
@[simp] theorem State.withTx_cores (s : State) (x : Tx) : (s.withTx x).cores = s.cores := rfl
@[simp] theorem State.withTx_cpl (s : State) (x : Tx) : (s.withTx x).cpl = s.cpl := rfl
@[simp] theorem State.withTx_span (s : State) (x : Tx) : (s.withTx x).span = s.span := rfl
@[simp] theorem State.withTx_eth (s : State) (x : Tx) : (s.withTx x).eth = s.eth := rfl
@[simp] theorem State.withTx_blf (s : State) (x : Tx) : (s.withTx x).blf = x.blf := rfl
@[simp] theorem State.withTx_dac (s : State) (x : Tx) : (s.withTx x).dac = s.dac := rfl
@[simp] theorem State.withTx_pwr (s : State) (x : Tx) : (s.withTx x).pwr = s.pwr := rfl
@[simp] theorem State.withTx_lnt (s : State) (x : Tx) : (s.withTx x).lnt = s.lnt := rfl
@[simp] theorem State.withTx_evt (s : State) (x : Tx) : (s.withTx x).evt = s.evt := rfl
@[simp] theorem State.withTx_wtr (s : State) (x : Tx) : (s.withTx x).wtr = x.rep.wtr := rfl
@[simp] theorem State.withTx_boot (s : State) (x : Tx) : (s.withTx x).boot = s.boot := rfl
@[simp] theorem State.withTx_thm (s : State) (x : Tx) : (s.withTx x).thm = s.thm := rfl

@[simp] theorem State.withCx_pending (s : State) (x : Cx) : (s.withCx x).pending = s.pending := rfl
@[simp] theorem State.withCx_now (s : State) (x : Cx) : (s.withCx x).now = s.now := rfl
@[simp] theorem State.withCx_free (s : State) (x : Cx) : (s.withCx x).free = s.free := rfl
@[simp] theorem State.withCx_out (s : State) (x : Cx) : (s.withCx x).out = x.rep.out := rfl
@[simp] theorem State.withCx_regs (s : State) (x : Cx) : (s.withCx x).regs = x.rep.regs := rfl
@[simp] theorem State.withCx_mem (s : State) (x : Cx) : (s.withCx x).mem = s.mem := rfl
@[simp] theorem State.withCx_mec (s : State) (x : Cx) : (s.withCx x).mec = s.mec := rfl
@[simp] theorem State.withCx_drum (s : State) (x : Cx) : (s.withCx x).drum = s.drum := rfl
@[simp] theorem State.withCx_ppt (s : State) (x : Cx) : (s.withCx x).ppt = s.ppt := rfl
@[simp] theorem State.withCx_host (s : State) (x : Cx) : (s.withCx x).host = x.rep.host := rfl
@[simp] theorem State.withCx_qm (s : State) (x : Cx) : (s.withCx x).qm = s.qm := rfl
@[simp] theorem State.withCx_dma (s : State) (x : Cx) : (s.withCx x).dma = s.dma := rfl
@[simp] theorem State.withCx_cores (s : State) (x : Cx) : (s.withCx x).cores = s.cores := rfl
@[simp] theorem State.withCx_cpl (s : State) (x : Cx) : (s.withCx x).cpl = x.cpl := rfl
@[simp] theorem State.withCx_span (s : State) (x : Cx) : (s.withCx x).span = s.span := rfl
@[simp] theorem State.withCx_eth (s : State) (x : Cx) : (s.withCx x).eth = s.eth := rfl
@[simp] theorem State.withCx_blf (s : State) (x : Cx) : (s.withCx x).blf = s.blf := rfl
@[simp] theorem State.withCx_dac (s : State) (x : Cx) : (s.withCx x).dac = s.dac := rfl
@[simp] theorem State.withCx_pwr (s : State) (x : Cx) : (s.withCx x).pwr = s.pwr := rfl
@[simp] theorem State.withCx_lnt (s : State) (x : Cx) : (s.withCx x).lnt = s.lnt := rfl
@[simp] theorem State.withCx_evt (s : State) (x : Cx) : (s.withCx x).evt = s.evt := rfl
@[simp] theorem State.withCx_wtr (s : State) (x : Cx) : (s.withCx x).wtr = x.rep.wtr := rfl
@[simp] theorem State.withCx_boot (s : State) (x : Cx) : (s.withCx x).boot = s.boot := rfl
@[simp] theorem State.withCx_thm (s : State) (x : Cx) : (s.withCx x).thm = s.thm := rfl

@[simp] theorem State.withFx_pending (s : State) (x : Fx) : (s.withFx x).pending = s.pending := rfl
@[simp] theorem State.withFx_now (s : State) (x : Fx) : (s.withFx x).now = s.now := rfl
@[simp] theorem State.withFx_free (s : State) (x : Fx) : (s.withFx x).free = s.free := rfl
@[simp] theorem State.withFx_out (s : State) (x : Fx) : (s.withFx x).out = x.rep.out := rfl
@[simp] theorem State.withFx_regs (s : State) (x : Fx) : (s.withFx x).regs = x.rep.regs := rfl
@[simp] theorem State.withFx_mem (s : State) (x : Fx) : (s.withFx x).mem = s.mem := rfl
@[simp] theorem State.withFx_mec (s : State) (x : Fx) : (s.withFx x).mec = s.mec := rfl
@[simp] theorem State.withFx_drum (s : State) (x : Fx) : (s.withFx x).drum = s.drum := rfl
@[simp] theorem State.withFx_ppt (s : State) (x : Fx) : (s.withFx x).ppt = x.ppt := rfl
@[simp] theorem State.withFx_host (s : State) (x : Fx) : (s.withFx x).host = x.rep.host := rfl
@[simp] theorem State.withFx_qm (s : State) (x : Fx) : (s.withFx x).qm = s.qm := rfl
@[simp] theorem State.withFx_dma (s : State) (x : Fx) : (s.withFx x).dma = s.dma := rfl
@[simp] theorem State.withFx_cores (s : State) (x : Fx) : (s.withFx x).cores = s.cores := rfl
@[simp] theorem State.withFx_cpl (s : State) (x : Fx) : (s.withFx x).cpl = s.cpl := rfl
@[simp] theorem State.withFx_span (s : State) (x : Fx) : (s.withFx x).span = s.span := rfl
@[simp] theorem State.withFx_eth (s : State) (x : Fx) : (s.withFx x).eth = s.eth := rfl
@[simp] theorem State.withFx_blf (s : State) (x : Fx) : (s.withFx x).blf = s.blf := rfl
@[simp] theorem State.withFx_dac (s : State) (x : Fx) : (s.withFx x).dac = s.dac := rfl
@[simp] theorem State.withFx_pwr (s : State) (x : Fx) : (s.withFx x).pwr = s.pwr := rfl
@[simp] theorem State.withFx_lnt (s : State) (x : Fx) : (s.withFx x).lnt = s.lnt := rfl
@[simp] theorem State.withFx_evt (s : State) (x : Fx) : (s.withFx x).evt = s.evt := rfl
@[simp] theorem State.withFx_wtr (s : State) (x : Fx) : (s.withFx x).wtr = x.rep.wtr := rfl
@[simp] theorem State.withFx_boot (s : State) (x : Fx) : (s.withFx x).boot = s.boot := rfl
@[simp] theorem State.withFx_thm (s : State) (x : Fx) : (s.withFx x).thm = s.thm := rfl

@[simp] theorem State.withLx_pending (s : State) (x : Lx) : (s.withLx x).pending = s.pending := rfl
@[simp] theorem State.withLx_now (s : State) (x : Lx) : (s.withLx x).now = s.now := rfl
@[simp] theorem State.withLx_free (s : State) (x : Lx) : (s.withLx x).free = s.free := rfl
@[simp] theorem State.withLx_out (s : State) (x : Lx) : (s.withLx x).out = x.qx.mm.rep.out := rfl
@[simp] theorem State.withLx_regs (s : State) (x : Lx) : (s.withLx x).regs = x.qx.mm.rep.regs := rfl
@[simp] theorem State.withLx_mem (s : State) (x : Lx) : (s.withLx x).mem = x.qx.mm.mem := rfl
@[simp] theorem State.withLx_mec (s : State) (x : Lx) : (s.withLx x).mec = x.qx.mm.mec := rfl
@[simp] theorem State.withLx_drum (s : State) (x : Lx) : (s.withLx x).drum = s.drum := rfl
@[simp] theorem State.withLx_ppt (s : State) (x : Lx) : (s.withLx x).ppt = s.ppt := rfl
@[simp] theorem State.withLx_host (s : State) (x : Lx) : (s.withLx x).host = x.qx.mm.rep.host := rfl
@[simp] theorem State.withLx_qm (s : State) (x : Lx) : (s.withLx x).qm = x.qx.qm := rfl
@[simp] theorem State.withLx_dma (s : State) (x : Lx) : (s.withLx x).dma = s.dma := rfl
@[simp] theorem State.withLx_cores (s : State) (x : Lx) : (s.withLx x).cores = s.cores := rfl
@[simp] theorem State.withLx_cpl (s : State) (x : Lx) : (s.withLx x).cpl = s.cpl := rfl
@[simp] theorem State.withLx_span (s : State) (x : Lx) : (s.withLx x).span = s.span := rfl
@[simp] theorem State.withLx_eth (s : State) (x : Lx) : (s.withLx x).eth = s.eth := rfl
@[simp] theorem State.withLx_blf (s : State) (x : Lx) : (s.withLx x).blf = s.blf := rfl
@[simp] theorem State.withLx_dac (s : State) (x : Lx) : (s.withLx x).dac = s.dac := rfl
@[simp] theorem State.withLx_pwr (s : State) (x : Lx) : (s.withLx x).pwr = s.pwr := rfl
@[simp] theorem State.withLx_lnt (s : State) (x : Lx) : (s.withLx x).lnt = x.lnt := rfl
@[simp] theorem State.withLx_evt (s : State) (x : Lx) : (s.withLx x).evt = s.evt := rfl
@[simp] theorem State.withLx_wtr (s : State) (x : Lx) : (s.withLx x).wtr = x.qx.mm.rep.wtr := rfl
@[simp] theorem State.withLx_boot (s : State) (x : Lx) : (s.withLx x).boot = s.boot := rfl
@[simp] theorem State.withLx_thm (s : State) (x : Lx) : (s.withLx x).thm = s.thm := rfl

@[simp] theorem State.setF_pending (s : State) (a : Nat) (f : Fld) (n : Nat) : (s.setF a f n).pending = s.pending := rfl
@[simp] theorem State.setF_now (s : State) (a : Nat) (f : Fld) (n : Nat) : (s.setF a f n).now = s.now := rfl
@[simp] theorem State.setF_free (s : State) (a : Nat) (f : Fld) (n : Nat) : (s.setF a f n).free = s.free := rfl
@[simp] theorem State.setF_out (s : State) (a : Nat) (f : Fld) (n : Nat) : (s.setF a f n).out = s.out := rfl
@[simp] theorem State.setF_regs (s : State) (a : Nat) (f : Fld) (n : Nat) : (s.setF a f n).regs = putR s.regs a f n := rfl
@[simp] theorem State.setF_mem (s : State) (a : Nat) (f : Fld) (n : Nat) : (s.setF a f n).mem = s.mem := rfl
@[simp] theorem State.setF_mec (s : State) (a : Nat) (f : Fld) (n : Nat) : (s.setF a f n).mec = s.mec := rfl
@[simp] theorem State.setF_drum (s : State) (a : Nat) (f : Fld) (n : Nat) : (s.setF a f n).drum = s.drum := rfl
@[simp] theorem State.setF_ppt (s : State) (a : Nat) (f : Fld) (n : Nat) : (s.setF a f n).ppt = s.ppt := rfl
@[simp] theorem State.setF_host (s : State) (a : Nat) (f : Fld) (n : Nat) : (s.setF a f n).host = s.host := rfl
@[simp] theorem State.setF_qm (s : State) (a : Nat) (f : Fld) (n : Nat) : (s.setF a f n).qm = s.qm := rfl
@[simp] theorem State.setF_dma (s : State) (a : Nat) (f : Fld) (n : Nat) : (s.setF a f n).dma = s.dma := rfl
@[simp] theorem State.setF_cores (s : State) (a : Nat) (f : Fld) (n : Nat) : (s.setF a f n).cores = s.cores := rfl
@[simp] theorem State.setF_cpl (s : State) (a : Nat) (f : Fld) (n : Nat) : (s.setF a f n).cpl = s.cpl := rfl
@[simp] theorem State.setF_span (s : State) (a : Nat) (f : Fld) (n : Nat) : (s.setF a f n).span = s.span := rfl
@[simp] theorem State.setF_eth (s : State) (a : Nat) (f : Fld) (n : Nat) : (s.setF a f n).eth = s.eth := rfl
@[simp] theorem State.setF_blf (s : State) (a : Nat) (f : Fld) (n : Nat) : (s.setF a f n).blf = s.blf := rfl
@[simp] theorem State.setF_dac (s : State) (a : Nat) (f : Fld) (n : Nat) : (s.setF a f n).dac = s.dac := rfl
@[simp] theorem State.setF_pwr (s : State) (a : Nat) (f : Fld) (n : Nat) : (s.setF a f n).pwr = s.pwr := rfl
@[simp] theorem State.setF_lnt (s : State) (a : Nat) (f : Fld) (n : Nat) : (s.setF a f n).lnt = s.lnt := rfl
@[simp] theorem State.setF_evt (s : State) (a : Nat) (f : Fld) (n : Nat) : (s.setF a f n).evt = s.evt := rfl
@[simp] theorem State.setF_wtr (s : State) (a : Nat) (f : Fld) (n : Nat) : (s.setF a f n).wtr = s.wtr := rfl
@[simp] theorem State.setF_boot (s : State) (a : Nat) (f : Fld) (n : Nat) : (s.setF a f n).boot = s.boot := rfl
@[simp] theorem State.setF_thm (s : State) (a : Nat) (f : Fld) (n : Nat) : (s.setF a f n).thm = s.thm := rfl

@[simp] theorem State.wr_pending (s : State) (a : Nat) (v : Word) : (s.wr a v).pending = s.pending := rfl
@[simp] theorem State.wr_now (s : State) (a : Nat) (v : Word) : (s.wr a v).now = s.now := rfl
@[simp] theorem State.wr_free (s : State) (a : Nat) (v : Word) : (s.wr a v).free = s.free := rfl
@[simp] theorem State.wr_out (s : State) (a : Nat) (v : Word) : (s.wr a v).out = s.out := rfl
@[simp] theorem State.wr_regs (s : State) (a : Nat) (v : Word) : (s.wr a v).regs = wrR s.regs a v := rfl
@[simp] theorem State.wr_mem (s : State) (a : Nat) (v : Word) : (s.wr a v).mem = s.mem := rfl
@[simp] theorem State.wr_mec (s : State) (a : Nat) (v : Word) : (s.wr a v).mec = s.mec := rfl
@[simp] theorem State.wr_drum (s : State) (a : Nat) (v : Word) : (s.wr a v).drum = s.drum := rfl
@[simp] theorem State.wr_ppt (s : State) (a : Nat) (v : Word) : (s.wr a v).ppt = s.ppt := rfl
@[simp] theorem State.wr_host (s : State) (a : Nat) (v : Word) : (s.wr a v).host = s.host := rfl
@[simp] theorem State.wr_qm (s : State) (a : Nat) (v : Word) : (s.wr a v).qm = s.qm := rfl
@[simp] theorem State.wr_dma (s : State) (a : Nat) (v : Word) : (s.wr a v).dma = s.dma := rfl
@[simp] theorem State.wr_cores (s : State) (a : Nat) (v : Word) : (s.wr a v).cores = s.cores := rfl
@[simp] theorem State.wr_cpl (s : State) (a : Nat) (v : Word) : (s.wr a v).cpl = s.cpl := rfl
@[simp] theorem State.wr_span (s : State) (a : Nat) (v : Word) : (s.wr a v).span = s.span := rfl
@[simp] theorem State.wr_eth (s : State) (a : Nat) (v : Word) : (s.wr a v).eth = s.eth := rfl
@[simp] theorem State.wr_blf (s : State) (a : Nat) (v : Word) : (s.wr a v).blf = s.blf := rfl
@[simp] theorem State.wr_dac (s : State) (a : Nat) (v : Word) : (s.wr a v).dac = s.dac := rfl
@[simp] theorem State.wr_pwr (s : State) (a : Nat) (v : Word) : (s.wr a v).pwr = s.pwr := rfl
@[simp] theorem State.wr_lnt (s : State) (a : Nat) (v : Word) : (s.wr a v).lnt = s.lnt := rfl
@[simp] theorem State.wr_evt (s : State) (a : Nat) (v : Word) : (s.wr a v).evt = s.evt := rfl
@[simp] theorem State.wr_wtr (s : State) (a : Nat) (v : Word) : (s.wr a v).wtr = s.wtr := rfl
@[simp] theorem State.wr_boot (s : State) (a : Nat) (v : Word) : (s.wr a v).boot = s.boot := rfl
@[simp] theorem State.wr_thm (s : State) (a : Nat) (v : Word) : (s.wr a v).thm = s.thm := rfl

@[simp] theorem State.emit_pending (s : State) (o : Out) : (s.emit o).pending = s.pending := rfl
@[simp] theorem State.emit_now (s : State) (o : Out) : (s.emit o).now = s.now := rfl
@[simp] theorem State.emit_free (s : State) (o : Out) : (s.emit o).free = s.free := rfl
@[simp] theorem State.emit_out (s : State) (o : Out) : (s.emit o).out = o :: s.out := rfl
@[simp] theorem State.emit_regs (s : State) (o : Out) : (s.emit o).regs = s.regs := rfl
@[simp] theorem State.emit_mem (s : State) (o : Out) : (s.emit o).mem = s.mem := rfl
@[simp] theorem State.emit_mec (s : State) (o : Out) : (s.emit o).mec = s.mec := rfl
@[simp] theorem State.emit_drum (s : State) (o : Out) : (s.emit o).drum = s.drum := rfl
@[simp] theorem State.emit_ppt (s : State) (o : Out) : (s.emit o).ppt = s.ppt := rfl
@[simp] theorem State.emit_host (s : State) (o : Out) : (s.emit o).host = s.host := rfl
@[simp] theorem State.emit_qm (s : State) (o : Out) : (s.emit o).qm = s.qm := rfl
@[simp] theorem State.emit_dma (s : State) (o : Out) : (s.emit o).dma = s.dma := rfl
@[simp] theorem State.emit_cores (s : State) (o : Out) : (s.emit o).cores = s.cores := rfl
@[simp] theorem State.emit_cpl (s : State) (o : Out) : (s.emit o).cpl = s.cpl := rfl
@[simp] theorem State.emit_span (s : State) (o : Out) : (s.emit o).span = s.span := rfl
@[simp] theorem State.emit_eth (s : State) (o : Out) : (s.emit o).eth = s.eth := rfl
@[simp] theorem State.emit_blf (s : State) (o : Out) : (s.emit o).blf = s.blf := rfl
@[simp] theorem State.emit_dac (s : State) (o : Out) : (s.emit o).dac = s.dac := rfl
@[simp] theorem State.emit_pwr (s : State) (o : Out) : (s.emit o).pwr = s.pwr := rfl
@[simp] theorem State.emit_lnt (s : State) (o : Out) : (s.emit o).lnt = s.lnt := rfl
@[simp] theorem State.emit_evt (s : State) (o : Out) : (s.emit o).evt = s.evt := rfl
@[simp] theorem State.emit_wtr (s : State) (o : Out) : (s.emit o).wtr = s.wtr := rfl
@[simp] theorem State.emit_boot (s : State) (o : Out) : (s.emit o).boot = s.boot := rfl
@[simp] theorem State.emit_thm (s : State) (o : Out) : (s.emit o).thm = s.thm := rfl

@[simp] theorem State.drawn_pending (s : State) (n : Nat) : (s.drawn n).pending = s.pending := rfl
@[simp] theorem State.drawn_now (s : State) (n : Nat) : (s.drawn n).now = s.now := rfl
@[simp] theorem State.drawn_free (s : State) (n : Nat) : (s.drawn n).free = s.free + n := rfl
@[simp] theorem State.drawn_out (s : State) (n : Nat) : (s.drawn n).out = s.out := rfl
@[simp] theorem State.drawn_regs (s : State) (n : Nat) : (s.drawn n).regs = s.regs := rfl
@[simp] theorem State.drawn_mem (s : State) (n : Nat) : (s.drawn n).mem = s.mem := rfl
@[simp] theorem State.drawn_mec (s : State) (n : Nat) : (s.drawn n).mec = s.mec := rfl
@[simp] theorem State.drawn_drum (s : State) (n : Nat) : (s.drawn n).drum = s.drum := rfl
@[simp] theorem State.drawn_ppt (s : State) (n : Nat) : (s.drawn n).ppt = s.ppt := rfl
@[simp] theorem State.drawn_host (s : State) (n : Nat) : (s.drawn n).host = s.host := rfl
@[simp] theorem State.drawn_qm (s : State) (n : Nat) : (s.drawn n).qm = s.qm := rfl
@[simp] theorem State.drawn_dma (s : State) (n : Nat) : (s.drawn n).dma = s.dma := rfl
@[simp] theorem State.drawn_cores (s : State) (n : Nat) : (s.drawn n).cores = s.cores := rfl
@[simp] theorem State.drawn_cpl (s : State) (n : Nat) : (s.drawn n).cpl = s.cpl := rfl
@[simp] theorem State.drawn_span (s : State) (n : Nat) : (s.drawn n).span = s.span := rfl
@[simp] theorem State.drawn_eth (s : State) (n : Nat) : (s.drawn n).eth = s.eth := rfl
@[simp] theorem State.drawn_blf (s : State) (n : Nat) : (s.drawn n).blf = s.blf := rfl
@[simp] theorem State.drawn_dac (s : State) (n : Nat) : (s.drawn n).dac = s.dac := rfl
@[simp] theorem State.drawn_pwr (s : State) (n : Nat) : (s.drawn n).pwr = s.pwr := rfl
@[simp] theorem State.drawn_lnt (s : State) (n : Nat) : (s.drawn n).lnt = s.lnt := rfl
@[simp] theorem State.drawn_evt (s : State) (n : Nat) : (s.drawn n).evt = s.evt := rfl
@[simp] theorem State.drawn_wtr (s : State) (n : Nat) : (s.drawn n).wtr = s.wtr := rfl
@[simp] theorem State.drawn_boot (s : State) (n : Nat) : (s.drawn n).boot = s.boot := rfl
@[simp] theorem State.drawn_thm (s : State) (n : Nat) : (s.drawn n).thm = s.thm := rfl

@[simp] theorem State.setCore_pending (s : State) (k : Nat) (c : Core) : (s.setCore k c).pending = s.pending := rfl
@[simp] theorem State.setCore_now (s : State) (k : Nat) (c : Core) : (s.setCore k c).now = s.now := rfl
@[simp] theorem State.setCore_free (s : State) (k : Nat) (c : Core) : (s.setCore k c).free = s.free := rfl
@[simp] theorem State.setCore_out (s : State) (k : Nat) (c : Core) : (s.setCore k c).out = s.out := rfl
@[simp] theorem State.setCore_regs (s : State) (k : Nat) (c : Core) : (s.setCore k c).regs = s.regs := rfl
@[simp] theorem State.setCore_mem (s : State) (k : Nat) (c : Core) : (s.setCore k c).mem = s.mem := rfl
@[simp] theorem State.setCore_mec (s : State) (k : Nat) (c : Core) : (s.setCore k c).mec = s.mec := rfl
@[simp] theorem State.setCore_drum (s : State) (k : Nat) (c : Core) : (s.setCore k c).drum = s.drum := rfl
@[simp] theorem State.setCore_ppt (s : State) (k : Nat) (c : Core) : (s.setCore k c).ppt = s.ppt := rfl
@[simp] theorem State.setCore_host (s : State) (k : Nat) (c : Core) : (s.setCore k c).host = s.host := rfl
@[simp] theorem State.setCore_qm (s : State) (k : Nat) (c : Core) : (s.setCore k c).qm = s.qm := rfl
@[simp] theorem State.setCore_dma (s : State) (k : Nat) (c : Core) : (s.setCore k c).dma = s.dma := rfl
@[simp] theorem State.setCore_cores (s : State) (k : Nat) (c : Core) : (s.setCore k c).cores = Map.set Core.reset s.cores k c := rfl
@[simp] theorem State.setCore_cpl (s : State) (k : Nat) (c : Core) : (s.setCore k c).cpl = s.cpl := rfl
@[simp] theorem State.setCore_span (s : State) (k : Nat) (c : Core) : (s.setCore k c).span = s.span := rfl
@[simp] theorem State.setCore_eth (s : State) (k : Nat) (c : Core) : (s.setCore k c).eth = s.eth := rfl
@[simp] theorem State.setCore_blf (s : State) (k : Nat) (c : Core) : (s.setCore k c).blf = s.blf := rfl
@[simp] theorem State.setCore_dac (s : State) (k : Nat) (c : Core) : (s.setCore k c).dac = s.dac := rfl
@[simp] theorem State.setCore_pwr (s : State) (k : Nat) (c : Core) : (s.setCore k c).pwr = s.pwr := rfl
@[simp] theorem State.setCore_lnt (s : State) (k : Nat) (c : Core) : (s.setCore k c).lnt = s.lnt := rfl
@[simp] theorem State.setCore_evt (s : State) (k : Nat) (c : Core) : (s.setCore k c).evt = s.evt := rfl
@[simp] theorem State.setCore_wtr (s : State) (k : Nat) (c : Core) : (s.setCore k c).wtr = s.wtr := rfl
@[simp] theorem State.setCore_boot (s : State) (k : Nat) (c : Core) : (s.setCore k c).boot = s.boot := rfl
@[simp] theorem State.setCore_thm (s : State) (k : Nat) (c : Core) : (s.setCore k c).thm = s.thm := rfl

end Sys2Proof.Machine
end

