-- ==== Sys2Proof/Laws/Chain.lean ====
section
/-! SUPPORT. What the work of a chain item, and the opening of its units, can change: memory, its error log, reports, firmware
counters, Parapet's records and the count of free values, and nothing else (R88 to R128). -/
namespace Sys2Proof.Machine

/-- A state without the parts that chain work can change: two states that agree in it differ in those parts at most. -/
def State.beyond (s : State) : State :=
  { s with
    free := 0, out := [], regs := [], mem := [], mec := State.reset.mec, ppt := State.reset.ppt, host := State.reset.host,
    evt := State.reset.evt, wtr := State.reset.wtr }

/-- A state that agrees with another beyond the chain's reach is that other with the chain's parts replaced. -/
theorem State.beyond_eq {s t : State} (h : t.beyond = s.beyond) : t = { s with
    free := t.free, out := t.out, regs := t.regs, mem := t.mem, mec := t.mec, ppt := t.ppt, host := t.host, evt := t.evt,
    wtr := t.wtr } := by
  cases s; cases t
  simp only [State.beyond, State.mk.injEq] at h ⊢
  simp only [h, and_self]

theorem beyond_foldl {β : Type} {f : State → β → State} (l : List β) (s : State) (h : ∀ t b, (f t b).beyond = t.beyond) :
    (l.foldl f s).beyond = s.beyond := by
  induction l generalizing s with
  | nil => rfl
  | cons b l ih => exact (ih _).trans (h s b)

theorem beyond_foldl_fst {β γ : Type} {f : State × γ → β → State × γ} (l : List β) (r : State × γ)
    (h : ∀ t b, (f t b).1.beyond = t.1.beyond) : (l.foldl f r).1.beyond = r.1.beyond := by
  induction l generalizing r with
  | nil => rfl
  | cons b l ih => exact (ih _).trans (h r b)

/-- A fold that collects what each step reads. -/
theorem beyond_collect {β γ : Type} (g : State → β → State × γ) (l : List β) (s : State) (acc : List γ)
    (h : ∀ s b, (g s b).1.beyond = s.beyond) :
    (l.foldl (fun (r : State × List γ) b => let q := g r.1 b; (q.1, r.2 ++ [q.2])) (s, acc)).1.beyond = s.beyond :=
  beyond_foldl_fst l (s, acc) (fun t b => h t.1 b)

@[simp] theorem beyond_memWrite (s : State) (g a : Nat) (bs : List PByte) : (s.memWrite g a bs).beyond = s.beyond := id rfl
@[simp] theorem beyond_memRead (s : State) (g a n : Nat) : (s.memRead g a n).beyond = s.beyond := id rfl
@[simp] theorem beyond_memTake (s : State) (g a n : Nat) : (s.memTake g a n).1.beyond = s.beyond := id rfl
@[simp] theorem beyond_memSync (s : State) (g : Nat) : (s.memSync g).beyond = s.beyond := id rfl
@[simp] theorem beyond_fwBump (s : State) (o n : Nat) : (s.fwBump o n).beyond = s.beyond := id rfl
@[simp] theorem beyond_drawn (s : State) (n : Nat) : (s.drawn n).beyond = s.beyond := id rfl
@[simp] theorem beyond_orWord (s : State) (g a n : Nat) : (s.orWord g a n).beyond = s.beyond := id rfl

theorem beyond_ppt (s : State) (p : Parapet) : ({ s with ppt := p }).beyond = s.beyond := id rfl

@[simp] theorem beyond_takeAllAt (s : State) (g : Nat) (ps : List (Nat × Nat)) : (s.takeAllAt g ps).1.beyond = s.beyond := by
  simp [State.takeAllAt, beyond_foldl_fst]

@[simp] theorem beyond_copyRecords (s : State) (g src dst size n off : Nat) (age : Nat → Nat) :
    (s.copyRecords g src dst size n off age).beyond = s.beyond := by simp [State.copyRecords, beyond_foldl]

@[simp] theorem beyond_openUnit (s : State) (i : Item) (payload : List Byte) (dl : Bool) : (s.openUnit i payload dl).beyond = s.beyond := by
  unfold State.openUnit
  dsimp only
  rw [beyond_memSync]
  split <;> simp [beyond_foldl, beyond_ppt]

@[simp] theorem beyond_openBlock (s : State) (i : Item) (g : Grant) : (s.openBlock i g).beyond = s.beyond := by
  unfold State.openBlock
  dsimp only
  simp [beyond_foldl_fst]

@[simp] theorem beyond_openCoded (s : State) (i : Item) (g : Grant) : (s.openCoded i g).beyond = s.beyond := by
  unfold State.openCoded
  dsimp only
  split <;> simp

/-- What the release of an item writes before its work begins stays within the chain's reach. -/
theorem State.opening_beyond (s : State) (i : Item) (opens : Bool) : (s.opening i opens).beyond = s.beyond := by
  unfold State.opening
  split
  · rfl
  · split <;> (try split) <;> (try split) <;> simp

@[simp] theorem beyond_erasePrb (s : State) (i : Item) (r prb n : Nat) : (s.erasePrb i r prb n).beyond = s.beyond := by
  unfold State.erasePrb
  dsimp only
  split <;> simp [beyond_ppt]

@[simp] theorem beyond_combinePrb (s : State) (i : Item) (payload : List Byte) (p : Plan) (unit prb : Nat) :
    (s.combinePrb i payload p unit prb).beyond = s.beyond := by
  unfold State.combinePrb
  dsimp only
  split <;> simp [beyond_foldl]

@[simp] theorem beyond_combine (s : State) (i : Item) (payload : List Byte) : (s.combine i payload).beyond = s.beyond := by
  simp [State.combine, beyond_foldl]

@[simp] theorem beyond_estimatePrb (s : State) (i : Item) (g : Grant) (payload : List Byte) (unit prb : Nat) :
    (s.estimatePrb i g payload unit prb).beyond = s.beyond := by
  unfold State.estimatePrb
  dsimp only
  split
  · simp
  · split <;> simp [beyond_foldl]

@[simp] theorem beyond_borrow (s : State) (i : Item) (g : Grant) (payload : List Byte) (unit prb : Nat) (valid : List Nat) :
    (s.borrow i g payload unit prb valid).beyond = s.beyond := by
  unfold State.borrow
  split <;> simp [beyond_foldl]

@[simp] theorem beyond_estimate (s : State) (i : Item) (g : Grant) (payload : List Byte) : (s.estimate i g payload).beyond = s.beyond := by
  unfold State.estimate
  dsimp only
  simp [beyond_ppt, beyond_foldl]

@[simp] theorem beyond_eraseRow (s : State) (i : Item) (payload : List Byte) (unit prb : Nat) :
    (s.eraseRow i payload unit prb).beyond = s.beyond := by
  simp [State.eraseRow, beyond_foldl]

@[simp] theorem beyond_equalise (s : State) (i : Item) (g : Grant) (payload : List Byte) (unit prb : Nat) :
    (s.equalise i g payload unit prb).1.beyond = s.beyond := by
  unfold State.equalise
  dsimp only
  split
  · simp
  · split <;> simp

theorem beyond_equalised (i : Item) (g : Grant) (payload : List Byte) (unit : Nat) (l : List Nat) (s : State) :
    (l.foldl (fun (r : State × List Equal) prb =>
      let q := r.1.equalise i g payload unit prb
      (q.1, r.2 ++ [q.2])) (s, [])).1.beyond = s.beyond :=
  beyond_collect (fun s prb => s.equalise i g payload unit prb) l s [] (fun s prb => beyond_equalise s i g payload unit prb)

@[simp] theorem beyond_writeLlrs (s : State) (g a : Nat) (bs : List Block) (n0 : Nat) (ls : List Byte) :
    (s.writeLlrs g a bs n0 ls).beyond = s.beyond := by
  unfold State.writeLlrs
  rw [beyond_foldl_fst]
  intro t b
  dsimp only
  split <;> simp

@[simp] theorem beyond_demap (s : State) (i : Item) (g : Grant) (payload : List Byte) : (s.demap i g payload).beyond = s.beyond := by
  unfold State.demap
  extract_lets p unit r es bs n0 a t
  have hr : r.1.beyond = s.beyond := beyond_equalised i g payload unit _ s
  rw [beyond_writeLlrs, beyond_memWrite, hr]

@[simp] theorem beyond_encoded (s : State) (i : Item) (g : Grant) : (s.encoded i g).beyond = s.beyond := by
  unfold State.encoded
  split
  · split <;> simp
  · rfl

@[simp] theorem beyond_mapSymbol (s : State) (i : Item) (payload : List Byte) : (s.mapSymbol i payload).beyond = s.beyond := by
  unfold State.mapSymbol
  dsimp only
  simp [beyond_ppt, beyond_foldl, beyond_foldl_fst]

@[simp] theorem beyond_precodePrb (s : State) (i : Item) (payload : List Byte) (p : Plan) (unit : Nat) (exps : List PByte) (written : Bool)
    (beam : List PByte) (ps : List Pdcch) (prb : Nat) : (s.precodePrb i payload p unit exps written beam ps prb).beyond = s.beyond := by
  unfold State.precodePrb
  dsimp only
  cases written <;> simp only [if_true, Bool.false_eq_true, if_false] <;> split <;> simp [beyond_ppt, beyond_foldl]

@[simp] theorem beyond_precode (s : State) (i : Item) (payload : List Byte) : (s.precode i payload).beyond = s.beyond := by
  unfold State.precode
  dsimp only
  cases s.catB i.carrier <;> simp [beyond_ppt, beyond_foldl, beyond_foldl_fst]

@[simp] theorem beyond_buildCopy (s : State) (i : Item) (c : Carrier) : (s.buildCopy i c).beyond = s.beyond := by
  unfold State.buildCopy
  dsimp only
  simp [beyond_foldl]

@[simp] theorem beyond_derive (s : State) (i : Item) (payload : List Byte) : (s.derive i payload).beyond = s.beyond := by
  unfold State.derive
  dsimp only
  simp [beyond_ppt, beyond_foldl]

/-- What an item has done by its completion stays within the chain's reach. -/
theorem State.chain_beyond (s : State) (i : Item) : (s.chain i).beyond = s.beyond := by
  unfold State.chain
  split
  · split
    · rw [beyond_memSync]
      unfold State.chainWork
      split <;> simp
    · rfl
  · rfl

/-- The frame of an item's work: all but the chain's parts stands. -/
theorem State.chain_frame (s : State) (i : Item) : s.chain i = { s with
    free := (s.chain i).free, out := (s.chain i).out, regs := (s.chain i).regs, mem := (s.chain i).mem, mec := (s.chain i).mec,
    ppt := (s.chain i).ppt, host := (s.chain i).host, evt := (s.chain i).evt, wtr := (s.chain i).wtr } :=
  State.beyond_eq (s.chain_beyond i)

/-- The frame of an opening. -/
theorem State.opening_frame (s : State) (i : Item) (o : Bool) : s.opening i o = { s with
    free := (s.opening i o).free, out := (s.opening i o).out, regs := (s.opening i o).regs, mem := (s.opening i o).mem,
    mec := (s.opening i o).mec, ppt := (s.opening i o).ppt, host := (s.opening i o).host, evt := (s.opening i o).evt,
    wtr := (s.opening i o).wtr } :=
  State.beyond_eq (s.opening_beyond i o)

end Sys2Proof.Machine
end

