-- ==== Sys2Proof/Laws/Maps.lean ====
section
/-! SUPPORT. Laws of sparse tables: what a write leaves to read, and that the canonical form is kept. -/
namespace Sys2Proof.Machine

theorem Map.get_erase {α : Type} (d : α) (m : SMap α) (k j : Nat) :
    Map.get d (Map.erase k m) j = if j = k then d else Map.get d m j := by
  induction m with
  | nil => simp [Map.erase, Map.get]
  | cons e m ih =>
    obtain ⟨a, v⟩ := e
    simp only [Map.erase] at ih
    by_cases h : a = k
    · subst h
      simp only [Map.erase, List.filter, bne_self_eq_false, Map.get, ih]
      by_cases hj : j = a
      · simp [hj]
      · simp [hj, Ne.symm hj]
    · have hb : (a != k) = true := by simp [h]
      simp only [Map.erase, List.filter, hb, Map.get, ih]
      by_cases hj : a = j
      · subst hj; simp [h]
      · simp [hj]

theorem Map.get_insert {α : Type} (d v : α) (m : SMap α) (k j : Nat) (h : ∀ e ∈ m, e.1 ≠ k) :
    Map.get d (Map.insert k v m) j = if j = k then v else Map.get d m j := by
  induction m with
  | nil => simp [Map.insert, Map.get, eq_comm]
  | cons e m ih =>
    obtain ⟨a, w⟩ := e
    have ha : a ≠ k := h (a, w) (by simp)
    have hm : ∀ e ∈ m, e.1 ≠ k := fun e he => h e (by simp [he])
    simp only [Map.insert]
    split
    · by_cases hj : j = k
      · simp [Map.get, hj]
      · simp [Map.get, hj, Ne.symm hj]
    · simp only [Map.get, ih hm]
      by_cases hj : a = j
      · subst hj; simp [ha]
      · simp [hj]

/-- A read after a write: the value at the key written, all else as before. -/
theorem Map.get_set {α : Type} [DecidableEq α] (d v : α) (m : SMap α) (k j : Nat) :
    Map.get d (Map.set d m k v) j = if j = k then v else Map.get d m j := by
  unfold Map.set
  split
  · next h => rw [Map.get_erase, h]
  · rw [Map.get_insert, Map.get_erase]
    · by_cases hj : j = k <;> simp [hj]
    · intro e he
      simp only [Map.erase, List.mem_filter, bne_iff_ne] at he
      exact he.2

@[simp] theorem Map.get_set_same {α : Type} [DecidableEq α] (d v : α) (m : SMap α) (k : Nat) :
    Map.get d (Map.set d m k v) k = v := by simp [Map.get_set]

theorem Map.get_set_other {α : Type} [DecidableEq α] (d v : α) (m : SMap α) (k j : Nat) (h : j ≠ k) :
    Map.get d (Map.set d m k v) j = Map.get d m j := by simp [Map.get_set, h]

/-- Every key of a table from here on is above `k`. -/
def Map.above {α : Type} (k : Nat) (m : SMap α) : Prop := ∀ e ∈ m, k < e.1

theorem Map.rising_cons {α : Type} (k : Nat) (v : α) (m : SMap α) :
    Map.rising ((k, v) :: m) = true ↔ Map.above k m ∧ Map.rising m = true := by
  induction m generalizing k v with
  | nil => simp [Map.rising, Map.above]
  | cons e m ih =>
    obtain ⟨a, w⟩ := e
    simp only [Map.rising, Bool.and_eq_true, decide_eq_true_eq]
    constructor
    · rintro ⟨h, r⟩
      refine ⟨?_, r⟩
      intro e he
      rcases List.mem_cons.mp he with rfl | he
      · exact h
      · exact Nat.lt_trans h (((ih a w).mp r).1 e he)
    · rintro ⟨h, r⟩
      exact ⟨h (a, w) (by simp), r⟩

theorem Map.rising_erase {α : Type} (k : Nat) (m : SMap α) (h : Map.rising m = true) : Map.rising (Map.erase k m) = true := by
  induction m with
  | nil => rfl
  | cons e m ih =>
    obtain ⟨a, w⟩ := e
    have hr := (Map.rising_cons a w m).mp h
    simp only [Map.erase] at ih ⊢
    simp only [List.filter]
    split
    · refine (Map.rising_cons a w _).mpr ⟨?_, ih hr.2⟩
      intro e he
      exact hr.1 e (List.mem_filter.mp he).1
    · exact ih hr.2

theorem Map.above_insert {α : Type} (b k : Nat) (v : α) (m : SMap α) (hb : b < k) (h : Map.above b m) :
    Map.above b (Map.insert k v m) := by
  induction m with
  | nil => intro e he; simp only [Map.insert, List.mem_singleton] at he; subst he; exact hb
  | cons e m ih =>
    obtain ⟨a, w⟩ := e
    have hm : Map.above b m := fun e he => h e (by simp [he])
    simp only [Map.insert]
    split
    · intro e he
      rcases List.mem_cons.mp he with rfl | he
      · exact hb
      · exact h e he
    · intro e he
      rcases List.mem_cons.mp he with rfl | he
      · exact h _ (by simp)
      · exact ih hm e he

theorem Map.rising_insert {α : Type} (k : Nat) (v : α) (m : SMap α) (h : Map.rising m = true) (hk : ∀ e ∈ m, e.1 ≠ k) :
    Map.rising (Map.insert k v m) = true := by
  induction m with
  | nil => rfl
  | cons e m ih =>
    obtain ⟨a, w⟩ := e
    have ha : a ≠ k := hk (a, w) (by simp)
    have hm : ∀ e ∈ m, e.1 ≠ k := fun e he => hk e (by simp [he])
    have hr := (Map.rising_cons a w m).mp h
    simp only [Map.insert]
    split
    · next hlt =>
      refine (Map.rising_cons k v _).mpr ⟨?_, h⟩
      intro e he
      rcases List.mem_cons.mp he with rfl | he
      · exact hlt
      · exact Nat.lt_trans hlt (hr.1 e he)
    · next hlt =>
      exact (Map.rising_cons a w _).mpr ⟨Map.above_insert a k v m (by omega) hr.1, ih hr.2 hm⟩

theorem Map.mem_insert {α : Type} (k : Nat) (v : α) (m : SMap α) (e : Nat × α) (h : e ∈ Map.insert k v m) :
    e = (k, v) ∨ e ∈ m := by
  induction m with
  | nil => simpa [Map.insert] using h
  | cons x m ih =>
    obtain ⟨a, w⟩ := x
    simp only [Map.insert] at h
    split at h
    · simpa using h
    · rcases List.mem_cons.mp h with rfl | h
      · simp
      · rcases ih h with h | h
        · exact .inl h
        · exact .inr (by simp [h])

/-- A write keeps the canonical form. -/
theorem Map.wf_set {α : Type} [DecidableEq α] (d v : α) (m : SMap α) (k : Nat) (h : Map.wf d m = true) :
    Map.wf d (Map.set d m k v) = true := by
  simp only [Map.wf, Bool.and_eq_true, List.all_eq_true, decide_eq_true_eq] at h ⊢
  obtain ⟨hr, ha⟩ := h
  have he : ∀ e ∈ Map.erase k m, e.2 ≠ d := fun e he => ha e (List.mem_filter.mp he).1
  unfold Map.set
  split
  · exact ⟨Map.rising_erase k m hr, he⟩
  · next hv =>
    refine ⟨Map.rising_insert k v _ (Map.rising_erase k m hr) ?_, ?_⟩
    · intro e hm
      simp only [Map.erase, List.mem_filter, bne_iff_ne] at hm
      exact hm.2
    · intro e hm
      rcases Map.mem_insert k v _ e hm with rfl | hm
      · exact hv
      · exact he e hm

/-- Removing the keys of a range keeps the canonical form. -/
theorem Map.wf_clear {α : Type} [DecidableEq α] (d : α) (lo hi : Nat) (m : SMap α) (h : Map.wf d m = true) :
    Map.wf d (Map.clear lo hi m) = true := by
  simp only [Map.wf, Bool.and_eq_true, List.all_eq_true, decide_eq_true_eq] at h ⊢
  obtain ⟨hr, ha⟩ := h
  refine ⟨?_, fun e he => ha e (List.mem_filter.mp he).1⟩
  clear ha
  induction m with
  | nil => rfl
  | cons e m ih =>
    obtain ⟨a, w⟩ := e
    have hm := (Map.rising_cons a w m).mp hr
    simp only [Map.clear] at ih ⊢
    simp only [List.filter]
    split
    · refine (Map.rising_cons a w _).mpr ⟨?_, ih hm.2⟩
      intro e he
      exact hm.1 e (List.mem_filter.mp he).1
    · exact ih hm.2

/-- A read outside a cleared range. -/
theorem Map.get_clear {α : Type} (d : α) (lo hi : Nat) (m : SMap α) (j : Nat) :
    Map.get d (Map.clear lo hi m) j = if lo ≤ j ∧ j < hi then d else Map.get d m j := by
  induction m with
  | nil => simp [Map.clear, Map.get]
  | cons e m ih =>
    obtain ⟨a, v⟩ := e
    simp only [Map.clear] at ih
    by_cases h : lo ≤ a ∧ a < hi
    · simp only [Map.clear, List.filter, h.1, h.2, decide_true, Bool.and_self, Bool.not_true, ih, Map.get]
      by_cases hj : a = j
      · subst hj; simp [h]
      · simp [hj]
    · have hb : (!(decide (lo ≤ a) && decide (a < hi))) = true := by
        simp only [Bool.not_eq_true', Bool.and_eq_false_iff, decide_eq_false_iff_not]; omega
      simp only [Map.clear, List.filter, hb, Map.get, ih]
      by_cases hj : a = j
      · subst hj; simp [h]
      · simp [hj]

end Sys2Proof.Machine
end

