-- ==== Sys2Proof/Laws/Fields.lean ====
section
/-! SUPPORT. Laws of registers and of their bit fields: what a write of one leaves to read. -/
namespace Sys2Proof.Machine

@[simp] theorem rdR_wrR_same (m : SMap Word) (a : Nat) (v : Word) : rdR (wrR m a v) a = v := by simp [rdR, wrR]

theorem rdR_wrR (m : SMap Word) (a b : Nat) (v : Word) : rdR (wrR m a v) b = if b = a then v else rdR m b := by
  unfold rdR wrR
  by_cases h : b = a
  · subst h; simp
  · have hd : ∀ (x y : Word) (m : SMap Word), (Map.get x (Map.set y m a v) b) = Map.get x m b := by
      intro x y m
      unfold Map.set
      split
      · rw [Map.get_erase]; simp [h]
      · rw [Map.get_insert, Map.get_erase]
        · simp [h]
        · intro e he
          simp only [Map.erase, List.mem_filter, bne_iff_ne] at he
          exact he.2
    simp [h, hd]

theorem rdR_wrR_other (m : SMap Word) (a b : Nat) (v : Word) (h : b ≠ a) : rdR (wrR m a v) b = rdR m b := by
  simp [rdR_wrR, h]

/-- A word with a field set, as a number. -/
theorem Fld.set_toNat (f : Fld) (w : Word) (n : Nat) (h : f.lo + f.width ≤ 32) :
    (f.set w n).toNat =
      w.toNat % 2 ^ f.lo + n % 2 ^ f.width * 2 ^ f.lo + w.toNat / 2 ^ (f.lo + f.width) * 2 ^ (f.lo + f.width) := by
  unfold Fld.set
  rw [BitVec.toNat_ofNat]
  apply Nat.mod_eq_of_lt
  have hw : w.toNat < 2 ^ 32 := w.isLt
  have h1 : w.toNat % 2 ^ f.lo < 2 ^ f.lo := Nat.mod_lt _ (Nat.two_pow_pos _)
  have h2 : n % 2 ^ f.width < 2 ^ f.width := Nat.mod_lt _ (Nat.two_pow_pos _)
  have hp : (2 : Nat) ^ (f.lo + f.width) = 2 ^ f.width * 2 ^ f.lo := by rw [Nat.add_comm, Nat.pow_add]
  have h3 : w.toNat % 2 ^ f.lo + n % 2 ^ f.width * 2 ^ f.lo < 2 ^ (f.lo + f.width) := by
    have : (n % 2 ^ f.width + 1) * 2 ^ f.lo ≤ 2 ^ f.width * 2 ^ f.lo := Nat.mul_le_mul_right _ h2
    rw [hp]; rw [Nat.add_mul] at this; omega
  have hq : (2 : Nat) ^ 32 = 2 ^ (32 - (f.lo + f.width)) * 2 ^ (f.lo + f.width) := by
    rw [← Nat.pow_add]; congr 1; omega
  have h4 : w.toNat / 2 ^ (f.lo + f.width) < 2 ^ (32 - (f.lo + f.width)) := by
    rw [Nat.div_lt_iff_lt_mul (Nat.two_pow_pos _), ← hq]; exact hw
  have h5 : (w.toNat / 2 ^ (f.lo + f.width) + 1) * 2 ^ (f.lo + f.width) ≤ 2 ^ 32 := by
    rw [hq]; exact Nat.mul_le_mul_right _ h4
  rw [Nat.add_mul] at h5; omega

/-- A field reads what was set, cut to its width. -/
theorem Fld.get_set_same (f : Fld) (w : Word) (n : Nat) (h : f.lo + f.width ≤ 32) : f.get (f.set w n) = n % 2 ^ f.width := by
  unfold Fld.get
  rw [Fld.set_toNat f w n h]
  have h1 : w.toNat % 2 ^ f.lo < 2 ^ f.lo := Nat.mod_lt _ (Nat.two_pow_pos _)
  have hp : w.toNat / 2 ^ (f.lo + f.width) * 2 ^ (f.lo + f.width) = (w.toNat / 2 ^ (f.lo + f.width) * 2 ^ f.width) * 2 ^ f.lo := by
    rw [Nat.mul_assoc, ← Nat.pow_add, Nat.add_comm f.width]
  rw [hp, Nat.add_assoc, ← Nat.add_mul, Nat.add_mul_div_right _ _ (Nat.two_pow_pos _), Nat.div_eq_of_lt h1, Nat.zero_add,
    Nat.add_mul_mod_self_right, Nat.mod_mod]

/-- Bits of a field's word. -/
theorem Fld.set_testBit (f : Fld) (w : Word) (n i : Nat) (h : f.lo + f.width ≤ 32) :
    (f.set w n).toNat.testBit i =
      if i < f.lo then w.toNat.testBit i else if i < f.lo + f.width then n.testBit (i - f.lo) else w.toNat.testBit i := by
  rw [Fld.set_toNat f w n h]
  have h1 : w.toNat % 2 ^ f.lo < 2 ^ f.lo := Nat.mod_lt _ (Nat.two_pow_pos _)
  have h2 : n % 2 ^ f.width < 2 ^ f.width := Nat.mod_lt _ (Nat.two_pow_pos _)
  have hp : (2 : Nat) ^ (f.lo + f.width) = 2 ^ f.width * 2 ^ f.lo := by rw [Nat.add_comm, Nat.pow_add]
  have h3 : w.toNat % 2 ^ f.lo + n % 2 ^ f.width * 2 ^ f.lo < 2 ^ (f.lo + f.width) := by
    have : (n % 2 ^ f.width + 1) * 2 ^ f.lo ≤ 2 ^ f.width * 2 ^ f.lo := Nat.mul_le_mul_right _ h2
    rw [hp]; rw [Nat.add_mul] at this; omega
  rw [Nat.add_comm (w.toNat % 2 ^ f.lo + _), Nat.mul_comm (w.toNat / _), Nat.testBit_two_pow_mul_add _ h3]
  by_cases hi : i < f.lo + f.width
  · simp only [hi, if_true]
    rw [Nat.add_comm, Nat.mul_comm, Nat.testBit_two_pow_mul_add _ h1]
    by_cases hl : i < f.lo
    · simp only [hl, if_true, Nat.testBit_mod_two_pow]; simp
    · simp only [hl, if_false, Nat.testBit_mod_two_pow]
      have : i - f.lo < f.width := by omega
      simp [this]
  · have hl : ¬ i < f.lo := by omega
    simp only [hi, hl, if_false, Nat.testBit_div_two_pow]
    congr 1; omega

/-- A field that does not overlap the one that is set reads as before. -/
theorem Fld.get_set_other (f g : Fld) (w : Word) (n : Nat) (h : f.lo + f.width ≤ 32)
    (hd : f.lo + f.width ≤ g.lo ∨ g.lo + g.width ≤ f.lo) : g.get (f.set w n) = g.get w := by
  unfold Fld.get
  apply Nat.eq_of_testBit_eq
  intro i
  simp only [Nat.testBit_mod_two_pow, Nat.testBit_div_two_pow, Fld.set_testBit f w n _ h]
  by_cases hi : i < g.width
  · simp only [hi, decide_true, Bool.true_and]
    rcases hd with hd | hd
    · have a : ¬ (i + g.lo < f.lo) := by omega
      have b : ¬ (i + g.lo < f.lo + f.width) := by omega
      simp [a, b]
    · have a : i + g.lo < f.lo := by omega
      simp [a]
  · simp [hi]

theorem getR_putR_same (m : SMap Word) (a : Nat) (f : Fld) (n : Nat) (h : f.lo + f.width ≤ 32) :
    getR (putR m a f n) a f = n % 2 ^ f.width := by simp [getR, putR, Fld.get_set_same, h]

theorem getR_putR_field (m : SMap Word) (a : Nat) (f g : Fld) (n : Nat) (h : f.lo + f.width ≤ 32)
    (hd : f.lo + f.width ≤ g.lo ∨ g.lo + g.width ≤ f.lo) : getR (putR m a f n) a g = getR m a g := by
  simp [getR, putR, Fld.get_set_other f g _ n h hd]

theorem getR_putR_reg (m : SMap Word) (a b : Nat) (f g : Fld) (n : Nat) (h : b ≠ a) :
    getR (putR m a f n) b g = getR m b g := by simp [getR, putR, rdR_wrR, h]

theorem rdR_putR (m : SMap Word) (a b : Nat) (f : Fld) (n : Nat) :
    rdR (putR m a f n) b = if b = a then f.set (rdR m a) n else rdR m b := by simp [putR, rdR_wrR]

theorem getR_wrR_same (m : SMap Word) (a : Nat) (v : Word) (f : Fld) : getR (wrR m a v) a f = f.get v := by simp [getR]

theorem getR_wrR_other (m : SMap Word) (a b : Nat) (v : Word) (f : Fld) (h : b ≠ a) : getR (wrR m a v) b f = getR m b f := by
  simp [getR, rdR_wrR, h]

/-- A stick counter after an addition (R385). -/
theorem rdR_stickR_same (m : SMap Word) (a n : Nat) :
    rdR (stickR m a n) a = BitVec.ofNat 32 (min 0xFFFFFFFF ((rdR m a).toNat + n)) := by simp [stickR]

theorem rdR_stickR_other (m : SMap Word) (a b n : Nat) (h : b ≠ a) : rdR (stickR m a n) b = rdR m b := by
  simp [stickR, rdR_wrR, h]

end Sys2Proof.Machine
end

