-- ==== Sys2Proof/Laws/Events.lean ====
section
/-! SUPPORT. What a report can do (R66 to R68, R382 to R385, R393): whatever is true before it and is kept by its five kinds of update
is true after it. -/
namespace Sys2Proof.Machine

/-- The report registers, with the status words of the groups `G` only. -/
def inReport (G : Nat → Prop) (a : Nat) : Prop :=
  (∃ g, G g ∧ g < 32 ∧ a = Rg.EVT_STATUS g) ∨ a = Rg.EVT_RAISES ∨ a = Rg.WTR_STATUS ∨ a = Rg.WTR_SUPPRESSED ∨
    a = Rg.PCE_NRING_PRODUCER ∨ a = Rg.PCE_NRING_LOST

/-- Two register files differ in report registers only. -/
def apartFromReports (G : Nat → Prop) (m m' : SMap Word) : Prop := ∀ b, ¬ inReport G b → rdR m' b = rdR m b

/-- Kept by the updates that a raise makes: report registers, outputs, the notification ring with its backlog and losses, the
recorder's input. -/
structure Kept (G : Nat → Prop) (P : Rep → Prop) : Prop where
  reg : ∀ r m, apartFromReports G r.regs m → P r → P { r with regs := m }
  out : ∀ r o, P r → P { r with out := o }
  ring : ∀ r g b k, P r → P { r with host := { r.host with ring := g, backlog := b, lostBy := k } }
  wtr : ∀ r w, P r → P { r with wtr := w }

theorem inReport_status {G : Nat → Prop} (g : Nat) (hg : G g) (h : g < 32) : inReport G (Rg.EVT_STATUS g) := .inl ⟨g, hg, h, rfl⟩
theorem inReport_raises {G : Nat → Prop} : inReport G Rg.EVT_RAISES := .inr (.inl rfl)
theorem inReport_wtr {G : Nat → Prop} : inReport G Rg.WTR_STATUS := .inr (.inr (.inl rfl))
theorem inReport_suppressed {G : Nat → Prop} : inReport G Rg.WTR_SUPPRESSED := .inr (.inr (.inr (.inl rfl)))
theorem inReport_producer {G : Nat → Prop} : inReport G Rg.PCE_NRING_PRODUCER := .inr (.inr (.inr (.inr (.inl rfl))))
theorem inReport_lost {G : Nat → Prop} : inReport G Rg.PCE_NRING_LOST := .inr (.inr (.inr (.inr (.inr rfl))))

/-- A test of `reportReg` that evaluates. -/
def reportTest (a : Nat) : Bool :=
  (decide (0x20000F00000 ≤ a) && decide (a < 0x20000F00200) && a % 16 == 0) || a == 0x20000F0040C || a == 0x20001000004 ||
    a == 0x2000100001C || a == 0x20000A82004 || a == 0x20000A82008

theorem not_report {a : Nat} (h : reportTest a = false) : ¬ reportReg a := by
  rintro (⟨g, hg, rfl⟩ | rfl | rfl | rfl | rfl | rfl)
  · have h1 : 0x20000F00000 ≤ Rg.EVT_STATUS g := by simp only [Rg.EVT_STATUS]; omega
    have h2 : Rg.EVT_STATUS g < 0x20000F00200 := by simp only [Rg.EVT_STATUS]; omega
    have h3 : Rg.EVT_STATUS g % 16 = 0 := by simp only [Rg.EVT_STATUS]; omega
    simp [reportTest, h1, h2, h3] at h
  all_goals exact absurd h (by decide)

theorem State.rd_eq (s : State) (a : Nat) : s.rd a = rdR s.regs a := rfl
theorem State.getF_eq (s : State) (a : Nat) (f : Fld) : s.getF a f = getR s.regs a f := rfl

theorem apart_refl {G : Nat → Prop} (m : SMap Word) : apartFromReports G m m := fun _ _ => rfl

theorem apart_wr {G : Nat → Prop} {m m' : SMap Word} (h : apartFromReports G m m') (a : Nat) (v : Word) (ha : inReport G a) :
    apartFromReports G m (wrR m' a v) := by
  intro b hb
  have hne : b ≠ a := fun e => hb (by rw [e]; exact ha)
  rw [rdR_wrR_other _ _ _ _ hne]
  exact h b hb

theorem apart_ite {G : Nat → Prop} {m x y : SMap Word} (c : Prop) [Decidable c] (hx : apartFromReports G m x) (hy : apartFromReports G m y) :
    apartFromReports G m (if c then x else y) := by
  split
  · exact hx
  · exact hy

theorem Kept.ite {P : Rep → Prop} {c : Prop} [Decidable c] {x y : Rep} (hx : P x) (hy : P y) : P (if c then x else y) := by
  split
  · exact hx
  · exact hy

theorem Kept.msix {G : Nat → Prop} {P : Rep → Prop} (k : Kept G P) (r : Rep) (n : Nat) (h : P r) : P (r.msix n) := k.out r _ h

theorem apart_present {G : Nat → Prop} (m : SMap Word) (w : Watchtower) (n : Nat) :
    apartFromReports G m (wtrStatus (if 8 ≤ n then stickR m Rg.WTR_SUPPRESSED 1 else m) w) :=
  apart_wr (apart_wr (apart_ite _ (apart_wr (apart_refl m) _ _ inReport_suppressed) (apart_refl m)) _ _ inReport_wtr) _ _ inReport_wtr

theorem Kept.present {G : Nat → Prop} {P : Rep → Prop} (k : Kept G P) (r : Rep) (x : Rec) (h : P r) : P (r.present x) := by
  unfold Rep.present
  refine Kept.ite (k.reg r _ (apart_wr (apart_refl _) _ _ inReport_suppressed) h) ?_
  have h1 := k.reg r _ (apart_present r.regs (r.wtr.presented x r.now) r.wtr.fifo.length) h
  exact k.wtr _ (r.wtr.presented x r.now) h1

theorem apart_ring {G : Nat → Prop} (m : SMap Word) (p ph n : Nat) : apartFromReports G m (ringRegs m p ph n) :=
  apart_ite _ (apart_wr (apart_wr (apart_refl m) _ _ inReport_producer) _ _ inReport_producer)
    (apart_wr (apart_refl m) _ _ inReport_producer)

theorem Kept.ringWrite {G : Nat → Prop} {P : Rep → Prop} (k : Kept G P) (r : Rep) (n : Notif) (hn : n.kind ≠ kCompletion) (h : P r) :
    P (r.ringWrite n) := by
  have h1 := k.reg r _ (apart_ring r.regs (getR r.regs Rg.PCE_NRING_PRODUCER Fd.PCE_NRING_PRODUCER_producer)
    (getR r.regs Rg.PCE_NRING_PRODUCER Fd.PCE_NRING_PRODUCER_phase) r.host.ring.size) h
  have h2 := k.out _ (r.ringWrite n).out h1
  have h3 := k.ring _ (r.ringWrite n).host.ring r.host.backlog r.host.lostBy h2
  have : r.ringWrite n = _ := rfl
  rw [this]
  unfold Rep.ringWrite
  simp only [hn, if_false]
  exact h3

theorem Kept.post {G : Nat → Prop} {P : Rep → Prop} (k : Kept G P) (lost : Rep → Rep) (hl : ∀ r, P r → P (lost r)) (r : Rep) (n : Notif)
    (hn : n.kind ≠ kCompletion) (h : P r) : P (r.post lost n) := by
  unfold Rep.post
  refine Kept.ite (k.ringWrite r n hn h) (Kept.ite (k.ring r r.host.ring _ r.host.lostBy h) ?_)
  have h1 := k.reg r (stickR r.regs Rg.PCE_NRING_LOST 1) (apart_wr (apart_refl _) _ _ inReport_lost) h
  exact hl _ (k.ring _ r.host.ring r.host.backlog _ h1)

/-- What follows the mark of a raise, and a raise as a whole, keep what its updates keep (R383). -/
theorem Kept.both {G : Nat → Prop} {P : Rep → Prop} (k : Kept G P) (h12 : G 12) : ∀ fuel : Nat,
    (∀ (r : Rep) (e : Raise), P (r.mark e) → P (Rep.raise (fuel + 1) r e)) ∧
    (∀ (r : Rep) (e : Raise), e.ev < 1024 → G (e.ev / 32) → P r → P (Rep.raise fuel r e)) := by
  intro fuel
  have hmark : ∀ (r : Rep) (e : Raise), e.ev < 1024 → G (e.ev / 32) → P r → P (r.mark e) := fun r e he hG h =>
    k.reg r _ (apart_wr (apart_wr (apart_refl _) _ _ (inReport_status _ hG (by omega))) _ _ inReport_raises) h
  have hstep : ∀ n, (∀ (r : Rep) (e : Raise), e.ev < 1024 → G (e.ev / 32) → P r → P (Rep.raise n r e)) →
      ∀ (r : Rep) (e : Raise), P (r.mark e) → P (Rep.raise (n + 1) r e) := by
    intro n ih r e h1
    have h2 : ∀ st en, P ((r.mark e).message st en e) := fun st en => Kept.ite (k.msix _ _ h1) h1
    have h3 : ∀ st en, P (((r.mark e).message st en e).ringEntry (fun y => Rep.raise n y ⟨385, 0xC000, 0, 0, 0, 0⟩) st e) :=
      fun st en => Kept.ite (k.post _ (fun y hy => ih y ⟨385, 0xC000, 0, 0, 0, 0⟩ (by decide) h12 hy) _ _ (by simp [kCompletion]) (h2 st en)) (h2 st en)
    unfold Rep.raise
    simp only
    generalize rdR r.regs (Rg.EVT_STATUS (e.ev / 32)) = st at h3
    generalize rdR r.regs (Rg.EVT_ENABLE (e.ev / 32)) = en at h3
    have h4 : P ((((r.mark e).message st en e).ringEntry (fun y => Rep.raise n y ⟨385, 0xC000, 0, 0, 0, 0⟩) st e).recordRaise e) :=
      Kept.ite (k.present _ _ (h3 st en)) (h3 st en)
    generalize (((r.mark e).message st en e).ringEntry (fun y => Rep.raise n y ⟨385, 0xC000, 0, 0, 0, 0⟩) st e).recordRaise e = x at h4
    have h5 : P (if turnedFull r.regs x.regs Rg.EVT_RAISES then Rep.raise n x ⟨415, 9, 0, 0, 0, 0⟩ else x) :=
      Kept.ite (ih _ ⟨415, 9, 0, 0, 0, 0⟩ (by decide) h12 h4) h4
    exact Kept.ite (ih _ ⟨415, 6, 0, 0, 0, 0⟩ (by decide) h12 h5) h5
  have hall : ∀ n, ∀ (r : Rep) (e : Raise), e.ev < 1024 → G (e.ev / 32) → P r → P (Rep.raise n r e) := by
    intro n
    induction n with
    | zero => intro r e _ _ h; exact h
    | succ n ih => intro r e he hG h; exact hstep n ih r e (hmark r e he hG h)
  exact ⟨hstep fuel (hall fuel), hall fuel⟩

theorem Kept.afterMark {G : Nat → Prop} {P : Rep → Prop} (k : Kept G P) (h12 : G 12) (fuel : Nat) (r : Rep) (e : Raise)
    (h : P (r.mark e)) : P (Rep.raise (fuel + 1) r e) := (k.both h12 fuel).1 r e h

theorem Kept.raise {G : Nat → Prop} {P : Rep → Prop} (k : Kept G P) (h12 : G 12) (fuel : Nat) (r : Rep) (e : Raise) (he : e.ev < 1024)
    (hG : G (e.ev / 32)) (h : P r) : P (Rep.raise fuel r e) := (k.both h12 fuel).2 r e he hG h

theorem Kept.fireIn {G : Nat → Prop} {P : Rep → Prop} (k : Kept G P) (h12 : G 12) (r : Rep) (ev src : Nat) (ps : List Nat) (he : ev < 1024)
    (hG : G (ev / 32)) (h : P r) : P (r.fire ev src ps) := k.raise h12 raiseFuel r _ he hG h

/-- Every group. -/
abbrev anyGroup : Nat → Prop := fun _ => True

theorem inReport_any (a : Nat) : inReport anyGroup a ↔ reportReg a := by simp [inReport, reportReg]

theorem Kept.fire {P : Rep → Prop} (k : Kept anyGroup P) (r : Rep) (ev src : Nat) (ps : List Nat) (he : ev < 1024) (h : P r) :
    P (r.fire ev src ps) := k.fireIn trivial r ev src ps he trivial h

/-- A register that no report changes reads after a raise as before. -/
theorem Rep.fire_reg (r : Rep) (ev src : Nat) (ps : List Nat) (he : ev < 1024) (a : Nat) (ha : ¬ reportReg a) :
    rdR (r.fire ev src ps).regs a = rdR r.regs a := by
  have k : Kept anyGroup (fun x => rdR x.regs a = rdR r.regs a) :=
    ⟨fun _ _ hm h => (hm a (by rwa [inReport_any])).trans h, fun _ _ h => h, fun _ _ _ _ h => h, fun _ _ h => h⟩
  exact k.fire r ev src ps he rfl

/-- What the host interface keeps through a raise: all but the ring, its backlog and its losses. -/
theorem Rep.fire_host (r : Rep) (ev src : Nat) (ps : List Nat) (he : ev < 1024) :
    ∃ g b k, (r.fire ev src ps).host = { r.host with ring := g, backlog := b, lostBy := k } := by
  have k : Kept anyGroup (fun x => ∃ g b k, x.host = { r.host with ring := g, backlog := b, lostBy := k }) := by
    refine ⟨fun _ _ _ h => h, fun _ _ h => h, ?_, fun _ _ h => h⟩
    rintro x g b k ⟨g', b', k', h⟩
    exact ⟨g, b, k, by simp [h]⟩
  exact k.fire r ev src ps he ⟨_, _, _, rfl⟩

theorem Rep.fire_now (r : Rep) (ev src : Nat) (ps : List Nat) (he : ev < 1024) :
    (r.fire ev src ps).now = r.now ∧ (r.fire ev src ps).rt = r.rt := by
  have k : Kept anyGroup (fun x => x.now = r.now ∧ x.rt = r.rt) := ⟨fun _ _ _ h => h, fun _ _ h => h, fun _ _ _ _ h => h, fun _ _ h => h⟩
  exact k.fire r ev src ps he ⟨rfl, rfl⟩

/-- A posted notification that is no completion changes report registers only (R68). -/
theorem Kept.notify {P : Rep → Prop} (k : Kept anyGroup P) (r : Rep) (n : Notif) (hn : n.kind ≠ kCompletion) (h : P r) : P (r.notify n) := by
  refine k.post _ (fun x hx => ?_) r n hn h
  exact Kept.ite (k.fire _ 415 _ _ (by decide) (k.fire x 385 _ _ (by decide) hx)) (k.fire x 385 _ _ (by decide) hx)

theorem Rep.notify_reg (r : Rep) (n : Notif) (hn : n.kind ≠ kCompletion) (a : Nat) (ha : ¬ reportReg a) :
    rdR (r.notify n).regs a = rdR r.regs a := by
  have k : Kept anyGroup (fun x => rdR x.regs a = rdR r.regs a) :=
    ⟨fun _ _ hm h => (hm a (by rwa [inReport_any])).trans h, fun _ _ h => h, fun _ _ _ _ h => h, fun _ _ h => h⟩
  exact k.notify r n hn rfl

theorem Kept.record {P : Rep → Prop} (k : Kept anyGroup P) (r : Rep) (code src : Nat) (ps : List Nat) (h : P r) : P (r.record code src ps) := by
  have h1 := k.present r (mkRec code src (BitVec.ofNat 32 (nth 0 ps 0)) (BitVec.ofNat 32 (nth 0 ps 1)) (BitVec.ofNat 32 (nth 0 ps 2))
    (BitVec.ofNat 32 (nth 0 ps 3))) h
  exact Kept.ite (k.fire _ 415 _ _ (by decide) h1) h1

/-- Count at a stick counter that no report changes (R385). -/
theorem Rep.bump_reg (r : Rep) (a n b : Nat) (hg : groupOf a < 32) (hb : ¬ reportReg b) :
    rdR (r.bump a n).regs b = if b = a then BitVec.ofNat 32 (min 0xFFFFFFFF ((rdR r.regs a).toNat + n)) else rdR r.regs b := by
  have h0 : rdR (stickR r.regs a n) b = if b = a then BitVec.ofNat 32 (min 0xFFFFFFFF ((rdR r.regs a).toNat + n)) else rdR r.regs b := by
    simp only [stickR, rdR_wrR]
  unfold Rep.bump
  simp only
  split
  · rw [Rep.fire_reg _ _ _ _ (by omega) _ hb]; exact h0
  · exact h0

theorem Kept.bump {P : Rep → Prop} (k : Kept anyGroup P) (a n : Nat) (hs : ∀ r, P r → P { r with regs := stickR r.regs a n })
    (hg : groupOf a < 32) (r : Rep) (h : P r) : P (r.bump a n) := by
  unfold Rep.bump
  simp only
  exact Kept.ite (k.fire _ _ _ _ (by omega) (hs r h)) (hs r h)

/-- A raise sets its own bit and leaves the other status words, but for those of group 12, where the reports that it brings stand
(R383, R68, R385). -/
theorem Rep.fire_status (r : Rep) (ev src : Nat) (ps : List Nat) (he : ev < 1024) (g : Nat) (hg : g < 32) (h12 : g ≠ 12) :
    rdR (r.fire ev src ps).regs (Rg.EVT_STATUS g) =
      if g = ev / 32 then rdR r.regs (Rg.EVT_STATUS g) ||| bitW (ev % 32) else rdR r.regs (Rg.EVT_STATUS g) := by
  have hne : ∀ h, h < 32 → h ≠ g → Rg.EVT_STATUS g ≠ Rg.EVT_STATUS h := by intro h _ hh; simp only [Rg.EVT_STATUS]; omega
  have hout : ∀ G : Nat → Prop, ¬ G g → ¬ inReport G (Rg.EVT_STATUS g) := by
    rintro G hG (⟨h, hG', h32, hh⟩ | hh)
    · have : h = g := by simp only [Rg.EVT_STATUS] at hh; omega
      exact hG (this ▸ hG')
    · simp only [Rg.EVT_STATUS, Rg.EVT_RAISES, Rg.WTR_STATUS, Rg.WTR_SUPPRESSED, Rg.PCE_NRING_PRODUCER, Rg.PCE_NRING_LOST] at hh; omega
  by_cases hq : g = ev / 32
  · subst hq
    simp only [if_true]
    generalize hv : rdR r.regs (Rg.EVT_STATUS (ev / 32)) ||| bitW (ev % 32) = v
    have k : Kept (fun h => h = 12) (fun x => rdR x.regs (Rg.EVT_STATUS (ev / 32)) = v) :=
      ⟨fun _ _ hm h => (hm _ (hout _ h12)).trans h, fun _ _ h => h, fun _ _ _ _ h => h, fun _ _ h => h⟩
    have hmark : ∀ e : Raise, e.ev = ev → rdR (r.mark e).regs (Rg.EVT_STATUS (ev / 32)) = v := by
      intro e he; subst he
      unfold Rep.mark
      simp only
      rw [rdR_stickR_other _ _ _ _ (by simp only [Rg.EVT_STATUS, Rg.EVT_RAISES]; omega), rdR_wrR_same, hv]
    exact k.afterMark rfl _ r _ (hmark _ rfl)
  · simp only [hq, if_false]
    have k : Kept (fun h => h = 12 ∨ h = ev / 32) (fun x => rdR x.regs (Rg.EVT_STATUS g) = rdR r.regs (Rg.EVT_STATUS g)) :=
      ⟨fun _ _ hm h => (hm _ (hout _ (by omega))).trans h, fun _ _ h => h, fun _ _ _ _ h => h, fun _ _ h => h⟩
    exact k.fireIn (.inl rfl) r ev src ps he (.inr rfl) rfl

/-- The status words outside group 12 stand through a record (R393). -/
theorem Rep.record_status (r : Rep) (code src : Nat) (ps : List Nat) (g : Nat) (hg : g < 32) (h12 : g ≠ 12) :
    rdR (r.record code src ps).regs (Rg.EVT_STATUS g) = rdR r.regs (Rg.EVT_STATUS g) := by
  have hout : ¬ inReport (fun h => h = 12) (Rg.EVT_STATUS g) := by
    rintro (⟨h, rfl, h32, hh⟩ | hh)
    · simp only [Rg.EVT_STATUS] at hh; omega
    · simp only [Rg.EVT_STATUS, Rg.EVT_RAISES, Rg.WTR_STATUS, Rg.WTR_SUPPRESSED, Rg.PCE_NRING_PRODUCER, Rg.PCE_NRING_LOST] at hh; omega
  have k : Kept (fun h => h = 12) (fun x => rdR x.regs (Rg.EVT_STATUS g) = rdR r.regs (Rg.EVT_STATUS g)) :=
    ⟨fun _ _ hm h => (hm _ hout).trans h, fun _ _ h => h, fun _ _ _ _ h => h, fun _ _ h => h⟩
  unfold Rep.record
  simp only
  have h1 := k.present r (mkRec code src (BitVec.ofNat 32 (nth 0 ps 0)) (BitVec.ofNat 32 (nth 0 ps 1)) (BitVec.ofNat 32 (nth 0 ps 2))
    (BitVec.ofNat 32 (nth 0 ps 3))) rfl
  split
  · exact k.fireIn rfl _ _ _ _ (by decide) rfl h1
  · exact h1

/-- The events that are set stand through a count, but for the counter-saturated ones (R385). -/
theorem Rep.bump_status (r : Rep) (a n : Nat) (ha : groupOf a < 32) (g : Nat) (hg : g < 32) (h12 : g ≠ 12) (hn : a ≠ Rg.EVT_STATUS g) :
    rdR (r.bump a n).regs (Rg.EVT_STATUS g) &&& 0x7FFFFFFF#32 = rdR r.regs (Rg.EVT_STATUS g) &&& 0x7FFFFFFF#32 := by
  unfold Rep.bump
  simp only
  split
  · rw [Rep.fire_status _ _ _ _ (by omega) _ hg h12, rdR_stickR_other _ _ _ _ (Ne.symm hn)]
    split
    · have h31 : (32 * groupOf a + 31) % 32 = 31 := by omega
      have hb : bitW 31 &&& 0x7FFFFFFF#32 = 0#32 := by decide
      rw [h31, BitVec.and_or_distrib_right, hb, BitVec.or_zero]
    · rfl
  · rw [rdR_stickR_other _ _ _ _ (Ne.symm hn)]

/-- As `Rep.fire_status`, the counter-saturated events left aside. -/
theorem Rep.fire_events (r : Rep) (ev src : Nat) (ps : List Nat) (he : ev < 1024) (h31 : ev % 32 ≠ 31) (g : Nat) (hg : g < 32) (h12 : g ≠ 12) :
    rdR (r.fire ev src ps).regs (Rg.EVT_STATUS g) &&& 0x7FFFFFFF#32 =
      if g = ev / 32 then (rdR r.regs (Rg.EVT_STATUS g) &&& 0x7FFFFFFF#32) ||| bitW (ev % 32)
      else rdR r.regs (Rg.EVT_STATUS g) &&& 0x7FFFFFFF#32 := by
  rw [Rep.fire_status r ev src ps he g hg h12]
  split
  · have hb : ∀ n : Fin 31, bitW n.val &&& 0x7FFFFFFF#32 = bitW n.val := by decide
    rw [BitVec.and_or_distrib_right, hb ⟨ev % 32, by omega⟩]
  · rfl

end Sys2Proof.Machine
end

