-- ==== Sys2Proof/Laws/Memory.lean ====
section
/-! SUPPORT. Laws of the memories: a byte read after a write, and every memory operation keeps the canonical form. -/
namespace Sys2Proof.Machine

theorem Memory.byte_put (m : List Host.Cell) (a j : Nat) (b : Byte) :
    Memory.byte (Memory.put m a b) j = if j = a then b else Memory.byte m j := Map.get_set 0 b m a j

theorem Memory.byte_putAll_other (bs : List Byte) (m : List Host.Cell) (a j : Nat) (h : j < a ∨ a + bs.length ≤ j) :
    Memory.byte (Memory.putAll m a bs) j = Memory.byte m j := by
  induction bs generalizing m a with
  | nil => rfl
  | cons b bs ih =>
    simp only [List.length_cons] at h
    rw [Memory.putAll, ih _ _ (by omega), Memory.byte_put, if_neg (by omega)]

theorem Memory.byte_putAll (bs : List Byte) (m : List Host.Cell) (a i : Nat) (h : i < bs.length) :
    Memory.byte (Memory.putAll m a bs) (a + i) = bs[i] := by
  induction bs generalizing m a i with
  | nil => simp at h
  | cons b bs ih =>
    rw [Memory.putAll]
    cases i with
    | zero => rw [Memory.byte_putAll_other _ _ _ _ (by omega), Memory.byte_put]; simp
    | succ i =>
      have := ih (Memory.put m a b) (a + 1) i (by simpa using h)
      rw [show a + (i + 1) = a + 1 + i by omega, this]; simp

/-- What was written is read. -/
theorem Memory.bytes_putAll (bs : List Byte) (m : List Host.Cell) (a : Nat) : Memory.bytes (Memory.putAll m a bs) a bs.length = bs := by
  apply List.ext_getElem
  · simp [Memory.bytes]
  · intro i h1 h2
    simp only [Memory.bytes, List.getElem_map, List.getElem_range]
    exact Memory.byte_putAll bs m a i h2

theorem Memory.wf_put (m : List Host.Cell) (a : Nat) (b : Byte) (h : Memory.wf m = true) : Memory.wf (Memory.put m a b) = true :=
  Map.wf_set 0 b m a h

theorem Memory.wf_putAll (bs : List Byte) (m : List Host.Cell) (a : Nat) (h : Memory.wf m = true) :
    Memory.wf (Memory.putAll m a bs) = true := by
  induction bs generalizing m a with
  | nil => exact h
  | cons b bs ih => exact ih _ _ (Memory.wf_put m a b h)

/-- A fold keeps what each of its steps keeps. -/
theorem foldl_keeps {α β : Type} (P : α → Prop) (f : α → β → α) (l : List β) (x : α) (h : P x) (hf : ∀ y b, P y → P (f y b)) :
    P (l.foldl f x) := by
  induction l generalizing x with
  | nil => exact h
  | cons b l ih => exact ih _ (hf x b h)

theorem Mm.storeWord_wf (m : Mm) (w n : Nat) (bs : List (Nat × PByte)) (k : Bool) (h : Memory.wf m.mem = true) :
    Memory.wf (m.storeWord w n bs k).mem = true :=
  foldl_keeps (fun x => Memory.wf x = true) _ _ _ (foldl_keeps (fun x => Memory.wf x = true) _ bs m.mem h (fun y e hy => Memory.wf_put y e.1 e.2.v hy))
    (fun y e hy => Memory.wf_put y e.1 _ hy)

@[simp] theorem Mm.meet_mem (m : Mm) (w : Nat) (u : Upset) : (m.meet w u).mem = m.mem := by
  unfold Mm.meet; split <;> rfl

@[simp] theorem Mm.visit_mem (m : Mm) (w : Nat) (u : Upset) : (m.visit w u).mem = m.mem := by
  unfold Mm.visit; simp only; split <;> simp

@[simp] theorem Mm.rmwNote_mem (m : Mm) (agent w : Nat) : (m.rmwNote agent w).mem = m.mem := by
  unfold Mm.rmwNote; split <;> rfl

theorem Mm.flushBuf_wf (m : Mm) (b : Merge) (h : Memory.wf m.mem = true) : Memory.wf (m.flushBuf b).mem = true := by
  unfold Mm.flushBuf
  simp only
  split
  · exact Mm.storeWord_wf _ _ _ _ _ h
  · exact Mm.storeWord_wf _ _ _ _ _ (by simpa using h)

theorem Mm.flush_wf (m : Mm) (p : Merge → Bool) (h : Memory.wf m.mem = true) : Memory.wf (m.flush p).mem = true :=
  foldl_keeps (fun x => Memory.wf x.mem = true) Mm.flushBuf _ m h (fun y b hy => Mm.flushBuf_wf y b hy)

theorem Mm.writeWord_wf (m : Mm) (agent w : Nat) (bs : List (Nat × PByte)) (h : Memory.wf m.mem = true) :
    Memory.wf (m.writeWord agent w bs).mem = true := by
  unfold Mm.writeWord
  split
  · exact h
  · simp only
    split
    · exact Mm.storeWord_wf _ _ _ _ _ (Mm.flush_wf m _ h)
    · exact Mm.flush_wf m _ h

/-- A write keeps the canonical form of the memory. -/
theorem Mm.write_wf (m : Mm) (agent a : Nat) (bs : List PByte) (h : Memory.wf m.mem = true) :
    Memory.wf (m.write agent a bs).mem = true := by
  unfold Mm.write
  simp only
  split <;>
  · refine foldl_keeps (fun x => Memory.wf x.mem = true) _ _ m h ?_
    intro y p hy
    split
    · exact hy
    · exact Mm.writeWord_wf _ _ _ _ hy

theorem Mm.readWord_wf (m : Mm) (agent w : Nat) (as : List Nat) (u : Upset) (h : Memory.wf m.mem = true) :
    Memory.wf (m.readWord agent w as u).1.mem = true := by
  unfold Mm.readWord
  split
  · exact h
  · simpa using Mm.flush_wf m _ h

/-- A read keeps the canonical form of the memory. -/
theorem Mm.read_wf (m : Mm) (agent a n : Nat) (u : Upset) (h : Memory.wf m.mem = true) :
    Memory.wf (m.read agent a n u).1.mem = true := by
  unfold Mm.read
  simp only
  split <;>
  · refine foldl_keeps (fun (x : Mm × List PByte × Upset) => Memory.wf x.1.mem = true) _ _ (m, [], u) h ?_
    intro y p hy
    split
    · exact hy
    · exact Mm.readWord_wf _ _ _ _ _ hy

/-- Losing the contents of a range keeps the canonical form of the memory. -/
theorem State.memClear_wf (s : State) (lo hi : Nat) (h : Memory.wf s.mem = true) : Memory.wf (s.memClear lo hi).mem = true :=
  Map.wf_clear 0 lo hi s.mem h

theorem State.memWrite_wf (s : State) (agent a : Nat) (bs : List PByte) (h : Memory.wf s.mem = true) :
    Memory.wf (s.memWrite agent a bs).mem = true := Mm.write_wf s.mm agent a bs h

theorem State.memRead_wf (s : State) (agent a n : Nat) (h : Memory.wf s.mem = true) : Memory.wf (s.memRead agent a n).mem = true :=
  Mm.read_wf s.mm agent a n .none h

theorem State.memSync_wf (s : State) (agent : Nat) (h : Memory.wf s.mem = true) : Memory.wf (s.memSync agent).mem = true :=
  Mm.flush_wf s.mm _ h

theorem State.reset_wf : Memory.wf State.reset.mem = true := rfl

end Sys2Proof.Machine
end

