-- ==== Sys2Proof/Laws/Drum.lean ====
section
/-! SUPPORT. What the shared operations of Drum and of a cluster's failure can do (R39, R40, R44, R47, R180): registers and frames. -/
namespace Sys2Proof.Machine

theorem State.pass_reg (s : State) (n a : Nat) (h1 : a ≠ Rg.BLF_KEEPER_LO) (h2 : a ≠ Rg.BLF_KEEPER_LO + 4)
    (h3 : a ≠ Rg.WTR_OP_SECONDS) : rdR (s.pass n).regs a = rdR s.regs a := by
  simp only [State.pass, wr64R]
  rw [rdR_wrR_other _ _ _ _ h3, rdR_wrR_other _ _ _ _ h2, rdR_wrR_other _ _ _ _ h1]

theorem State.pass_getF (s : State) (n a : Nat) (f : Fld) (h1 : a ≠ Rg.BLF_KEEPER_LO) (h2 : a ≠ Rg.BLF_KEEPER_LO + 4)
    (h3 : a ≠ Rg.WTR_OP_SECONDS) : (s.pass n).getF a f = s.getF a f := by
  simp only [State.getF_eq, getR, State.pass_reg s n a h1 h2 h3]

@[simp] theorem State.pass_scs (s : State) (n : Nat) : (s.pass n).scs = s.scs := State.pass_getF s n _ _ (by decide) (by decide) (by decide)
@[simp] theorem State.pass_offset (s : State) (n : Nat) : (s.pass n).offset = s.offset := rfl
@[simp] theorem State.passTo_scs (s : State) (t : Nat) : (s.passTo t).scs = s.scs := State.pass_scs s _
@[simp] theorem State.passTo_offset (s : State) (t : Nat) : (s.passTo t).offset = s.offset := rfl
@[simp] theorem State.passTo_drum (s : State) (t : Nat) : (s.passTo t).drum = s.drum := rfl
@[simp] theorem State.passTo_boot (s : State) (t : Nat) : (s.passTo t).boot = s.boot := rfl
@[simp] theorem State.passTo_mem (s : State) (t : Nat) : (s.passTo t).mem = s.mem := rfl

theorem State.passTo_reg (s : State) (t a : Nat) (h1 : a ≠ Rg.BLF_KEEPER_LO) (h2 : a ≠ Rg.BLF_KEEPER_LO + 4)
    (h3 : a ≠ Rg.WTR_OP_SECONDS) : rdR (s.passTo t).regs a = rdR s.regs a := State.pass_reg s _ a h1 h2 h3

/-- Issue of a tick, in the books of Drum (R47): the tick carries the studio time of its issue (R175). -/
theorem State.issue_drum (s : State) (k : Tick) : (s.issue k).drum = { s.drum with
    cur := if s.drum.cur.isSome then s.drum.cur else some { k with studio := s.phase 1 }
    queue := if s.drum.cur.isSome then s.drum.queue ++ [{ k with studio := s.phase 1 }] else s.drum.queue
    last := some { k with studio := s.phase 1 } } := by
  unfold State.issue
  simp only [State.withRep_drum]

/-- Issue of a tick, in what it leaves (R47). -/
theorem State.issue_frame (s : State) (k : Tick) : s.issue k =
    { s with
      regs := (s.issue k).regs, out := (s.issue k).out, host := (s.issue k).host, wtr := (s.issue k).wtr, drum := (s.issue k).drum } := rfl

/-- Issue of a tick, in the registers that no report changes: DRM_STATUS, and the count of queued ticks. -/
theorem State.issue_reg (s : State) (k : Tick) (a : Nat) (ha : ¬ reportReg a) (h1 : a ≠ Rg.DRM_STATUS) (h2 : a ≠ Rg.DRM_TICKQ_QUEUED) :
    rdR (s.issue k).regs a = rdR s.regs a := by
  unfold State.issue depthRegs
  simp only [rdR_putR, h1, if_false, State.withRep_regs]
  split
  · rw [Rep.bump_reg _ _ _ _ (by decide) ha]; simp only [h2, if_false]; rfl
  · rfl

theorem State.issue_queued (s : State) (k : Tick) (h : s.drum.cur.isSome = true) :
    rdR (s.issue k).regs Rg.DRM_TICKQ_QUEUED = BitVec.ofNat 32 (min 0xFFFFFFFF ((rdR s.regs Rg.DRM_TICKQ_QUEUED).toNat + 1)) := by
  unfold State.issue depthRegs
  simp only [rdR_putR, h, if_true, State.withRep_regs]
  rw [if_neg (by decide), if_neg (by decide), Rep.bump_reg _ _ _ _ (by decide) (not_report (by decide))]
  simp only [if_true]; rfl

theorem State.issue_depth (s : State) (k : Tick) (h : s.drum.queue.length < 2) :
    (s.issue k).getF Rg.DRM_STATUS Fd.DRM_STATUS_tickq_depth =
      (if s.drum.cur.isSome then s.drum.queue.length + 1 else s.drum.queue.length) := by
  unfold State.issue depthRegs
  simp only [State.getF_eq]
  rw [getR_putR_field _ _ _ _ _ (by decide) (by decide), getR_putR_same _ _ _ _ (by decide)]
  split <;> simp only [List.length_append, List.length_singleton] <;> rw [Nat.mod_eq_of_lt] <;> simp <;> omega

/-- An expiry in the books of Drum (R39). -/
theorem State.late_drum (s : State) (i : Item) (charge : Bool) : (s.late i charge).drum = s.drum.lateUnit i := by
  unfold State.late; split <;> rfl

theorem State.late_frame (s : State) (i : Item) (charge : Bool) : s.late i charge =
    { s with
      regs := (s.late i charge).regs, out := (s.late i charge).out, host := (s.late i charge).host, wtr := (s.late i charge).wtr
      drum := (s.late i charge).drum, ppt := (s.late i charge).ppt, eth := (s.late i charge).eth, evt := (s.late i charge).evt } := by
  unfold State.late; split <;> rfl

theorem State.expire_drum (s : State) (i : Item) : (s.expire i).drum =
    (s.late i (i.charged && !(i.gate.isSome && !i.begun && s.drum.inputLate i))).drum := by
  unfold State.expire State.lateItem
  simp only
  split
  · split <;> rfl
  · rfl
  · rfl

theorem State.expire_frame (s : State) (i : Item) : s.expire i =
    { s with
      regs := (s.expire i).regs, out := (s.expire i).out, host := (s.expire i).host, wtr := (s.expire i).wtr
      drum := (s.expire i).drum, ppt := (s.expire i).ppt, eth := (s.expire i).eth, evt := (s.expire i).evt } := by
  unfold State.expire State.lateItem
  simp only
  split
  · split <;> (rw [State.late_frame]; try rfl)
  · rw [State.late_frame]; try rfl
  · exact State.late_frame s i _

/-- Registers of Parapet's window (R23). -/
def inParapet (a : Nat) : Prop := winBase 1 ≤ a ∧ a < winBase 2

theorem Fw.bump_reg (f : Fw) (off n a : Nat) (ha : ¬ reportReg a) : rdR (f.bump off n).rep.regs a = rdR f.rep.regs a := by
  unfold Fw.bump Fw.add
  split
  · rfl
  · simp only
    split
    · exact Rep.fire_reg _ _ _ _ (by decide) _ ha
    · rfl

theorem Fw.bump_events (f : Fw) (off n g : Nat) (hg : g < 32) (h12 : g ≠ 12) :
    rdR (f.bump off n).rep.regs (Rg.EVT_STATUS g) = rdR f.rep.regs (Rg.EVT_STATUS g) := by
  unfold Fw.bump Fw.add
  split
  · rfl
  · simp only
    split
    · rw [Rep.fire_status _ _ _ _ (by decide) _ hg h12, if_neg (by omega)]
    · rfl

theorem putRole_reg (m : SMap Word) (c r a : Nat) (h1 : a ≠ Rg.PPT_CLUSTER c) (h2 : a ≠ Rg.PPT_STATUS) :
    rdR (putRole m c r) a = rdR m a := by
  unfold putRole
  simp only [rdR_putR, if_neg h2, if_neg h1]

theorem outside_parapet {a : Nat} (ha : ¬ inParapet a) (c : Nat) (hc : c < 1000) : a ≠ Rg.PPT_CLUSTER c ∧ a ≠ Rg.PPT_STATUS ∧ a ≠ Rg.PPT_GUARD_OVER := by
  unfold inParapet at ha
  simp only [winBase, regBase, Rg.PPT_CLUSTER, Rg.PPT_STATUS, Rg.PPT_GUARD_OVER] at *
  omega

theorem lowestSpare_lt (m : SMap Word) (k : Nat) (h : lowestSpare m = some k) : k < 18 := by
  have := List.mem_of_find?_eq_some h
  simpa using this

theorem Fx.charge_reg (x : Fx) (uj a : Nat) (ha : ¬ reportReg a) (h1 : a ≠ Rg.PPT_STATUS) (h2 : a ≠ Rg.PPT_GUARD_OVER) :
    rdR (x.charge uj).rep.regs a = rdR x.rep.regs a := by
  unfold Fx.charge
  simp only
  split
  · rw [Rep.fire_reg _ _ _ _ (by decide) _ ha, rdR_putR, if_neg h1, Rep.bump_reg _ _ _ _ (by decide) ha, if_neg h2]
  · rfl

/-- A failure cause touches no register outside Parapet but those of its reports (R180). -/
theorem Fx.fail_reg (x : Fx) (c cause : Nat) (cmd : Option Nat) (hc : c < 18) (a : Nat) (ha : ¬ reportReg a) (hp : ¬ inParapet a) :
    rdR (x.fail c cause cmd).rep.regs a = rdR x.rep.regs a := by
  have hw : rdR (wrR x.rep.regs (Rg.PPT_CLUSTER c) (rdR x.rep.regs (Rg.PPT_CLUSTER c) ||| bitW cause)) a = rdR x.rep.regs a :=
    rdR_wrR_other _ _ _ _ (outside_parapet hp c (by omega)).1
  unfold Fx.fail
  simp only
  split
  · split
    · rename_i k hk
      have hk18 := lowestSpare_lt _ _ hk
      have hne := outside_parapet hp k (by omega)
      rw [Fx.charge_reg _ _ _ ha hne.2.1 hne.2.2, Rep.fire_reg _ _ _ _ (by decide) _ ha, putRole_reg _ _ _ _ hne.1 hne.2.1]
      exact hw
    · rw [Rep.fire_reg _ _ _ _ (by decide) _ ha]; exact hw
  · exact hw

/-- A failure cause is set (R180). -/
theorem Fx.fail_cause (x : Fx) (c cause : Nat) (cmd : Option Nat) (hc : c < 18) (hcause : cause < 6) :
    (rdR (x.fail c cause cmd).rep.regs (Rg.PPT_CLUSTER c)).getLsbD cause = true := by
  have hb : (bitW cause).getLsbD cause = true := by
    have : ∀ n : Fin 6, (bitW n.val).getLsbD n.val = true := by decide
    exact this ⟨cause, hcause⟩
  have hw : (rdR (wrR x.rep.regs (Rg.PPT_CLUSTER c) (rdR x.rep.regs (Rg.PPT_CLUSTER c) ||| bitW cause)) (Rg.PPT_CLUSTER c)).getLsbD cause = true := by
    rw [rdR_wrR_same, BitVec.getLsbD_or, hb, Bool.or_true]
  have hr : ¬ reportReg (Rg.PPT_CLUSTER c) := by
    apply not_report
    have h1 : ¬ (0x20000F00000 ≤ Rg.PPT_CLUSTER c) := by simp only [Rg.PPT_CLUSTER]; omega
    simp only [reportTest, h1, decide_false, Bool.false_and, Bool.false_or, Rg.PPT_CLUSTER]
    simp only [Bool.or_eq_false_iff, beq_eq_false_iff_ne]; omega
  have hs : Rg.PPT_CLUSTER c ≠ Rg.PPT_STATUS := by simp only [Rg.PPT_CLUSTER, Rg.PPT_STATUS]; omega
  have hg : Rg.PPT_CLUSTER c ≠ Rg.PPT_GUARD_OVER := by simp only [Rg.PPT_CLUSTER, Rg.PPT_GUARD_OVER]; omega
  have hput : ∀ (m : SMap Word) k r, (rdR m (Rg.PPT_CLUSTER c)).getLsbD cause = true →
      (rdR (putRole m k r) (Rg.PPT_CLUSTER c)).getLsbD cause = true := by
    intro m k r h
    unfold putRole
    simp only [rdR_putR, if_neg hs]
    split
    · rename_i hk
      rw [← hk]
      simp only [BitVec.getLsbD] at h ⊢
      rw [Fld.set_testBit _ _ _ _ (by decide), if_pos (show cause < Fd.PPT_CLUSTER_role.lo by simp; omega)]
      exact h
    · exact h
  unfold Fx.fail
  simp only
  split
  · split
    · rw [Fx.charge_reg _ _ _ hr hs hg, Rep.fire_reg _ _ _ _ (by decide) _ hr]; exact hput _ _ _ hw
    · rw [Rep.fire_reg _ _ _ _ (by decide) _ hr]; exact hw
  · exact hw

theorem Fx.charge_events (x : Fx) (uj g : Nat) (hg : g < 32) (h12 : g ≠ 12) (h1 : g ≠ 1) :
    rdR (x.charge uj).rep.regs (Rg.EVT_STATUS g) &&& 0x7FFFFFFF#32 = rdR x.rep.regs (Rg.EVT_STATUS g) &&& 0x7FFFFFFF#32 := by
  have hn1 : Rg.EVT_STATUS g ≠ Rg.PPT_STATUS := by simp only [Rg.EVT_STATUS, Rg.PPT_STATUS]; omega
  have hn2 : Rg.PPT_GUARD_OVER ≠ Rg.EVT_STATUS g := by simp only [Rg.EVT_STATUS, Rg.PPT_GUARD_OVER]; omega
  unfold Fx.charge
  simp only
  split
  · rw [Rep.fire_events _ _ _ _ (by decide) (by decide) _ hg h12, if_neg (by omega), rdR_putR, if_neg hn1,
      Rep.bump_status _ _ _ (by decide) _ hg h12 hn2]
  · rfl

/-- A failure raises events of group 1 only (R180). -/
theorem Fx.fail_events (x : Fx) (c cause : Nat) (cmd : Option Nat) (hc : c < 18) (g : Nat) (hg : g < 32) (h12 : g ≠ 12) (h1 : g ≠ 1) :
    rdR (x.fail c cause cmd).rep.regs (Rg.EVT_STATUS g) &&& 0x7FFFFFFF#32 = rdR x.rep.regs (Rg.EVT_STATUS g) &&& 0x7FFFFFFF#32 := by
  have hp : ∀ k, k < 18 → Rg.EVT_STATUS g ≠ Rg.PPT_CLUSTER k := by intro k _; simp only [Rg.EVT_STATUS, Rg.PPT_CLUSTER]; omega
  have hs : Rg.EVT_STATUS g ≠ Rg.PPT_STATUS := by simp only [Rg.EVT_STATUS, Rg.PPT_STATUS]; omega
  unfold Fx.fail
  simp only
  split
  · split
    · rename_i k hk
      rw [Fx.charge_events _ _ _ hg h12 h1, Rep.fire_events _ _ _ _ (by decide) (by decide) _ hg h12, if_neg (by omega)]
      rw [putRole_reg _ _ _ _ (hp k (lowestSpare_lt _ _ hk)) hs, rdR_wrR_other _ _ _ _ (hp c hc)]
    · rw [Rep.fire_events _ _ _ _ (by decide) (by decide) _ hg h12, if_neg (by omega), rdR_wrR_other _ _ _ _ (hp c hc)]
  · rw [rdR_wrR_other _ _ _ _ (hp c hc)]

theorem State.late_regs (s : State) (i : Item) (charge : Bool) : (s.late i charge).regs =
    if charge then ((s.lateMark i charge).fx.fail i.cluster causeWatchdog none).rep.regs else (s.lateFw i charge).rep.regs := by
  cases charge <;> rfl

theorem State.lateFw_reg (s : State) (i : Item) (charge : Bool) (a : Nat) (ha : ¬ reportReg a) :
    rdR (s.lateFw i charge).rep.regs a =
      if a = Rg.DRM_LAST_LATE_ITEM then BitVec.ofNat 32 i.id
      else if a = lateReg charge then BitVec.ofNat 32 (min 0xFFFFFFFF ((s.rd (lateReg charge)).toNat + 1)) else s.rd a := by
  have hc : groupOf (lateReg charge) < 32 := by cases charge <;> decide
  have hl : ¬ reportReg (lateReg charge) := by cases charge <;> exact not_report (by decide)
  have h0 : rdR (wrR ((s.rep.fire 0 1 [i.id, i.cluster]).bump (lateReg charge) 1).regs Rg.DRM_LAST_LATE_ITEM (BitVec.ofNat 32 i.id)) a =
      if a = Rg.DRM_LAST_LATE_ITEM then BitVec.ofNat 32 i.id
      else if a = lateReg charge then BitVec.ofNat 32 (min 0xFFFFFFFF ((s.rd (lateReg charge)).toNat + 1)) else s.rd a := by
    rw [rdR_wrR, Rep.bump_reg _ _ _ _ hc ha, Rep.fire_reg _ _ _ _ (by decide) _ ha, Rep.fire_reg _ _ _ _ (by decide) _ hl]
    rfl
  unfold State.lateFw
  simp only
  split
  · rw [Fw.bump_reg _ _ _ _ ha]; exact h0
  · exact h0

/-- The registers of an expiry: the last late item, the counter, and what a failure of the cluster touches (R39, R40). -/
theorem State.late_reg (s : State) (i : Item) (charge : Bool) (hc : charge = true → i.cluster < 18) (a : Nat) (ha : ¬ reportReg a)
    (hp : ¬ inParapet a) :
    rdR (s.late i charge).regs a =
      if a = Rg.DRM_LAST_LATE_ITEM then BitVec.ofNat 32 i.id
      else if a = lateReg charge then BitVec.ofNat 32 (min 0xFFFFFFFF ((s.rd (lateReg charge)).toNat + 1)) else s.rd a := by
  rw [State.late_regs]
  cases charge with
  | false => simp only [Bool.false_eq_true, if_false]; exact State.lateFw_reg s i false a ha
  | true => simp only [if_true]; rw [Fx.fail_reg _ _ _ _ (hc rfl) _ ha hp]; exact State.lateFw_reg s i true a ha

theorem State.late_event (s : State) (i : Item) (charge : Bool) (hc : charge = true → i.cluster < 18) :
    (rdR (s.late i charge).regs (Rg.EVT_STATUS 0)).getLsbD 0 = true := by
  have hmask : ∀ w w' : Word, w &&& 0x7FFFFFFF#32 = w' &&& 0x7FFFFFFF#32 → w.getLsbD 0 = w'.getLsbD 0 := by
    intro w w' h
    have := congrArg (fun x : Word => x.getLsbD 0) h
    simpa using this
  have h0 : (rdR (s.lateFw i charge).rep.regs (Rg.EVT_STATUS 0)).getLsbD 0 = true := by
    have hb : (rdR (wrR ((s.rep.fire 0 1 [i.id, i.cluster]).bump (lateReg charge) 1).regs Rg.DRM_LAST_LATE_ITEM (BitVec.ofNat 32 i.id))
        (Rg.EVT_STATUS 0)).getLsbD 0 = true := by
      rw [rdR_wrR_other _ _ _ _ (by decide),
        hmask _ _ (Rep.bump_status _ _ _ (by cases charge <;> decide) 0 (by decide) (by decide) (by cases charge <;> decide)),
        Rep.fire_status _ _ _ _ (by decide) _ (by decide) (by decide), if_pos rfl, BitVec.getLsbD_or]
      have : (bitW (0 % 32)).getLsbD 0 = true := by decide
      rw [this, Bool.or_true]
    unfold State.lateFw
    simp only
    split
    · rw [Fw.bump_events _ _ _ _ (by decide) (by decide)]; exact hb
    · exact hb
  rw [State.late_regs]
  cases charge with
  | false => exact h0
  | true => simp only [if_true]; rw [hmask _ _ (Fx.fail_events _ _ _ _ (hc rfl) 0 (by decide) (by decide) (by decide))]; exact h0

/-- Whether the expiry of an item is charged (R40). -/
def State.charges (s : State) (i : Item) : Bool := i.charged && !(i.gate.isSome && !i.begun && s.drum.inputLate i)

theorem State.expire_reg (s : State) (i : Item) (a : Nat) (ha : ¬ reportReg a) :
    rdR (s.expire i).regs a = rdR (s.late i (s.charges i)).regs a := by
  unfold State.expire State.lateItem
  simp only
  split
  · split <;> exact Fw.bump_reg _ _ _ _ ha
  · rfl
  · rfl

theorem State.expire_event (s : State) (i : Item) (g : Nat) (hg : g < 32) (h12 : g ≠ 12) :
    rdR (s.expire i).regs (Rg.EVT_STATUS g) = rdR (s.late i (s.charges i)).regs (Rg.EVT_STATUS g) := by
  unfold State.expire State.lateItem
  simp only
  split
  · split <;> exact Fw.bump_events _ _ _ _ hg h12
  · rfl
  · rfl

theorem State.charges_cluster (s : State) (i : Item) (h : s.charges i = true) : i.cluster < 18 := by
  simp only [State.charges, Item.charged, Bool.and_eq_true, decide_eq_true_eq] at h
  exact h.1.1

end Sys2Proof.Machine
end

