-- ==== Sys2Proof/Laws/Mailbox.lean ====
section
/-! SUPPORT. What taking a request and answering it can do (R55 to R63, R69): the request that is taken, and what an answer leaves in the
mailbox, in the books and in the registers. -/
namespace Sys2Proof.Machine

/-- A request for this device that passes the checks before its payload is given to its own command (R57). -/
theorem State.serve_asked (s : State) (n : Nat) (c : Cmd) (mine : Cmd → Bool) (f : State → Cmd → Ans) (post : Cmd → State → State)
    (hw : s.waiting n = some c) (hv : s.verdict n c = none) (hd : c.dev = 0) (hm : mine c = true) :
    s.serve n mine f post =
      if (f s c).status = stPending then post { c with payload := (f s c).keep } ((f s c).give n c (s.saved c))
      else (f s c).give n c (s.saved c) := by
  unfold State.serve
  simp [hw, hv, hd, hm]

theorem leBytes_length (k v : Nat) : (leBytes k v).length = k := by
  induction k generalizing v with
  | zero => rfl
  | succ k ih => simp [leBytes, ih]

theorem responseBytes_length (c : Cmd) (status detail : Nat) (payload : List Byte) :
    (responseBytes c status detail payload).length = 32 + payload.length := by
  simp only [responseBytes, List.length_append, leBytes_length]

/-- What the response to a request whose mailbox is still its own leaves (R61, R69). -/
theorem Rep.respond_here (r : Rep) (n : Nat) (c : Cmd) (status detail : Nat) (payload : List Byte) (hl : c.lost = false) (hr : c.relayed = none) :
    (r.respond n c status detail payload).regs = putMbx r.regs n mDone ∧
    (r.respond n c status detail payload).out = .msix (vectorOf r.host (32 + n)) :: r.out ∧
    (r.respond n c status detail payload).wtr = r.wtr ∧
    (r.respond n c status detail payload).host = { r.host with
      bar0 := Memory.putAll r.host.bar0 (rspArea n) (responseBytes c status detail payload)
      cmds := (r.respond n c status detail payload).host.cmds
      order := (r.respond n c status detail payload).host.order } := by
  simp [Rep.respond, hl, hr, vectorOf]

/-- The answer to a request whose mailbox is still its own (R61, R69). -/
theorem Ans.give_here (a : Ans) (n : Nat) (c : Cmd) (undo : List (Nat × Word)) (hl : c.lost = false) (hr : c.relayed = none) :
    (a.give n c undo).regs = putMbx a.s.regs n mDone ∧
    (a.give n c undo).out = .msix (vectorOf a.s.host (32 + n)) :: a.s.out ∧
    (a.give n c undo).wtr = a.s.wtr ∧
    (a.give n c undo).host = { a.s.host with
      bar0 := Memory.putAll a.s.host.bar0 (rspArea n) (responseBytes c a.status a.detail a.payload)
      cmds := (a.give n c undo).host.cmds
      order := (a.give n c undo).host.order } ∧
    a.give n c undo = { a.s with regs := (a.give n c undo).regs, out := (a.give n c undo).out, host := (a.give n c undo).host } := by
  unfold Ans.give
  simp only
  have h := Rep.respond_here ({ a.s with host := { a.s.host with cmds := replaceCmd a.s.host.cmds c { c with payload := a.keep, commit := .slot, undo := undo } } } : State).rep
    n { c with payload := a.keep, commit := .slot, undo := undo } a.status a.detail a.payload hl hr
  obtain ⟨h1, h2, h3, h4⟩ := h
  refine ⟨h1, h2, h3, ?_, ?_⟩
  · simp only [State.withRep_host]; rw [h4]; rfl
  · simp only [State.withRep, h3]; rfl

end Sys2Proof.Machine
end

