-- ==== Sys2Proof/Tests/Slice0.lean ====
section
/-! SUPPORT. The model's own tests: terms that well-formedness refuses, a few worked examples of the spec, and for every statement about
the block with hypotheses states and operands that meet them, clause by clause. -/
namespace Sys2Proof.Tests
-- One theorem after another: many evaluations at a time need a thread each.
set_option Elab.async false
open Sys2Proof Sys2Proof.Machine Sys2Proof.Claims

/-- The reset state with some registers written. -/
def st (l : List (Nat × Word)) : State := { State.reset with regs := l.foldl (fun m e => wrR m e.1 e.2) State.reset.regs }

/-- A register word with one field. -/
def fw (f : Fld) (n : Nat) : Word := f.set 0 n

/-- Bytes from numbers. -/
def by1 (l : List Nat) : List Byte := l.map (BitVec.ofNat 8)

/-- Drum runs and handles nothing; its last tick was the first. -/
def running : State :=
  let s := st [(Rg.DRM_STATUS, fw Fd.DRM_STATUS_running 1)]
  { s with drum := { s.drum with last := some ⟨0, true, true, 0, 0, 0, 0⟩ } }

/-- The header of a request with a CRC. -/
def header (code len crc : Nat) : List Byte :=
  leBytes 4 0x50535733 ++ leBytes 1 3 ++ leBytes 1 0 ++ leBytes 2 code ++ leBytes 2 7 ++ leBytes 2 0 ++ leBytes 4 len ++ leBytes 12 0 ++
    leBytes 2 crc ++ leBytes 2 0

/-- A request of a code with a payload, under tag 7. -/
def req (code : Nat) (p : List Byte) (n : Nat := 5) : Cmd :=
  { mbx := some n, lost := false, head := header code p.length (crc16 (header code p.length 0 ++ p)).toNat, tag := 7, dev := 0, code := code,
    payload := p, phase := .posted, commit := .other, status := 0, detail := 0 }

/-- A state whose mailbox holds one request; every mailbox has expert rights. -/
def ask (s : State) (c : Cmd) : State := { s with host := { s.host with cmds := [c], levels := 0xFFFFFFFFFFFFFFFF } }

/-- A request of a code and payload passes the checks before its payload, and `P` holds where mailbox 5 holds it. -/
def askedAt (s : State) (code : Nat) (p : List Byte) (P : State → Cmd → Bool) : Bool :=
  decide (p.length ≤ 4064) && decide (p.length % 4 = 0) && lengthFits code p.length p && isCode code && !s.failed &&
    !s.flag Rg.PCE_MBX_GLOBAL Fd.PCE_MBX_GLOBAL_takeover && P (ask s (req code p)) (req code p)

theorem header_crc (code len crc : Nat) (h : crc < 65536) : le (header code len crc) 28 2 = crc := by
  simp [header, le, leBytes, leNat]
  omega

theorem header_zero (code len crc : Nat) : splice (header code len crc) 28 [0, 0] = header code len 0 := by
  simp [header, splice, leBytes]

theorem header_start (code len crc : Nat) : le (header code len crc) 0 4 = 0x50535733 ∧ le (header code len crc) 4 1 = 3 := by
  simp [header, le, leBytes, leNat]

theorem header_len (code len crc : Nat) (h : len ≤ 4064) : le (header code len crc) 12 4 = len := by
  simp [header, le, leBytes, leNat]
  omega

/-- What `askedAt` finds meets the hypothesis of the statements about requests. -/
theorem asked_of_askedAt (s : State) (code : Nat) (p : List Byte) (P : State → Cmd → Bool) (h : askedAt s code p P = true) :
    Asked (ask s (req code p)) 5 (req code p) ∧ P (ask s (req code p)) (req code p) = true := by
  simp only [askedAt, Bool.and_eq_true, decide_eq_true_eq, Bool.not_eq_true'] at h
  obtain ⟨⟨⟨⟨⟨⟨h1, h2⟩, h3⟩, h4⟩, h5⟩, h6⟩, h7⟩ := h
  refine ⟨⟨?_, ?_, rfl, rfl, rfl⟩, h7⟩
  · have : (ask s (req code p)).flag Rg.PCE_MBX_GLOBAL Fd.PCE_MBX_GLOBAL_takeover = false := h6
    have hb : (ask s (req code p)).host.behind (req code p) = false := by simp [ask, HostIf.behind]
    have hr : (ask s (req code p)).host.request (5 : Fin 64).val = some (req code p) := rfl
    simp only [State.waiting, this, hr, Option.filter, hb]
    rfl
  · have hc : le (req code p).head 28 2 = requestCrc (req code p) := by
      simp only [req, requestCrc, header_zero]
      exact header_crc _ _ _ (BitVec.isLt _)
    have hl : le (req code p).head 12 4 = p.length := header_len _ _ _ h1
    have hm : le (req code p).head 0 4 = 0x50535733 := (header_start _ _ _).1
    have hv : le (req code p).head 4 1 = 3 := (header_start _ _ _).2
    have hf : (ask s (req code p)).failed = false := h5
    have ht : tagTaken (ask s (req code p)).host.cmds (req code p) = false := by simp [ask, tagTaken]
    have hx : (ask s (req code p)).host.levelOf (5 : Fin 64).val (req code p) = true := by simp only [ask, HostIf.levelOf, req]; decide
    unfold State.verdict
    simp only [hc, hl, hm, hv, hf, ht, hx]
    simp [req, h2, h3, h4, Nat.not_lt.mpr h1]

/-- An item that has started, of a kind of work. -/
def item (w : Work) : Item :=
  { id := 1, issue := 0, deadline := 5, cls := 2, stage := 1, flags := 0, kind := 1, energy := 0, cycles := 10, cluster := 3, gen := 0,
    unitRef := 8, outUnit := 9, edge := 0, phase := .started, work := w, carrier := 0, slot := 0, symbol := 0, grant := 0, gate := none,
    lateInput := false, level := 0, half := 0, outFree := 20, outcome := none }

/-- A grant whose bytes are all zero. -/
def grant (downlink : Bool) : Grant :=
  { id := 4, downlink := downlink, raw := leBytes 64 0, cls := 2, admitted := some 0, status := gLate, mutedSyms := 0, cluster := 3,
    iterations := 0, answered := false }

/-- Drum runs with these items, at its first tick. -/
def withItems (l : List Item) : State := { running with drum := { running.drum with items := l } }

theorem witness_TicksArriveAndAreHandled :
    (running.drum.last = some ⟨0, true, true, 0, 0, 0, 0⟩ ∧ running.ticking = true ∧ running.drum.cur = none) ∧
    (let k : Tick := ⟨9, false, false, 1, 0, 0, 0⟩
     let one := { running with drum := { running.drum with cur := some k, queue := [k] } }
     let two := { running with drum := { running.drum with cur := some k, queue := [k, k] } }
     one.ticking = true ∧ one.drum.queue.length < 2 ∧ two.ticking = true ∧ 2 ≤ two.drum.queue.length ∧ ¬ 1 ∈ two.boot.resetUnits ∧
       two.drum.cur = some k ∧ k.slot = false ∧ k.frame = false ∧ two.drum.queue.length ≤ 2) := by decide

theorem witness_ItemsRunAndMayBeLate :
    (let s := withItems [item .demapping]
     s.drum.item 1 = some (item .demapping) ∧ (item .demapping).inFlight = true ∧ refFrom s.nowRef (item .demapping).edge = true ∧
       s.flag Rg.DRM_STATUS Fd.DRM_STATUS_running = true ∧ (item .demapping).lateInput = false ∧ (item .demapping).gate = none) ∧
    (let i := { item .demapping with lateInput := true }
     (withItems [i]).drum.item 1 = some i ∧ i.inFlight = true ∧ refFrom (withItems [i]).nowRef i.edge = true) ∧
    (((st []).drum.unit 9).gen ≠ (1 : Fin 16).val ∧ ((st []).drum.unit 9).gen = (0 : Fin 16).val) ∧
    (let i := { item .demapping with phase := .released, gate := some 2 }
     let s := withItems [i]
     s.drum.item 1 = some i ∧ i.runs = true ∧ i.begun = false ∧ i.gate.isSome = true ∧ s.drum.gateOpen i = true) ∧
    (let i := { item .demapping with gen := 1 }
     let s := withItems [i]
     s.drum.item 1 = some i ∧ i.runs = true ∧ s.workDone i = true ∧ s.drum.staleItem i = true) ∧
    (∀ w, w = Work.demapping ∨ w = .control → let i := { item w with phase := .expired }
     let s := withItems [i]
     s.drum.item 1 = some i ∧ i.runs = true ∧ s.workDone i = true ∧ s.drum.staleItem i = false) ∧
    (let i := { item .demapping with edge := 1 }
     let j := { item .control with edge := 1 }
     let s := withItems [i]
     s.drum.item 1 = some i ∧ i.runs = true ∧ i.inFlight = true ∧ s.workDone i = true ∧ s.drum.staleItem i = false ∧ s.onTime i = true ∧
       i.work ≠ .decoding ∧ (withItems [j]).drum.item 1 = some j ∧ (withItems [j]).workDone j = true ∧ j.work.writes = false) ∧
    (let i := { item .decoding with edge := 1 }
     let s := withItems [i]
     s.drum.item 1 = some i ∧ i.runs = true ∧ i.inFlight = true ∧ s.workDone i = true ∧ s.drum.staleItem i = false ∧ s.onTime i = true ∧
       i.work = .decoding) ∧
    ((-127 : Int) ≤ -127 ∧ (127 : Int) ≤ 127 ∧ 0 < 9) := by
  refine ⟨by decide, by decide, by decide, by decide, by decide, ?_, by decide⟩
  intro w h
  rcases h with rfl | rfl <;> decide

theorem witness_TickTrainStartsStopsAndResumes :
    (Fd.DRM_CTRL_enable.get 1 = 1 ∧ Fd.DRM_CTRL_enable.get 0 = 0 ∧ (st []).drumLive = false ∧ running.drumLive = true) ∧
    (let s := st [(Rg.DRM_STATUS, fw Fd.DRM_STATUS_waiting 1), (Rg.DRM_CTRL, fw Fd.DRM_CTRL_start_mode 1)]
     s.startsNow = true ∧ s.nextFrame 0 = true) ∧
    (let l : Tick := ⟨0, true, true, 0, 0, 0, 0⟩
     let s := { running with drum := { running.drum with faultAt := some 0 } }
     s.drum.faultAt = some 0 ∧ s.drum.stepAt = none ∧ s.drum.last = some l ∧ ¬ 1 ∈ s.boot.resetUnits ∧ s.firstSlotAfter 0 983040 = true ∧ s.rt ≤ 983040) ∧
    (let s := { running with drum := { running.drum with stepAt := some 0 } }
     s.drum.stepAt = some 0 ∧ s.drum.cur = none ∧ s.drum.queue = [] ∧ ¬ 1 ∈ s.boot.resetUnits ∧ s.firstFrameAfter 0 9830400 = true ∧ s.rt ≤ 9830400) := by decide

theorem witness_GrantsAreAnsweredOnce :
    (let s := { st [] with ppt := { (st []).ppt with grants := [grant false] } }
     s.ppt.grant 4 = some (grant false) ∧ (grant false).status &&& gLate ≠ 0) ∧
    (let g := grant true
     let s := { running with ppt := { running.ppt with grants := [g] }, host := { running.host with lastTick := 100 } }
     let car := s.ppt.carPayload (le g.raw 8 2)
     s.ppt.grant 4 = some g ∧ g.admitted.isSome = true ∧ g.answered = false ∧ refFrom s.nowRef
       (refShift (BitVec.ofNat 32 (le g.raw 4 4)) ((s.plan (le g.raw 8 2) car).egress (lastSym g.raw)).edge) = true) := by decide

theorem witness_MailboxHostSide :
    (let s := st [(Rg.PCE_MBX_GLOBAL, fw Fd.PCE_MBX_GLOBAL_ready 1)]
     ready s.regs = true ∧ mbxState s.regs 5 = 0 ∧ Fd.PCE_MBX_DOORBELL_tag.get 0 = (requestOf s.host 5).tag ∧
       Fd.PCE_MBX_DOORBELL_tag.get 9 ≠ (requestOf s.host 5).tag) ∧
    (let s := st [(Rg.PCE_MBX_STATE 5, 3)]
     let t := st [(Rg.PCE_MBX_STATE 5, 2)]
     Fd.PCE_MBX_RELEASE_release.get 1 = 1 ∧ mbxState s.regs 5 = 3 ∧ mbxState t.regs 5 = 2 ∧ 0xFFE + (by1 [1, 2]).length ≤ 4096) ∧
    bar0Discards 0x1000 true = true ∧ bar0Reg 0x1000 = none ∧ bar0Discards 0x80000 true = true ∧ (bar0Reg 0x80000).isSome = true ∧
    bar0Discards 0x80001 false = false ∧ (bar0Reg 0x80001).isSome = true ∧ 0x80001 % 4 ≠ 0 ∧
    0x90000 ≤ 0x903FF ∧ 0x903FF + (by1 [7]).length ≤ 0x90400 ∧ Fd.PCE_MBX_GLOBAL_clear_discards.get 4 = 1 := by decide

theorem witness_NotificationsDrain : (st []).host.ring.sizeLog ≤ 16 := by decide

/-- Mailbox 5 holds the expert lease from an address on. -/
def leased (rw : Bool) (base : Nat) : State :=
  { st [] with host := { (st []).host with lease := some ⟨5, base, 1000, rw⟩ } }

theorem witness_ExpertWindowAndRelay :
    ((st []).host.lease = none ∧ 0x800000 + 4 ≤ 0x1000000) ∧
    ((leased false regBase).host.lease = some ⟨5, regBase, 1000, false⟩) ∧
    ((leased true regBase).denies (regBase + (0xFFFFFC - 0x800000)) = false ∧
      (leased true (winBase 17)).denies (winBase 17 + (0x800010 - 0x800000)) = true) ∧
    (let c := { req 0x0002 [] with phase := .busy, dev := 3 }
     (ask (st []) c).host.forwarded 5 = some c ∧ c.lost = false) := by decide +kernel
/-- A payload of CARRIER_ADD: an NR carrier of 273 PRBs at 30 kHz. -/
def carrierReq (id : Nat) : List Byte :=
  leBytes 2 id ++ by1 [0, 1] ++ leBytes 2 1000 ++ leBytes 2 273 ++ by1 [4, 4, 4, 4, 0, 0] ++ leBytes 2 7 ++ leBytes 8 0 ++ by1 [1, 1] ++
    leBytes 230 0

/-- The reset state with a carrier 3 and flows of class 0. -/
def withCarrier (flows : List Flow) : State :=
  { st [] with ppt := { (st []).ppt with
      carriers := Map.set none [] 3 (some ⟨carrierReq 3, 100, 101, 3, []⟩)
      flows := flows } }

/-- Drum runs. -/
def live (s : State) : State := { s with regs := putR s.regs Rg.DRM_STATUS Fd.DRM_STATUS_running 1 }

theorem witness_InvalidRequestsGetTheFirstFailure :
    let first := fun (c : Cmd) (v : Option (Nat × Nat)) => (ask (st []) c).waiting 5 == some c && (ask (st []) c).verdict 5 c == v
    let good := req 0x0002 (leBytes 8 1)
    let bad := fun (o b : Nat) => { good with head := splice good.head o (by1 [b]) }
    -- a header whose CRC fits again after a change
    let fix := fun (c : Cmd) => { c with head := splice c.head 28 (leBytes 2 (requestCrc c)) }
    (first good none && first (bad 0 1) (some (2, 0)) && first (bad 4 2) (some (3, 0x0303)) && first (bad 28 0) (some (4, 0)) &&
      first (fix (bad 12 7)) (some (5, 0)) && first { fix (bad 5 2) with dev := 2 } (some (6, 2)) &&
      first { fix (bad 6 9) with code := 9 } (some (7, 0)) && first { fix (bad 8 0) with tag := 0 } (some (8, 0))) = true ∧
      ({ good with lost := true } : Cmd).lost = true ∧ (ask (st []) { good with lost := true }).waiting 5 = some { good with lost := true } := by
  decide +kernel

theorem witness_QueriesRingLevelsAndVectors :
    askedAt (st []) 0x0001 [] (fun _ _ => true) = true ∧ askedAt (st []) 0x0002 [] (fun _ _ => true) = true ∧
    askedAt (st []) 0x0084 (leBytes 8 0) (fun _ _ => true) = true ∧
    askedAt (st []) 0x0003 (leBytes 8 4096 ++ by1 [8, 1] ++ leBytes 6 0) (fun _ c =>
      decide (le c.payload 0 8 % 4096 = 0 ∧ 8 ≤ le c.payload 8 1 ∧ le c.payload 8 1 ≤ 16 ∧ bit (le c.payload 9 1) 0 = true)) = true ∧
    askedAt (st []) 0x0003 (leBytes 8 0 ++ by1 [16, 0] ++ leBytes 6 0) (fun _ c =>
      decide (le c.payload 0 8 % 4096 = 0 ∧ 8 ≤ le c.payload 8 1 ∧ le c.payload 8 1 ≤ 16 ∧ bit (le c.payload 9 1) 0 = false)) = true ∧
    askedAt (st []) 0x0005 (leBytes 8 3) (fun _ _ => true) = true ∧
    ((ask (st []) (req 0x0005 (leBytes 8 3) 0)).waiting 0 = some (req 0x0005 (leBytes 8 3) 0) ∧
      (ask (st []) (req 0x0005 (leBytes 8 3) 0)).verdict 0 (req 0x0005 (leBytes 8 3) 0) = none) ∧
    askedAt (st []) 0x0004 (leBytes 4 1 ++ by1 [96, 0, 63, 0]) (fun _ c =>
      decide (∀ e ∈ msixEntries c.payload, e.1 ≤ 96 ∧ e.2 ≤ 63)) = true := by decide +kernel

theorem witness_ExpertLeaseAndWords :
    (let p := leBytes 8 0x800000 ++ leBytes 4 60000 ++ by1 [1, 0, 0, 0]
     let ok := fun (mine : Bool) (s : State) (c : Cmd) => decide (le c.payload 0 8 % 0x800000 = 0 ∧ 1 ≤ le c.payload 8 4 ∧
       le c.payload 8 4 ≤ 60000 ∧ le c.payload 12 1 ≤ 1 ∧ (s.host.lease.all (fun l => l.mbx == 5)) = mine)
     askedAt (st []) 0x0080 p (ok true) = true ∧ askedAt (leased true 0) 0x0080 p (ok true) = true ∧
     askedAt { leased true 0 with host := { (leased true 0).host with lease := some ⟨6, 0, 9, true⟩ } } 0x0080 p (ok false) = true) ∧
    askedAt (leased true 0) 0x0081 [] (fun s _ => s.host.lease == some ⟨5, 0, 1000, true⟩) = true ∧
    askedAt (st []) 0x0081 [] (fun s _ => s.host.lease == none) = true ∧
    (let r := fun (a : Nat) => leBytes 8 a ++ leBytes 4 1 ++ leBytes 4 0
     let w := fun (a : Nat) => r a ++ leBytes 4 5
     let ok := fun (s : State) (c : Cmd) (deny : Bool) =>
       decide (le c.payload 0 8 % 4 = 0 ∧ le c.payload 8 4 = 1 ∧ s.denies (le c.payload 0 8) = deny)
     askedAt (st []) 0x0082 (r 0x1000) (fun s c => ok s c false) = true ∧
     askedAt (st []) 0x0083 (w 0x1000) (fun s c => ok s c false) = true ∧
     askedAt (st []) 0x0083 (w (winBase 17 + 16)) (fun s c => ok s c true) = true ∧
     askedAt (st []) 0x0180 (r (winBase 0)) (fun _ c => fnExpert c.code 0x80 && fnCovers (c.code / 256) (le c.payload 0 8) 1) = true ∧
     askedAt (st []) 0x0181 (w (winBase 0 + 0x50)) (fun s c => fnExpert c.code 0x81 && fnCovers (c.code / 256) (le c.payload 0 8) 1 &&
       ok s c false) = true ∧
     askedAt (st []) 0x0180 (r (winBase 1)) (fun _ c => fnExpert c.code 0x80 && !fnCovers (c.code / 256) (le c.payload 0 8) 1) = true ∧
     askedAt (st []) 0x0181 (w (winBase 1)) (fun _ c => fnExpert c.code 0x81 && !fnCovers (c.code / 256) (le c.payload 0 8) 1) = true) := by
  decide +kernel

theorem witness_CarriersComeAndGo :
    askedAt (st []) 0x0101 (carrierReq 3) (fun s c => decide (c.payload.length = 256 ∧
      firstBad? (carrierChecks (s.planned.ppt.carrier 3).isNone c.payload) = none ∧
      s.planned.carrierLimit (s.planned.cells ++ [(3, c.payload)]) c.payload = none ∧
      grantsFull s.planned.queuesUsed s.planned.pins c.payload = false ∧ s.drumLive = false)) = true ∧
    askedAt (live (st [])) 0x0101 (splice (splice (carrierReq 3) 3 (by1 [2])) 6 (leBytes 2 135)) (fun s c =>
      decide (firstBad? (carrierChecks (s.planned.ppt.carrier 3).isNone c.payload) = none ∧
        s.planned.carrierLimit (s.planned.cells ++ [(3, c.payload)]) c.payload = some 9)) = true ∧
    askedAt (live (withCarrier [])) 0x0102 (leBytes 4 3) (fun s _ => (s.planned.ppt.carrier 3).isSome && s.drumLive) = true ∧
    askedAt (withCarrier []) 0x0102 (leBytes 4 3) (fun s _ => (s.planned.ppt.carrier 3).isSome && (s.ppt.carrier 3).isSome &&
      !s.drumLive) = true ∧
    askedAt (withCarrier []) 0x0102 (leBytes 4 4) (fun s _ => (s.planned.ppt.carrier 4).isNone) = true ∧
    askedAt (withCarrier []) 0x0103 (leBytes 4 3) (fun s _ => (s.ppt.carrier 3).isSome) = true ∧
    askedAt (withCarrier []) 0x0103 (leBytes 4 4) (fun s _ => (s.ppt.carrier 4).isNone) = true := by decide +kernel

/-- Every one of 4,096 queues of the books is pinned: no grant queue finds a place (R279). -/
theorem witness_a_carrier_finds_no_grant_queue :
    let pin : QState := { base := 0, sizeLog := 4, esize := 0, head := 0, tail := 0, stuck := 0, threshold := 1, owner := 0, hostSlot := 0,
                          flags := 0x31 }
    let s := { st [] with qm := { (st []).qm with cache := [⟨18, pin, false⟩], created := List.replicate 4096 (18, none) } }
    askedAt s 0x0101 (carrierReq 3) (fun s c => decide (firstBad? (carrierChecks (s.planned.ppt.carrier 3).isNone c.payload) = none ∧
      s.planned.carrierLimit (s.planned.cells ++ [(3, c.payload)]) c.payload = none)) = true ∧
    (ask s (req 0x0101 (carrierReq 3))).planned = ask s (req 0x0101 (carrierReq 3)) ∧
    grantsFull (ask s (req 0x0101 (carrierReq 3))).queuesUsed (ask s (req 0x0101 (carrierReq 3))).pins (carrierReq 3) = true := by
  intro pin s
  have hp : (ask s (req 0x0101 (carrierReq 3))).pins = List.replicate 4096 18 := by
    simp only [State.pins, ask, s, List.map_replicate]
    rw [List.filter_replicate, if_pos (by decide +kernel)]
  refine ⟨by decide +kernel, rfl, ?_⟩
  simp only [grantsFull, hp, List.length_replicate]
  have h : decide (4096 < 4096 + grantCount (carrierReq 3)) = true := by decide +kernel
  rw [h]
  rfl

/-- A protected uplink flow 9 of carrier 3. -/
def flow9 : Flow := ⟨9, leBytes 4 9 ++ leBytes 2 3 ++ by1 [0, 0, 0, 4, 8] ++ leBytes 9 0, 0⟩

theorem witness_FlowsBudgetsAndBindings :
    (let ok := fun (on : Bool) (s : State) (c : Cmd) => firstBad? (flowChecks (s.planned.flow (le c.payload 0 4)).isNone
       (s.planned.ppt.carrier (le c.payload 4 2)).isSome c.payload) == none && (s.drumLive == on)
     askedAt (withCarrier []) 0x0201 flow9.payload (ok false) = true ∧ askedAt (live (withCarrier [])) 0x0201 flow9.payload (ok true) = true) ∧
    askedAt (withCarrier [flow9]) 0x0202 (leBytes 8 9) (fun s _ => (s.planned.flow 9).isSome && s.flow 9 == some flow9 && !s.drumLive) = true ∧
    askedAt (live (withCarrier [flow9])) 0x0202 (leBytes 8 9) (fun s _ => (s.planned.flow 9).isSome && s.drumLive) = true ∧
    askedAt (st []) 0x0202 (leBytes 8 9) (fun s _ => (s.planned.flow 9).isNone) = true ∧
    askedAt (st []) 0x0203 (leBytes 4 100000 ++ leBytes 4 0 ++ leBytes 2 (90 * 256) ++ by1 [16, 248, 252, 0] ++ leBytes 2 1 ++ leBytes 4 1)
      (fun s c => firstBad? (budgetChecks c.payload) == none && !s.drumLive) = true ∧
    (let ok := fun (unbind : Bool) (s : State) (c : Cmd) => bit (le c.payload 7 1) 0 == unbind && isStudio (s.planned.flow (le c.payload 0 4)) &&
       decide (le c.payload 4 1 ≤ 9 ∧ 1 ≤ le c.payload 5 1 ∧ le c.payload 5 1 ≤ 8 ∧ 2 ≤ le c.payload 6 1 ∧ le c.payload 6 1 ≤ 32 ∧
         le c.payload 8 4 ≤ 100000000) && cadenceLimit s.planned.ppt.bindings c.payload == none
     askedAt (withCarrier [flow9]) 0x0204 (leBytes 4 9 ++ by1 [0, 8, 32, 0] ++ leBytes 32 0) (ok false) = true ∧
     let bare : State := { st [] with ppt := { (st []).ppt with flows := [flow9] } }
     let fits := fun (unbind : Bool) (s : State) (c : Cmd) => ok unbind s c && (s.planned.effect c).protectedFails == none
     askedAt bare 0x0204 (leBytes 4 9 ++ by1 [0, 8, 32, 0] ++ leBytes 32 0) (fits false) = true ∧
     askedAt bare 0x0204 (leBytes 4 9 ++ by1 [0, 1, 2, 1] ++ leBytes 32 0) (fits true) = true ∧
     askedAt (withCarrier [flow9]) 0x0204 (leBytes 4 9 ++ by1 [0, 1, 2, 1] ++ leBytes 32 0) (ok true) = true) := by decide +kernel

theorem witness_DrumIsStartedAndStopped :
    (let p := by1 [3, 1, 0, 0] ++ leBytes 4 9830399
     let ok := fun (liv wait fits : Bool) (s : State) (c : Cmd) => decide ((le c.payload 0 1 ≤ 3 ∨ le c.payload 0 1 = 0xFF) ∧ le c.payload 1 1 ≤ 1 ∧
       -9830400 ≤ leS c.payload 4 4 ∧ leS c.payload 4 4 ≤ 9830399) && s.drumLive == liv &&
       s.flag Rg.DRM_STATUS Fd.DRM_STATUS_waiting == wait && s.cells.all (fun e => decide (carScs e.2 ≤ s.startScs c.payload)) == fits
     askedAt (st []) 0x0104 p (fun s c => ok false false true s c && (s.startDrum c.payload).plansHold) = true ∧
     askedAt (live (st [])) 0x0104 p (ok true false true) = true ∧ askedAt (withCarrier []) 0x0104 p (ok false false true) = true ∧
     askedAt (withCarrier []) 0x0104 (by1 [0, 1, 0, 0] ++ leBytes 4 0xFF6A0000) (ok false false false) = true) ∧
    askedAt (live (st [])) 0x0105 [] (fun s _ => s.drumLive) = true ∧
    askedAt (st [(Rg.DRM_STATUS, fw Fd.DRM_STATUS_waiting 1)]) 0x0105 [] (fun s _ => !s.drumLive &&
      s.flag Rg.DRM_STATUS Fd.DRM_STATUS_waiting) = true ∧
    askedAt (st []) 0x0105 [] (fun s _ => !s.drumLive && !s.flag Rg.DRM_STATUS Fd.DRM_STATUS_waiting) = true := by decide +kernel

theorem protectedFails_of_none (s : State) (hc : s.ppt.carriers = []) (hb : s.ppt.bindings = []) : s.protectedFails = none := by
  have hu : s.ppt.inUse = [] := by simp [Parapet.inUse, hc]
  have hp : s.protItems s.protGrants = [] := by simp [State.protItems, hu, numbered]
  have e0 : ∀ m : Int, slotEnergy [] m = 0 := fun _ => rfl
  unfold State.protectedFails
  simp [hp, hb, Parapet.placeAll, sortBy, Lim.slotFails, Lim.heatFits, Lim.heatAt, jobsOn, t2At, e0]

theorem witness_protected_work_fits :
    (st []).ppt.carriers = [] ∧ (st []).ppt.bindings = [] ∧ ∀ p, ((st []).startDrum p).ppt = (st []).ppt := by
  refine ⟨rfl, rfl, fun p => rfl⟩

/-- Every port and every span link enabled: what they draw is at its full figure. -/
def drawing : List (Nat × Word) :=
  (List.range 32).map (fun p => (Rg.ETH_PORT_CTRL p, fw Fd.ETH_PORT_CTRL_enable 1)) ++
    (List.range 4).map (fun l => (Rg.SPN_LINK_CTRL l, fw Fd.SPN_LINK_CTRL_enable 1))

/-- A carrier whose downlink flow runs over port 1, with a lead that no plan holds (R160). -/
def strained : State :=
  let s := withCarrier []
  { s with
    regs := (st ((Rg.ETH_PORT_TIMING 1, 0xFFFFFFFF) :: drawing)).regs
    eth := { s.eth with flows := [⟨10, 1, 1, 3, 0, 9, 0, 0, 0⟩] } }

/-- Flow 9 bound to a cadence, whose template a single cluster can not hold (R172). -/
def promised : State :=
  let s := st ([(Rg.PPT_CTRL, fw Fd.PPT_CTRL_protect_clusters 1), (Rg.PPT_SLOT_BUDGET, 0)] ++ drawing)
  { s with ppt := { s.ppt with
      flows := [flow9]
      bindings := [⟨9, leBytes 4 9 ++ by1 [9, 2, 16, 0] ++ leBytes 4 4000000 ++ List.replicate 24 1, 0⟩] } }

theorem witness_plans_and_protected_work_refuse :
    (let start := by1 [1, 1, 0, 0] ++ leBytes 4 0
     let P := fun (holds fails : Bool) (s : State) (c : Cmd) => !s.drumLive && !s.flag Rg.DRM_STATUS Fd.DRM_STATUS_waiting &&
       s.cells.all (fun e => decide (carScs e.2 ≤ s.startScs c.payload)) && ((s.startDrum c.payload).plansHold == holds) &&
       (holds && (s.startDrum c.payload).protectedFails.isSome) == fails
     askedAt strained 0x0104 start (P false false) = true ∧ askedAt promised 0x0104 start (P true true) = true) ∧
    (let port := by1 [0, 1, 0, 1, 1, 1] ++ leBytes 2 1500 ++ leBytes 8 0
     askedAt strained 0x0401 port (fun s c => firstBad? (portChecks c.payload) == none && !(s.planned.effect c).plansHold) = true ∧
     askedAt promised 0x0401 port (fun s c => firstBad? (portChecks c.payload) == none && (s.planned.effect c).eth.flows == [] &&
       (s.planned.effect c).plansHold && (s.planned.effect c).protectedFails.isSome) = true) ∧
    (let map := leBytes 4 1 ++ leBytes 4 0 ++ by1 [1, 0, 0, 0, 3, 0, 1, 9, 0, 0, 0, 0, 0, 0, 0, 0]
     let ok := fun (s : State) (c : Cmd) =>
       let es := mapAfter s.planned.eth.flows c.payload
       decide (firstBad? (entryChecks c.payload 0) = none ∧ es.length ≤ 8192) && ((List.range 1).zip (eflowsOf c.payload)).all (fun e =>
         firstBad? (s.planned.mapChecks es e.1 e.2) == none) && decide (streamWeight es s.planned.cells ≤ 1024000) &&
         !ringsFull s.planned.cells es
     askedAt strained 0x0402 map (fun s c => ok s c && !(s.planned.effect c).plansHold) = true ∧
     askedAt promised 0x0402 map (fun s c => ok s c && (s.planned.effect c).plansHold && (s.planned.effect c).protectedFails.isSome) = true) := by
  and_intros <;> decide +kernel

/-- The reset state with cluster 17 in a role. -/
def withRole (r : Nat) : State := { st [] with regs := putRole (st []).regs 17 r }

theorem witness_ClustersAreRetiredAndRepaired :
    askedAt (st []) 0x0301 [] (fun _ _ => true) = true ∧ askedAt (st []) 0x0302 (leBytes 4 18) (fun _ c => decide (17 < le c.payload 0 1)) = true ∧
    askedAt (withRole 1) 0x0302 (leBytes 4 17) (fun s c => decide (le c.payload 0 1 ≤ 17) && role s.regs 17 != 0) = true ∧
    askedAt (live (withRole 0)) 0x0302 (leBytes 4 17) (fun s _ => role s.regs 17 == 0 && s.drumLive) = true ∧
    askedAt (withRole 0) 0x0302 (leBytes 4 17) (fun s _ => role s.regs 17 == 0 && !s.drumLive && s.ppt.failing == []) = true ∧
    askedAt (st []) 0x0303 (leBytes 4 18) (fun _ _ => true) = true ∧
    askedAt (withRole 1) 0x0303 (leBytes 4 17) (fun s _ => role s.regs 17 != 3) = true ∧
    askedAt (withRole 3) 0x0303 (leBytes 4 17) (fun s _ => role s.regs 17 == 3 && !s.boot.resetUnits.contains 0x2011) = true ∧
    (role (withRole 4).regs 17 = 4 ∧ role (withRole 1).regs 17 ≠ 4) := by decide +kernel
theorem witness_PortsAndFlowMapsAreConfigured :
    (let p := by1 [32, 3, 0, 8, 1, 4] ++ leBytes 2 9000 ++ leBytes 8 0
     let q := by1 [4, 1, 2, 1, 1, 1] ++ leBytes 2 1500 ++ leBytes 8 0
     let full := { st drawing with eth := { (st []).eth with flows := (List.range 64).map (fun i => ⟨i, 0, 1, 3, i, 14, 0, 0, 0⟩) }, ppt := (withCarrier []).ppt }
     let ok := fun (s : State) (c : Cmd) => firstBad? (portChecks c.payload) == none && (s.planned.effect c).plansHold &&
       (s.planned.effect c).eth.flows == [] && (s.planned.effect c).ppt.carriers == [] && (s.planned.effect c).ppt.bindings == []
     askedAt full 0x0401 (by1 [0, 1, 0, 1, 1, 1] ++ leBytes 2 1500 ++ leBytes 8 0) (fun s c => firstBad? (portChecks c.payload) == none &&
       (s.planned.effect c).anyOver) = true ∧
     askedAt (st []) 0x0401 p ok = true ∧ askedAt (live (st [])) 0x0401 p ok = true ∧ askedAt (st []) 0x0401 q ok = true) ∧
    (let p := leBytes 4 1 ++ leBytes 4 0 ++ by1 [1, 0, 0, 0, 3, 0, 0, 9, 0, 0, 0, 0, 0, 0, 0, 0]
     let s := { withCarrier [] with regs := putR (withCarrier []).regs (Rg.ETH_PORT_CTRL 0) Fd.ETH_PORT_CTRL_enable 1 }
     let ok := fun (s : State) (c : Cmd) =>
       let es := mapAfter s.planned.eth.flows c.payload
       decide (1 ≤ le c.payload 0 4 ∧ le c.payload 0 4 ≤ 253 ∧ firstBad? (entryChecks c.payload 0) = none ∧ es.length ≤ 8192) &&
         ((List.range (eflowsOf c.payload).length).zip (eflowsOf c.payload)).all (fun e =>
           firstBad? (s.planned.mapChecks es e.1 e.2) == none)
     let fits := fun (s : State) (c : Cmd) => ok s c && !ringsFull s.planned.cells (mapAfter s.planned.eth.flows c.payload) &&
       decide (streamWeight (mapAfter s.planned.eth.flows c.payload) s.planned.cells ≤ 1024000) && (s.planned.effect c).plansHold &&
       (s.planned.effect c).ppt.carriers == [] && (s.planned.effect c).ppt.bindings == []
     let bare := st [(Rg.ETH_PORT_CTRL 0, fw Fd.ETH_PORT_CTRL_enable 1)]
     let wide := { s with ppt := { s.ppt with carriers := (List.range 16).map (fun k => (k, some
       ⟨splice (carrierReq k) 3 (by1 [3]) |> fun q => splice q 8 (by1 [64, 64]), 100, 101, 3, []⟩)) } }
     askedAt bare 0x0402 p fits = true ∧ askedAt (live bare) 0x0402 p fits = true ∧
       askedAt wide 0x0402 p (fun s c => ok s c && decide (1024000 < streamWeight (mapAfter s.planned.eth.flows c.payload) s.planned.cells)) = true) ∧
    ∀ (s : State) (q d : Nat), s.overRate [] q d = false := by
  refine ⟨by decide +kernel, by decide +kernel, ?_⟩
  intro s q d
  simp [State.overRate]

/-- The reset state with a base that has stepped. -/
def stepped (b : Nat) : State := st [(Rg.BLF_TB_STATUS b, fw Fd.BLF_TB_STATUS_stepped 1)]

/-- A command of a code and payload that waits for its commit or its end. -/
def waiter (code : Nat) (p : List Byte) : Cmd :=
  { mbx := none, lost := false, head := [], tag := 7, dev := 0, code := code, payload := p, phase := .pending, commit := .other, status := 1,
    detail := 0 }

theorem witness_TimebasesAndPtpAreConfigured :
    (let p := fun (b op src : Nat) => by1 [b, op, src, 0] ++ leBytes 2 10000 ++ leBytes 2 1 ++ leBytes 4 10 ++ leBytes 4 100000 ++ leBytes 8 0 ++
       leBytes 4 999999999
     askedAt (st []) 0x0501 (p 2 0 3) (fun _ c => decide (le c.payload 0 1 ≤ 2 ∧ le c.payload 1 1 = 0 ∧ le c.payload 2 1 ≤ 3 ∧
       (le c.payload 2 1 = 1 → le c.payload 0 1 ≠ 2) ∧ (le c.payload 2 1 = 2 → le c.payload 0 1 = 0) ∧ (le c.payload 2 1 = 3 → le c.payload 0 1 = 2) ∧ 1 ≤ le c.payload 4 2 ∧ le c.payload 4 2 ≤ 10000 ∧ 1 ≤ le c.payload 6 2 ∧
       10 ≤ le c.payload 8 4 ∧ le c.payload 8 4 ≤ 100000 ∧ le c.payload 12 4 ≤ 100000)) = true ∧
     askedAt (st []) 0x0501 (p 0 4 0) (fun _ c => decide (le c.payload 0 1 ≤ 2 ∧ 3 < le c.payload 1 1)) = true ∧
     (∀ op, op = 1 ∨ op = 2 →
       askedAt (st []) 0x0501 (p 1 op 0) (fun s c => decide (le c.payload 24 4 ≤ 999999999) && !tbStepped s.regs 1) = true ∧
       askedAt (stepped 1) 0x0501 (p 1 op 0) (fun s c => decide (le c.payload 24 4 ≤ 999999999) && tbStepped s.regs 1) = true) ∧
     askedAt (st []) 0x0501 (p 0 3 0) (fun _ c => decide (le c.payload 1 1 = 3 ∧ le c.payload 0 1 = 0)) = true ∧
     (∀ op, op = 0 ∨ op = 1 → let c := waiter 0x0501 (p 0 op 0)
       (ask (st []) c).host.cmds.find? (fun c => c.phase == .pending && (tbCmd 0 c || tbCmd 1 c)) = some c ∧ tbCmd op c = true ∧
       le c.payload 0 1 ≤ 2 ∧ tbStepped (ask (st []) c).regs 0 = false)) ∧
    (let p := fun (b clients : Nat) => by1 [32, b, 0, 0, 24, 0, 0, 0, 0xF9, 0xFD, 2, 3] ++ leBytes 4 0 ++ by1 [clients] ++ leBytes 7 0
     askedAt (st []) 0x0502 (p 0 33) (fun s c => firstBad? (ptpChecks s.regs c.payload) == none && s.blf.overClients c.payload) = true ∧
     askedAt (st []) 0x0502 (p 0 32) (fun s c => firstBad? (ptpChecks s.regs c.payload) == none && !s.blf.overClients c.payload) = true ∧
     askedAt (st []) 0x0502 (p 0xFF 0) (fun s c => firstBad? (ptpChecks s.regs c.payload) == none && le c.payload 1 1 == 0xFF) = true) ∧
    askedAt (st []) 0x0503 [] (fun _ _ => true) = true := by
  refine ⟨⟨by decide +kernel, by decide +kernel, ?_, by decide +kernel, ?_⟩, by decide +kernel, by decide +kernel⟩ <;>
    intro op h <;> rcases h with rfl | rfl <;> decide +kernel

/-- A machine whose pairs are both at work, with an image in the slot that does not run. -/
def paired : State :=
  { st [] with boot := { (st []).boot with
      pair0 := .active
      pair1 := .standby
      slotB := ⟨[], .staged⟩
      runsB := false } }

/-- The reset state without a standby pair. -/
def alone : State := { st [] with boot := { (st []).boot with pair1 := .retired } }

/-- A machine whose start-up has failed, with an image staged in slot A or none. -/
def failedStart (x : SlotState) : State :=
  { st [(Rg.BOOT_STATE, 15)] with boot := { (st []).boot with slotA := ⟨[], x⟩ } }

theorem witness_FirmwareIsStagedAndActivated :
    (let p := fun (a n : Nat) => leBytes 8 a ++ leBytes 4 n ++ leBytes 4 0
     askedAt (st []) 0x0B01 (p 0x2000000000 1) (fun s c => decide (dramSize s.regs < le c.payload 0 8 + le c.payload 8 4)) = true ∧
     askedAt alone 0x0B01 (p 0x1FFFFFFFFF 1) (fun s c => decide (le c.payload 0 8 + le c.payload 8 4 ≤ dramSize s.regs) && !s.failed &&
       !s.hasStandby) = true ∧
     askedAt paired 0x0B01 (p 0 65536) (fun s c => decide (le c.payload 0 8 + le c.payload 8 4 ≤ dramSize s.regs) && !s.failed &&
       s.hasStandby && s.boot.staging == none) = true) ∧
    (askedAt alone 0x0B02 (leBytes 4 3600) (fun s c => decide (le c.payload 0 2 ≤ 3600) && !s.failed && !s.hasStandby) = true ∧
     askedAt paired 0x0B02 (leBytes 4 3600) (fun s _ => !s.failed && s.hasStandby && s.boot.other.state == .staged && s.boot.activate == none &&
       !s.boot.probation && !s.drumLive) = true ∧
     askedAt (live paired) 0x0B02 (leBytes 4 0) (fun s _ => s.hasStandby && s.boot.other.state == .staged && s.drumLive) = true) ∧
    (let here := fun (x : SlotState) (c : Cmd) => (ask (failedStart x) c).waiting 0 = some c ∧ (ask (failedStart x) c).verdict 0 c = none ∧
       (ask (failedStart x) c).failed = true ∧ (ask (failedStart x) c).boot.slotA.state = x
     here .staged (req 0x0B02 (leBytes 4 0) 0) ∧ here .empty (req 0x0B02 (leBytes 4 0) 0) ∧
     here .empty (req 0x0B01 (leBytes 16 0) 0)) ∧
    askedAt (st []) 0x0B03 (leBytes 64 0) (fun _ _ => true) = true ∧
    ({ paired with boot := { paired.boot with staging := some [] } }).boot.staging = some [] ∧
    ({ paired with boot := { paired.boot with probation := true } }).boot.probation = true := by decide +kernel

theorem witness_WhatIsWrittenIsRead :
    (let s := st []
     notMemory 60 = false ∧ 60 + (by1 [1, 2, 3, 4]).length ≤ wordOf s.regs 60 + wordSize s.regs 60 ∧ inInit s.regs (wordOf s.regs 60) = false ∧
       wokenBy 9 60 = none ∧ s.mec.merges = [] ∧ s.mec.poison = [] ∧ s.mec.upset = [] ∧
       s.getF Rg.MEC_INJECT_CTRL Fd.MEC_INJECT_CTRL_arm = 0) ∧
    (∀ x, accessible (st []).regs 9 (60 + x) = true ∨ (by1 [1, 2, 3, 4]).length ≤ x) ∧
    (let s := st [(Rg.MEC_REGION_CTRL 0, fw Fd.MEC_REGION_CTRL_enable 1 ||| fw Fd.MEC_REGION_CTRL_busy 1), (Rg.MEC_REGION_BASE 0, 0)]
     notMemory 0 = false ∧ inInit s.regs (wordOf s.regs 0) = true ∧ 0 + 64 ≤ wordOf s.regs 0 + wordSize s.regs 0 ∧ wokenBy 9 0 = none) ∧
    (notMemory 0x2000000000 = false ∧ (∀ x, x < 4 → accessible (st []).regs 9 (0x2000000000 + x) = false) ∧
      wokenBy 9 0x2000000000 = none) := by
  refine ⟨by decide +kernel, ?_, by decide +kernel, by decide +kernel⟩
  intro x
  by_cases h : x < 4
  · exact .inl ((by decide +kernel : ∀ x, x < 4 → accessible (st []).regs 9 (60 + x) = true) x h)
  · exact .inr (by simp only [by1, List.length_map, List.length_cons, List.length_nil]; omega)

theorem witness_BuffersRegionsScrubsAndRepairs :
    (let b : Merge := ⟨9, 64, [(64, ⟨1, false⟩), (66, ⟨2, true⟩)]⟩
     let s := { st [] with mec := { (st []).mec with merges := [b] } }
     s.mec.merges = [b] ∧ wordOf s.regs b.line = b.line ∧ Map.get none s.mec.upset b.line = none ∧
       s.getF Rg.MEC_INJECT_CTRL Fd.MEC_INJECT_CTRL_arm = 0 ∧ (b.bytes.map (·.1)).Nodup) ∧
    (let s := st [(Rg.MEC_REGION_CTRL 63, fw Fd.MEC_REGION_CTRL_busy 1)]
     Fd.MEC_REGION_CTRL_init.get (fw Fd.MEC_REGION_CTRL_init 1) = 1 ∧ s.getF (Rg.MEC_REGION_CTRL 63) Fd.MEC_REGION_CTRL_busy = 1 ∧
       s.getF (Rg.MEC_REGION_CTRL 62) Fd.MEC_REGION_CTRL_busy = 0) ∧
    (let s := st [(Rg.MEC_CTRL, fw Fd.MEC_CTRL_scrub_en 1), (Rg.MEC_REGION_CTRL 0, fw Fd.MEC_REGION_CTRL_enable 1)]
     scrubs s.regs 64 = true ∧ s.mec.merges = [] ∧ inInit s.regs (wordOf s.regs 64) = false) ∧
    (let s := { st [] with mec := { (st []).mec with cands := [⟨64, [3, 2, 1]⟩] } }
     (∃ x ∈ s.mec.cands, x.word = wordOf s.regs 70 ∧ isCand x.times = true) ∧ s.mec.repairs.length < 1024) ∧
    (Fd.MEC_INJECT_CTRL_arm.get (fw Fd.MEC_INJECT_CTRL_arm 1) = 1 ∧ Fd.MEC_INJECT_CTRL_arm.get 0 = 0) := by decide +kernel

/-- A queue of 16 entries of 16 bytes at the start of DRAM, with this fill. -/
def queueOf (fill : Word) : QState :=
  { base := 0, sizeLog := 4, esize := 0, head := 0, tail := fill, stuck := 0, threshold := 1, owner := 0, hostSlot := 0, flags := 0x21 }

/-- The reset state with an enabled queue manager and queue 5,000 of a fill in its cache, with operations under way. -/
def queued (fill : Word) (ops : List QOp) : State :=
  let s := st [(Rg.QMG_CTRL, fw Fd.QMG_CTRL_enable 1)]
  { s with qm := { s.qm with cache := [⟨5000, queueOf fill, false⟩], created := [(5000, none)], ops := ops } }

theorem witness_QueuesRunAndAreCreated :
    (let r := fun (fill : Word) => (queued fill []).qx.load 5000
     let t := fun (fill : Word) => (r fill).2
     (r 15).1.refusal 9 (t 15) = none ∧ (t 15).esz = 16 ∧ (t 15).fill < (t 15).size ∧ (t 16).size ≤ (t 16).fill ∧ (t 0).fill = 0 ∧
       (t 15).fill ≠ 0 ∧ ((st []).qx.load 5000).1.refusal 9 ((st []).qx.load 5000).2 = some 3) ∧
    (let o : QOp := ⟨9, 5000, true, true, clean (leBytes 16 1), 7⟩
     let d : QOp := ⟨9, 5000, false, true, [], 7⟩
     (queued 1 [o]).qm.ops.find? (fun o => o.q == 5000) = some o ∧ o.issued = true ∧ (o.enq = true → o.at_ ≠ (queued 1 [o]).now) ∧
     (queued 1 [o]).qm.ops = [o] ∧ (queued 1 [d]).qm.ops = [d] ∧
     (queued 1 [o]).qm.cache.find? (fun e => e.q == 5000) = some ⟨5000, queueOf 1, false⟩ ∧ (queueOf 1).hostConsumer = false ∧
     (queueOf 1).hostProducer = false ∧ (∀ x, x < (queueOf 1).esz → accessible (queued 1 [o]).regs qmAgent ((queueOf 1).slot (queueOf 1).tail + x) = true)
     ∧ Fd.QMG_INSPECT_ID_queue.get 5000 = 5000) ∧
    (let p := fun (q log : Nat) => leBytes 4 q ++ leBytes 8 4096 ++ by1 [log, 3, 8, 0] ++ leBytes 4 1 ++ leBytes 4 0
     askedAt (st []) 0x0701 (p 0xFFFFFFFF 3) (fun s c => firstBad? (s.queueChecks c.payload) == some 12) = true ∧
     askedAt (st []) 0x0701 (p 0xFFFFFFFF 20) (fun s c => firstBad? (s.queueChecks c.payload) == none) = true ∧
     askedAt (st []) 0x0701 (p 4096 4) (fun s c => firstBad? (s.queueChecks c.payload) == none) = true ∧
     askedAt (queued 1 []) 0x0702 (leBytes 4 4096 ++ leBytes 4 0) (fun s c => !s.hasQueue (le c.payload 0 4)) = true ∧
     askedAt (queued 1 []) 0x0702 (leBytes 4 5000 ++ leBytes 4 0) (fun s _ => s.hasQueue 5000 && (s.queueSeen 5000).fill != 0 &&
       !(s.queueSeen 5000).broken) = true ∧
     askedAt (queued 1 []) 0x0702 (leBytes 4 5000 ++ leBytes 4 1) (fun s _ => s.hasQueue 5000 && pacedBy s.regs 5000 == []) = true ∧
     askedAt (queued 0 []) 0x0702 (leBytes 4 5000 ++ leBytes 4 0) (fun s _ => s.hasQueue 5000 && (s.queueSeen 5000).fill == 0) = true) := by
  decide +kernel
/-- A state with further registers written. -/
def more (s : State) (l : List (Nat × Word)) : State := { s with regs := l.foldl (fun m e => wrR m e.1 e.2) s.regs }

/-- The routes of the tests: to device 1 over link 2 and to device 2 over link 3, both up. -/
def routes : List (Nat × Word) :=
  [(Rg.SPN_ROUTE 1, fw Fd.SPN_ROUTE_valid 1 ||| fw Fd.SPN_ROUTE_link 2), (Rg.SPN_ROUTE 2, fw Fd.SPN_ROUTE_valid 1 ||| fw Fd.SPN_ROUTE_link 3),
   (Rg.SPN_LINK_STATUS 2, fw Fd.SPN_LINK_STATUS_state 1)]

/-- Channel 3 of engine 19 in a state, paced so by queue 5,000 with marks 2 and 4; the queue has entries of `16 << esize` bytes. -/
def chanIn (chst pace esize fill : Nat) : State :=
  let s := queued 0 []
  more { s with qm := { s.qm with cache := [⟨5000, { queueOf (BitVec.ofNat 32 fill) with esize := esize }, false⟩] } }
    [(Rg.DMA_CH_STATUS 19 3, fw Fd.DMA_CH_STATUS_state chst), (Rg.DMA_CH_CTRL 19 3, fw Fd.DMA_CH_CTRL_pace pace), (Rg.DMA_CH_PACE 19 3, 5000),
     (Rg.DMA_CH_LOW 19 3, 2), (Rg.DMA_CH_HIGH 19 3, 4)]

/-- The value of DMA_CH_CTRL that starts a channel with this pacing. -/
def startWord (pace : Nat) : Word := fw Fd.DMA_CH_CTRL_start 1 ||| fw Fd.DMA_CH_CTRL_pace pace

theorem witness_ChannelsStartPauseAndAbort :
    (engPowered (chanIn 0 0 2 0).regs 19 = true ∧ engPowered (chanIn 0 0 2 0).regs 17 = false ∧ hasChan 17 3 = true ∧ hasChan 19 3 = true ∧ hasChan 0 15 = true ∧ hasChan 17 16 = false ∧
      (∀ p, p < 3 → Fd.DMA_CH_CTRL_start.get (startWord p) = 1 ∧ Fd.DMA_CH_CTRL_pace.get (startWord p) = p) ∧
      (∀ k, k < 6 → chState (chanIn k 0 2 0).regs 19 3 = k)) ∧
    (let q := fun (s : State) => s.queue (chQueue s.regs 19 3)
     let here := fun (s : State) => s.qm.cache.any (fun x => x.q == chQueue s.regs 19 3)
     (∀ f, f < 6 → let s := chanIn 0 0 2 f
       (q s).valid = true ∧ (q s).broken = false ∧ chLow s.regs 19 3 < chHigh s.regs 19 3 ∧ chHigh s.regs 19 3 ≤ (q s).size ∧ here s = true ∧
         (q s).esz = 64 ∧ (q s).fill = f) ∧
     (let s := more (chanIn 0 0 2 0) [(Rg.DMA_CH_LOW 19 3, 4)]
      (q s).valid = true ∧ (q s).broken = false ∧ here s = true ∧ chHigh s.regs 19 3 ≤ chLow s.regs 19 3) ∧
     (let s := { chanIn 0 0 2 0 with qm := { (chanIn 0 0 2 0).qm with cache := [⟨5000, { queueOf 0 with flags := 0 }, false⟩] } }
      here s = true ∧ (q s).valid = false)) ∧
    (Fd.DMA_CH_ABORT_abort.get 1 = 1 ∧
      (let s := fun (r : Bool) => { chanIn 1 0 0 3 with dma := setChan [] 19 3 { Chan.reset with
         aborting := true, ran := r
         desc := leBytes 4 0 ++ leBytes 4 16 ++ leBytes 8 64 ++ leBytes 8 128 ++ leBytes 40 0 } }
       ((s true).chan 19 3).aborting = true ∧ ((s true).chan 19 3).ran = true ∧ ((s false).chan 19 3).aborting = true ∧
         ((s false).chan 19 3).ran = false ∧ chState (s false).regs 19 3 = 1 ∧
         (match (s false).takeDesc 19 3 with
          | .desc t d => !badDesc d (t.queueSeen (dQueue d)) && dOp d == 0 && !dTwo d && decide (7 ≤ dLen d) && decide (Local t (dSrc d)) &&
              decide (Local t (dDst d)) && t.decodeBad (chUnit 19 3) (dSrc d) 7 == none && t.decodeBad (chUnit 19 3) (dDst d) 7 == none &&
              !t.span.outstanding (chUnit 19 3)
          | .stopped _ => false) = true)) ∧
    (∀ p, p = 1 ∨ p = 2 → ∀ k, k = 1 ∨ k = 2 → chPace (chanIn k p 2 3).regs 19 3 = p ∧ chState (chanIn k p 2 3).regs 19 3 = k ∧
      ((chanIn k p 2 3).chan 19 3).aborting = false ∧ engPowered (chanIn k p 2 3).regs 19 = true ∧ ((chanIn k p 2 3).chan 19 3).ran = false ∧ ((chanIn k p 2 3).chan 19 3).desc = []) ∧
    (Fd.DMA_ENG_CTRL_leave_strict.get (fw Fd.DMA_ENG_CTRL_leave_strict 1) = 1 ∧ (∀ b, b < 9 → bootStage (st [(Rg.BOOT_STATE, BitVec.ofNat 32 b)]).regs = b) ∧
      (∀ k, k < 18 → role (withRole 0).regs k ≠ 4) ∧ engPowered (withRole 0).regs 19 = true ∧ role (withRole 4).regs 17 = 4) := by
  refine ⟨by decide +kernel, by decide +kernel, by decide +kernel, ?_, by decide +kernel⟩
  intro p hp k hk
  rcases hp with rfl | rfl <;> rcases hk with rfl | rfl <;> decide +kernel

/-- A descriptor: operation, flags, widths, length, source, destination, status address, queue, rows, pattern, next. -/
def descriptor (op flags widths len src dst stat q rows pattern next : Nat) : List Byte :=
  leBytes 1 op ++ leBytes 1 flags ++ leBytes 2 widths ++ leBytes 4 len ++ leBytes 8 src ++ leBytes 8 dst ++ leBytes 8 stat ++ leBytes 4 q ++
    leBytes 2 rows ++ leBytes 2 0 ++ leBytes 8 0 ++ leBytes 8 pattern ++ leBytes 8 next

/-- A channel at work on a descriptor, before or after its operation. -/
def onDesc (s : State) (d : List Byte) (ran interrupt : Bool) : State :=
  { s with dma := setChan [] 19 3 { Chan.reset with desc := d, ran := ran, interrupt := interrupt } }

theorem witness_DescriptorsRunAndComplete :
    (let takes := fun (s : State) (d : List Byte) (P : State → Bool) =>
       let s := onDesc s d false false
       hasChan 19 3 && s.chGoes 19 3 && !(s.chan 19 3).ran && (match s.takeDesc 19 3 with
         | .desc t e => e == d && P t && !t.span.busy (chUnit 19 3) && decide (Local t 64) && decide (Local t 128)
         | .stopped _ => false)
     let run := chanIn 1 0 0 3
     let d := fun (op len src dst : Nat) => descriptor op 0 0 len src dst 0 5000 0 7 0
     let q := fun (t : State) (d : List Byte) => t.queueSeen (dQueue d)
     (∀ op, op < 6 → let e := d op 0 0 0
       takes run e (fun t => badDesc e (q t e) && dOp e == op) = true) ∧
     ((run.chan 19 3).desc = [] ∧ (match run.takeDesc 19 3 with | .desc _ _ => true | .stopped _ => false) = true) ∧
     (let s := more run [(Rg.DMA_ENG_STATUS 19, fw Fd.DMA_ENG_STATUS_strict 1)]
      ∀ op, op < 3 → let e := descriptor op 0 1 16 3 64 0 5000 0 7 0
       takes s e (fun t => !badDesc e (q t e) && t.flag (Rg.DMA_ENG_STATUS 19) Fd.DMA_ENG_STATUS_strict && strictBad e 0 == some (1, 3)) = true) ∧
     (∀ op, op < 5 → let e := d op 16 64 128
       takes run e (fun t => !badDesc e (q t e) && strictBad e (t.chan 19 3).addr == none && !dTwo e && dOp e == op &&
         t.decodeBad (chUnit 19 3) 64 16 == none && t.decodeBad (chUnit 19 3) 128 16 == none && dLen e == (q t e).esz &&
         (q t e).valid && !(q t e).broken) = true) ∧
     (let e := fun (op : Nat) => descriptor op 0 0 16 64 128 0 5001 0 7 0
      ∀ op, op < 5 → 3 ≤ op → takes run (e op) (fun t => !badDesc (e op) (q t (e op)) && dOp (e op) == op && !(q t (e op)).valid) = true) ∧
     (let two := fun (t : State) (e : List Byte) =>
        let l := t.dmaRead (chUnit 19 3) (dSrcW e) 64 16
        compareAt l.2 (l.1.dmaRead (chUnit 19 3) (dDstW e) 128 16).2
      takes { run with mem := [(140, 1)] } (d 2 16 64 128) (fun t => two t (d 2 16 64 128) == some (12, 1)) = true ∧
      takes run (d 2 16 64 128) (fun t => two t (d 2 16 64 128) == none && placeOf t.regs 64 == .here 64 && !isReg 64) = true ∧
      (let e := descriptor 3 0 0 16 64 0 0 5001 0 0 0
       takes run (d 3 16 64 0) (fun t => (t.qx.enqueue (chUnit 19 3) 5000 (t.busBytes (chUnit 19 3) 64 16)).2 == 0) = true ∧
       takes run e (fun t => (t.qx.enqueue (chUnit 19 3) 5001 (t.busBytes (chUnit 19 3) 64 16)).2 != 0) = true ∧
       takes run (d 4 16 0 64) (fun t => (t.qx.dequeue (chUnit 19 3) 5000).2.1 == 0) = true ∧
       takes (chanIn 1 0 0 0) (d 4 16 0 64) (fun t => (t.qx.dequeue (chUnit 19 3) 5000).2.1 != 0) = true))) ∧
    (let done := fun (s : State) (flags stat next : Nat) (intr : Bool) => onDesc s (descriptor 0 flags 0 16 64 128 stat 0 0 0 next) true intr
     let bad := fun (s : State) (a : Nat) => s.decodeBad (chUnit 19 3) a 16
     (∀ p, p < 3 → let s := done (chanIn 1 p 2 3) 1 256 (64 * p) true
       s.chGoes 19 3 = true ∧ (s.chan 19 3).ran = true ∧ dFlagged (s.chan 19 3).desc = true ∧ bad s 256 = none ∧ Local s 256 ∧ s.span.busy (chUnit 19 3) = false ∧ chPace s.regs 19 3 = p ∧
         dNext (s.chan 19 3).desc = 64 * p ∧ (s.chan 19 3).interrupt = true ∧ (s.queue (chQueue s.regs 19 3)).fill = 3) ∧
     (let s := more (onDesc (chanIn 1 0 0 3) (descriptor 0 0 0 16 0x110000000040 128 0 5000 0 7 0) false false) routes
      s.chGoes 19 3 = true ∧ (match s.takeDesc 19 3 with
        | .desc t e => dOp e == 0 && dLen e == 16 && dSrc e == 0x110000000040 && placeOf t.regs 0x110000000040 == .there 1 2 0x40 &&
            t.decodeBad (chUnit 19 3) 128 16 == none && !t.span.busy (chUnit 19 3)
        | .stopped _ => false) = true) ∧
     (let s := done (chanIn 1 0 2 3) 1 0x3000000000 0 false
      s.chGoes 19 3 = true ∧ (s.chan 19 3).ran = true ∧ bad s 0x3000000000 = some 0x3000000000)) := by
  and_intros <;> decide +kernel
theorem witness_DacLinksScansAndRelays :
    (let p := fun (ch src kind : Nat) => leBytes 4 (ch + 256) ++ leBytes 4 (src + 4 * kind) ++ leBytes 4 0x80000 ++ leBytes 4 0x40000 ++ leBytes 4 16 ++
       leBytes 4 100 ++ leBytes 4 0x1000 ++ leBytes 4 5
     let P := fun (on : Bool) (src ch kind : Nat) (s : State) (c : Cmd) => le c.payload 4 4 % 4 == src && le c.payload 0 4 % 4 == ch &&
       le c.payload 4 4 / 4 % 4 == kind && s.flag Rg.DRM_STATUS Fd.DRM_STATUS_running == on
     askedAt (live (st [])) 0x0504 (p 0 2 0) (P true 2 0 0) = true ∧ askedAt (st []) 0x0504 (p 3 3 0) (P false 3 3 0) = true ∧
     askedAt (st []) 0x0504 (p 2 1 0) (P false 1 2 0) = true ∧ askedAt (st []) 0x0504 (p 0 2 3) (P false 2 0 3) = true ∧
     askedAt (st []) 0x0504 (p 3 0 0) (P false 0 3 0) = true ∧ askedAt (st []) 0x0504 (p 1 1 0) (P false 1 1 0) = true ∧
     askedAt { st [] with boot := { (st []).boot with slotA := ⟨leBytes 64 0, .active⟩ } } 0x0504 (p 0 2 2) (fun s c => P false 2 0 2 s c &&
       dacSource s.regs 0 != 2 && bit (le c.payload 0 4) 8 && decide (s.boot.running.header ≠ [])) = true) ∧
    (let p := fun (l fl mode : Nat) => by1 [l, fl, 5, 0] ++ leBytes 2 1000 ++ by1 [mode, 0] ++ by1 [1, 2, 3, 4, 5, 6, 7, 8]
     let up := st [(Rg.SPN_LINK_CTRL 3, fw Fd.SPN_LINK_CTRL_enable 1)]
     let training := { up with span := { up.span with links := Map.set Link.reset [] 3 { Link.reset with training := true } } }
     let off := fun (s : State) => linksOff s.regs
     askedAt up 0x0601 (p 3 8 1) (fun s c => bit (le c.payload 1 1) 3 && le c.payload 6 1 != b2n (relayMode s.regs) && !off s) = true ∧
     askedAt (st []) 0x0601 (p 3 15 1) (fun s c => bit (le c.payload 1 1) 3 && le c.payload 6 1 != b2n (relayMode s.regs) && off s) = true ∧
     askedAt up 0x0601 (p 3 0 2) (fun _ c => !bit (le c.payload 1 1) 3 && le c.payload 1 1 % 2 == 0) = true ∧
     askedAt (more up [(Rg.SPN_LINK_STATUS 3, fw Fd.SPN_LINK_STATUS_state 1)]) 0x0601 (p 3 5 0) (fun s c => le c.payload 1 1 % 2 == 1 && s.getF (Rg.SPN_LINK_CTRL 3) Fd.SPN_LINK_CTRL_enable != 0 &&
       !bit (le c.payload 1 1) 1 && !(s.span.link 3).training && linkState s.regs 3 != 3) = true ∧
     askedAt (more up [(Rg.SPN_LINK_STATUS 3, fw Fd.SPN_LINK_STATUS_state 3)]) 0x0601 (p 3 1 0) (fun s c => le c.payload 1 1 % 2 == 1 &&
       linkState s.regs 3 == 3 && !(s.span.link 3).training) = true ∧
     askedAt training 0x0601 (p 3 1 0) (fun s c => le c.payload 1 1 % 2 == 1 && s.getF (Rg.SPN_LINK_CTRL 3) Fd.SPN_LINK_CTRL_enable != 0 &&
       (s.span.link 3).training) = true ∧
     askedAt up 0x0601 (p 3 3 0) (fun _ c => le c.payload 1 1 % 2 == 1 && bit (le c.payload 1 1) 1) = true) ∧
    (let relay := st [(Rg.SPN_CTRL, fw Fd.SPN_CTRL_mode 1)]
     let s := ask relay (req 0x0602 [])
     askedAt (st []) 0x0602 [] (fun s _ => !relayMode s.regs) = true ∧
     askedAt relay 0x0602 [] (fun s _ => relayMode s.regs && s.host.cmds.all (fun k => k.dev == 0)) = true ∧
     (let t := { s with host := { s.host with cmds := s.host.cmds ++ [{ req 0x0002 [] with dev := 3, tag := 8 }] } }
      ∃ k ∈ t.host.cmds, k.dev ≠ 0) ∧ relay.host.self.index = 0 ∧
     ({ relay with host := { relay.host with self := ⟨9, 7, 2⟩ } }).host.self.index ≠ 0) ∧
    (let p := by1 [3, 4, 16, 0] ++ leBytes 4 0 ++ leBytes 8 64
     let P := fun (c : Cmd) => decide (le c.payload 0 1 ≤ 3 ∧ le c.payload 1 1 ≤ 4 ∧ 16 ≤ le c.payload 2 1 ∧ le c.payload 2 1 ≤ 31 ∧
       le c.payload 8 8 % 64 = 0)
     let lane := fun (s : State) => s.flag (Rg.SPN_LANE_STATUS 3 4) Fd.SPN_LANE_STATUS_locked
     askedAt (st [(Rg.SPN_LANE_STATUS 3 4, fw Fd.SPN_LANE_STATUS_locked 1)]) 0x0603 p (fun s c => P c && lane s &&
       s.getF (Rg.SPN_SCAN_STATUS 3) Fd.SPN_SCAN_STATUS_state != 1) = true ∧
     askedAt (st []) 0x0603 p (fun s c => P c && !lane s) = true ∧
     askedAt (st [(Rg.SPN_SCAN_STATUS 3, 1)]) 0x0603 p (fun s c => P c && s.getF (Rg.SPN_SCAN_STATUS 3) Fd.SPN_SCAN_STATUS_state == 1) = true) ∧
    (let s := ask (st []) (waiter 0x0602 [])
     (∃ k ∈ s.host.cmds, k.phase = .pending ∧ k.code = 0x0602 ∧ k.dev = 0) ∧
       (relayTree [⟨1, 2⟩, ⟨0, 3⟩, ⟨0, 1⟩]).map RelayNode.dev = [⟨0, 0⟩, ⟨0, 1⟩, ⟨0, 3⟩] ∧
       (relayTree [⟨0, 1⟩, ⟨1, 2⟩]).map (·.path) = [[], [1], [1, 2]]) := by
  refine (by and_intros <;> decide +kernel)

theorem witness_PowerLanternEventsAndRecords :
    (let p := fun (dom tgt d flags : Nat) => by1 [dom, tgt] ++ leBytes 2 d ++ leBytes 4 flags ++ leBytes 8 (0xFFFFC00 + 512) ++ leBytes 4 0x00FF
     let at_ := fun (state flight : Nat) => fw Fd.PWR_DOM_state state ||| fw Fd.PWR_DOM_in_flight flight ||| fw Fd.PWR_DOM_pending 7
     let dom := fun (d state : Nat) => st [(Rg.PWR_DOM d, at_ state 7)]
     let P := fun (s : State) (c : Cmd) => firstBad? (powerChecks c.payload) == none && domFlight s.regs (le c.payload 2 2) == 7
     let dev := fun (state : Nat) => fw Fd.PWR_DEVICE_state state ||| fw Fd.PWR_DEVICE_in_flight 7
     let D := fun (s : State) (c : Cmd) => firstBad? (powerChecks c.payload) == none && devFlight s.regs == 7
     askedAt (dom 19 2) 0x0801 (p 1 2 19 7) (fun s c => P s c && domState s.regs 19 == 2) = true ∧
     askedAt (dom 19 4) 0x0801 (p 1 2 19 7) (fun s c => P s c && domState s.regs 19 == 4 && !s.pwr.exiting.contains 19 &&
       refuserOf s.regs s.cpl 19 2 == none) = true ∧
     askedAt (more (dom 19 4) [(Rg.DMA_CH_STATUS 17 15, 1)]) 0x0801 (p 1 2 19 0) (fun s c => P s c && domState s.regs 19 == 4 &&
       !s.pwr.exiting.contains 19 && refuserOf s.regs s.cpl 19 2 != none) = true ∧
     (∀ tgt, tgt < 3 → askedAt (st [(Rg.PWR_DEVICE, dev tgt)]) 0x0801 (p 0 tgt 0 3) (fun s c => D s c && devState s.regs == tgt) = true) ∧
     askedAt (st [(Rg.PWR_DEVICE, dev 0)]) 0x0801 (p 0 2 0 0) (fun s c => D s c && devState s.regs != 2 && !deviceAllowed s.regs 2) = true ∧
     askedAt (st [(Rg.PWR_DEVICE, dev 1)]) 0x0801 (p 0 0 0 0) (fun s c => D s c && devState s.regs == 1) = true ∧
     askedAt (st [(Rg.PWR_DEVICE, dev 0)]) 0x0801 (p 0 1 0 0) (fun s c => D s c && devState s.regs == 0 && deviceAllowed s.regs 1 &&
       deviceRefuser s.regs s.cpl 1 == none) = true ∧
     askedAt (st [(Rg.PWR_DEVICE, dev 0), (Rg.PWR_DOM 19, at_ 4 7), (Rg.DMA_CH_STATUS 17 15, 1)]) 0x0801 (p 0 1 0 0) (fun s c => D s c &&
       devState s.regs == 0 && deviceAllowed s.regs 1 && deviceRefuser s.regs s.cpl 1 != none) = true ∧
     askedAt (st [(Rg.PWR_DEVICE, dev 1)]) 0x0801 (p 0 2 0 0) (fun s c => D s c && devState s.regs == 1) = true) ∧
    askedAt (st []) 0x0802 [] (fun _ _ => true) = true ∧
    (let p := leBytes 4 1 ++ leBytes 4 4 ++ leBytes 4 0x400000 ++ leBytes 4 0 ++ leBytes 4 (24 + 1024 * 16) ++ leBytes 4 0x30000 ++
       leBytes 4 (0xE0 * 65536 + 0x1010) ++ leBytes 4 256 ++ leBytes 24 0
     askedAt (st []) 0x0901 p (fun _ c => firstBad? (lanternChecks c.payload) == none && c.payload.length == 56) = true ∧
     askedAt (st []) 0x0901 (p ++ leBytes 256 0) (fun _ c => firstBad? (lanternChecks c.payload) == none && c.payload.length == 312) = true) ∧
    (∀ k, k < 3 → askedAt (st []) 0x0A01 (by1 [31, k, 0, 0] ++ leBytes 4 0xFFFFFFFF) (fun _ c => decide (le c.payload 0 1 ≤ 31 ∧
      le c.payload 1 1 ≤ 2)) = true) ∧
    askedAt (st []) 0x0A02 (leBytes 4 10) (fun _ _ => true) = true ∧
    (∀ k, k = 1 ∨ k = 63 → askedAt (st []) 0x0A03 (leBytes 4 0 ++ leBytes 2 k ++ by1 [1, 0] ++ leBytes 4 0) (fun _ c => decide (1 ≤ le c.payload 4 2 ∧
      le c.payload 4 2 ≤ 63 ∧ le c.payload 6 1 ≤ 1)) = true) := by
  refine ⟨(by and_intros <;> decide +kernel), by decide +kernel, by decide +kernel, by decide +kernel, by decide +kernel, ?_⟩
  intro k h; rcases h with rfl | rfl <;> decide +kernel

theorem witness_PairsTakeOverAndTheEndpointResets :
    (paired.boot.pair (1 - activePair paired.regs) = .standby ∧ alone.boot.pair (1 - activePair alone.regs) ≠ .standby ∧
      paired.boot.probation = false ∧
      (let s := { paired with boot := { paired.boot with probation := true } }
       s.boot.probation = true ∧ s.boot.pair (1 - activePair s.regs) = .standby) ∧ (0 : Fin 2).val = activePair paired.regs ∧ (1 : Fin 2).val ≠ activePair paired.regs) ∧
    (let s := st [(Rg.PCE_MBX_GLOBAL, fw Fd.PCE_MBX_GLOBAL_takeover 1)]
     s.flag Rg.PCE_MBX_GLOBAL Fd.PCE_MBX_GLOBAL_takeover = true ∧ (st []).flag Rg.PCE_MBX_GLOBAL Fd.PCE_MBX_GLOBAL_takeover = false ∧
       s.host.ring.enabled = false ∧ s.host.backlog.length + s.host.deferred.length ≤ 4096) ∧
    (let s := { paired with boot := { paired.boot with pair1 := .recovering } }
     let t := { s with boot := { s.boot with failures := [(1, 0), (1, 0)] } }
     let often := fun (s : State) => 2 ≤ (s.boot.failures.filter (fun e => e.1 == 1 && decide (s.now ≤ e.2 + dayUnits))).length
     s.boot.pair 1 = .recovering ∧ ¬ often s ∧ t.boot.pair 1 = .recovering ∧ often t ∧ s.boot.pair 0 ≠ .recovering) ∧
    0xFFFFFFFFC + 4 ≤ 0x1000000000 ∧
    (let s := st [(Rg.BOOT_STATE, 8)]
     bootStage (st [(Rg.BOOT_STATE, 15)]).regs = 15 ∧ bootStage s.regs = 8 ∧ s.getF Rg.PCE_MBX_GLOBAL Fd.PCE_MBX_GLOBAL_takeover = 0 ∧ bootStage (st []).regs ≠ 8 ∧ bootStage (st []).regs ≠ 15) := by decide +kernel

/-- Port 0 is up, a flow 9 of carrier 3 runs over it in a direction, and Drum handles its first tick. -/
def onAir (dir : Nat) : State :=
  let s := withCarrier []
  let p := splice (carrierReq 3) 6 (leBytes 2 2)
  { more s [(Rg.DRM_STATUS, fw Fd.DRM_STATUS_running 1), (Rg.ETH_PORT_CTRL 0, fw Fd.ETH_PORT_CTRL_enable 1 ||| fw Fd.ETH_PORT_CTRL_mtu 9000),
      (Rg.ETH_PORT_STATUS 0, fw Fd.ETH_PORT_STATUS_link_up 1)] with
    eth := { s.eth with flows := [⟨9, 0, dir, 3, 1, 9, 0, 0, 0⟩] }
    ppt := { s.ppt with carriers := Map.set none [] 3 (some ⟨p, 100, 101, 3, []⟩) }
    drum := { s.drum with last := some ⟨0, true, true, 0, 0, 0, 0⟩ } }

/-- The same with the ingress item of the present symbol, which has announced blocks 0 and 1, the second of them written. -/
def receiving : State :=
  let s := onAir 0
  { s with
    drum := { s.drum with items := [{ item .ingress with carrier := 3, issue := refShift s.nowRef (s.plan 3 (s.ppt.carPayload 3)).r }] }
    eth := { s.eth with blocks := [⟨1, 1, 0, false, false⟩, ⟨1, 1, 1, true, false⟩] } }

/-- The same with a released egress item. -/
def sendingNow : State :=
  let s := onAir 1
  { s with drum := { s.drum with items := [{ item .egress with carrier := 3, phase := .released }] } }

theorem witness_FramesAndSymbolsCrossThePorts :
    (portUp receiving.regs 0 = true ∧ portUp (st []).regs 32 = false ∧
      (let up := more receiving [(Rg.ETH_PORT_CTRL 32, fw Fd.ETH_PORT_CTRL_enable 1), (Rg.ETH_PORT_STATUS 32, fw Fd.ETH_PORT_STATUS_link_up 1)]
       portUp up.regs 32 = true) ∧
      Map.get 0 receiving.eth.mgmtRx 0 = 0 ∧ Map.get 0 (Map.set 0 receiving.eth.mgmtRx 0 5000) 0 ≠ 0 ∧
      receiving.eth.flows.find? (fun e => e.port == 0 && e.eaxc == 8 && e.dir == 0) = none ∧
      ∃ e ∈ receiving.eth.flows, receiving.eth.flows.find? (fun e => e.port == 0 && e.eaxc == 9 && e.dir == 0) = some e) ∧
    (let s := receiving
     let p := s.plan 3 (s.ppt.carPayload 3)
     let late := fun (ref : Word) => refFrom s.nowRef (refShift ref (p.ingress 0).edge)
     let early := fun (ref : Word) => refAfter ref s.nowRef
     let item := fun (ref : Word) => ((s.drum.items.find? (fun i => i.work == .ingress && i.carrier == 3 && i.issue == refShift ref p.r)).map
       (·.id)).getD 0
     early (refPlus s.nowRef 1) = true ∧ early s.nowRef = false ∧ late (refMinus s.nowRef 280) = true ∧ late s.nowRef = false ∧
       item s.nowRef = 1 ∧ item (refMinus s.nowRef 280) = 0 ∧ (s.eth.blocks.find? (isBlk 1 1 2)).isNone = true ∧
       (s.eth.blocks.find? (isBlk 1 1 0)).map (·.written) = some false ∧ (s.eth.blocks.find? (isBlk 1 1 1)).map (·.written) = some true) ∧
    (let s := st [(Rg.ETH_SYNCE_CTRL, fw (synceEnable 1) 1)]
     s.getF Rg.ETH_SYNCE_CTRL (synceEnable 1) = 1 ∧ s.getF Rg.ETH_SYNCE_CTRL (synceEnable 0) ≠ 1) ∧
    (receiving.getF (Rg.ETH_PORT_CTRL 0) Fd.ETH_PORT_CTRL_enable = 1 ∧ (st []).getF (Rg.ETH_PORT_CTRL 32) Fd.ETH_PORT_CTRL_enable ≠ 1 ∧
      receiving.getF (Rg.ETH_PORT_STATUS 0) Fd.ETH_PORT_STATUS_link_up = b2n true) ∧
    (let s := sendingNow
     let i := { item .egress with carrier := 3, phase := .released }
     let x := s.sending i
     s.drum.item 1 = some i ∧ i.work = .egress ∧ i.phase = .released ∧ x.late = false ∧ x.ssb = false ∧
       s.eth.flows.filter (fun f => f.carrier == i.carrier && f.dir == 1 && portUp s.regs f.port) = s.eth.flows ∧ s.eth.flows.length = 1 ∧
       carPrb x.payload = 2 ∧ 2 ≤ (s.getF (Rg.ETH_PORT_CTRL 0) Fd.ETH_PORT_CTRL_mtu - 18) / prbBytes 9 ∧
       (({ s with drum := s.drum.setUnit 8 ⟨0, true, none, true⟩ }).sending i).late = true ∧
       (onAir 0).eth.flows.filter (fun f => f.carrier == i.carrier && f.dir == 1 && portUp (onAir 0).regs f.port) = []) ∧
    receiving.drum.item 1 ≠ none ∧ (∀ i, receiving.drum.item 9 = some i → i.work ≠ .egress) := by
  rw [← and_assoc, ← and_assoc, ← and_assoc, ← and_assoc, ← and_assoc]
  refine ⟨by decide +kernel, ?_⟩
  have : receiving.drum.item 9 = none := by decide +kernel
  simp [this]
/-- A machine out of reset at a stage of its start-up. -/
def booting (k : Nat) (short : Bool) (hd : List Byte) (straps : Word) : State :=
  let s := st [(Rg.BOOT_STATE, BitVec.ofNat 32 k), (Rg.BOOT_STRAPS, straps)]
  { s with boot := { s.boot with
      inReset := false
      tripHold := false
      short := short
      runsB := false
      slotA := ⟨hd, .active⟩ } }

theorem witness_ResetsLeaveWhatTheyShould :
    (booting 0 false [] 0).boot.inReset = false ∧
      ({ st [] with boot := { (st []).boot with inReset := true } }).boot.inReset = true ∧ clearInForce (st []).regs = false := by decide +kernel

theorem witness_StartUpRunsItsStages :
    (∀ k, k < 10 → ∀ sh, let s := booting k sh (leBytes 64 0) 0
      s.boot.inReset = false ∧ s.boot.tripHold = false ∧ bootStage s.regs = k ∧ s.boot.short = sh ∧ s.boot.running.header ≠ []) ∧
    (∀ b, b < 2 → let s := booting 1 false [] (fw Fd.BOOT_STRAPS_boot_src b)
      s.getF Rg.BOOT_STRAPS Fd.BOOT_STRAPS_boot_src = b) ∧
    (let good : StageEnd := ⟨none, none, false, 0xFF⟩
     let bad : StageEnd := ⟨some 1, none, false, 0⟩
     good.failed = none ∧ bad.failed = some 1 ∧ ((List.range 18).filter (fun c => good.passed.getLsbD c)).length = 8 ∧
       ((List.range 18).filter (fun c => bad.passed.getLsbD c)).length < 8) := by decide +kernel

theorem witness_FunctionsResetAndThermalTrips :
    (let v := fun (x : Nat) => fw Fd.BOOT_FUNC_RESET_unit x ||| fw Fd.BOOT_FUNC_RESET_hold_off 1
     (∀ x, x ∈ [1, 2, 5, 0x5240, 0x52A0, 0xA000, 0xA020] → resettable (Fd.BOOT_FUNC_RESET_unit.get (v x)) = true) ∧
       resettable (Fd.BOOT_FUNC_RESET_unit.get (v 0xA021)) = false ∧ 0x52A0 = 0x5000 + 32 * 21 ∧
       (st []).boot.resetUnits.contains 1 = false ∧
       (({ st [] with boot := { (st []).boot with resetUnits := [1] } }).boot.resetUnits.contains 1 = true) ∧ (st []).boot.holdOff = []) ∧
    (let hot : Sensor := ⟨63, 118 * 256, true⟩
     let t := (st []).thm
     let bad := (List.range 17).map (fun i => (⟨Fin.ofNat 64 i, 0, false⟩ : Sensor))
     hot.valid = true ∧ 110 * 256 ≤ hot.temp ∧ ({ hot with temp := 110 * 256 - 1 }).temp < 110 * 256 ∧
       (∃ e ∈ (t.read [hot]).sensors, e.2.valid = true ∧ 118 * 256 ≤ e.2.temp) ∧
       16 < ((t.read bad).sensors.filter (fun e => !e.2.valid)).length ∧
       ((t.read (bad.take 16)).sensors.filter (fun e => !e.2.valid)).length ≤ 16 ∧
       (∀ e ∈ (t.read [{ hot with temp := 100 * 256 - 1 }]).sensors, e.2.valid = true → e.2.temp < 100 * 256) ∧
       ¬ (∀ e ∈ (t.read [{ hot with temp := 100 * 256 }]).sensors, e.2.valid = true → e.2.temp < 100 * 256) ∧
       ({ st [] with boot := { (st []).boot with tripHold := true } }).boot.tripHold = true) := by decide +kernel

/-- A command descriptor of an engine from its fields: offset, bytes, value. -/
def engDesc (l : List (Nat × Nat × Nat)) : List Byte := l.foldl (fun d e => splice d e.1 (leBytes e.2.1 e.2.2)) (leBytes 96 0)

/-- The reset state with a command of cluster 17's engine `e` under tag 5. -/
def engined (e : Nat) (d : List Byte) : State :=
  let p := ({ Cupola.reset with tags := [(5, { Tag.reset with state := .committed, eng := e, desc := d })] }).setQueue e [5]
  { st [] with cpl := Map.set Cupola.reset [] 17 p }

/-- A matrix command of operation `op`, every dimension 1. -/
def matrixDesc (op : Nat) : List Byte :=
  engDesc [(0, 1, op), (16, 8, 64), (24, 8, 128), (40, 8, 256), (68, 1, 1), (69, 1, 1), (70, 1, if op = 2 then 1 else 0), (74, 2, 1),
    (76, 2, 1)]

/-- The hypotheses of the statements about the engines that say whether an operand has to come from another device. -/
theorem witness_engines_wait_for_other_devices :
    (let got := fun (s : State) => let v := s.engineFresh 17 0 5
       (v.matrix (0x3000 + 51) ((s.cup 17).overlap.contains 5) ((s.cup 17).tag 5).desc).1.span.outstanding (0x3000 + 51)
     let far := fun (d : List Byte) => splice d 16 (leBytes 8 0x110000000040 ++ leBytes 8 0x110000000040)
     (∀ op, op < 7 → got (engined 0 (matrixDesc op)) = false) ∧
       (∀ op, op < 6 → 1 ≤ op → got (more (engined 0 (far (matrixDesc op))) routes) = true)) := by
  decide +kernel

theorem witness_MatrixCommandsAreComputed :
    (∀ op, op < 7 → ((engined 0 (matrixDesc op)).cup 17).next 0 = some 5 ∧ ((engined 0 (matrixDesc op)).cup 17).busy 0 = false ∧
      le (matrixDesc op) 0 1 = op) ∧
    (∀ op, op < 6 → 1 ≤ op → firstCheck (matrixChecks (matrixDesc op)) = none ∧
      firstCheck (matrixChecks (splice (matrixDesc op) 69 (by1 [65]))) = some (true, 69, 0x13)) ∧
    firstCheck (matrixChecks (matrixDesc 6)) = some (true, 0, 0x10) ∧ firstCheck (matrixChecks (matrixDesc 0)) = some (true, 0, 0x10) ∧
    (let s := engined 0 (matrixDesc 1)
     let v := s.engineFresh 17 0 5
     let x := v.busBytes (0x3000 + 51) 64 4
     anyP x = false ∧ anyP ((v.busRead (0x3000 + 51) 64 4).busBytes (0x3000 + 51) 128 4) = false ∧ bit (le (matrixDesc 1) 73 1) 1 = false ∧
       le (matrixDesc 1) 73 1 / 16 = 0 ∧ le (matrixDesc 1) 71 1 = 0 ∧ le (matrixDesc 1) 72 1 = 0) := by
  refine (by and_intros <;> decide +kernel)

/-- A decoder command and an encoder command of an operation. -/
def decDesc (op : Nat) : List Byte :=
  engDesc [(0, 1, op), (16, 8, 64), (48, 2, if op = 1 then 208 else 0), (50, 1, if op = 1 then 2 else 0), (51, 1, 0x20), (52, 1, 4), (54, 1, 32), (55, 1, 32), (56, 1, 8)]
def encDesc (op : Nat) : List Byte :=
  engDesc [(0, 1, op), (16, 8, 64), (24, 8, 4096), (32, 4, 64), (36, 4, 128), (40, 2, if op = 1 then 384 else 0),
    (42, 1, if op = 1 then 1 else 0), (43, 1, 0x80), (44, 1, 8), (45, 1, 1), (50, 1, 8)]

theorem witness_ChannelCodingIsComputed :
    (∀ op, op < 4 → ((engined 1 (decDesc op)).cup 17).next 1 = some 5 ∧ ((engined 1 (decDesc op)).cup 17).busy 1 = false ∧
      (firstCheck (decoderChecks (decDesc op)) = none ↔ op = 1 ∨ op = 2)) ∧
    (∀ op, op < 3 → 1 ≤ op → firstCheck (decoderChecks (splice (decDesc op) 55 (by1 [31]))) = some (true, 55, 0x11)) ∧
    (∀ op, op < 7 → ((engined 2 (encDesc op)).cup 17).next 2 = some 5 ∧ ((engined 2 (encDesc op)).cup 17).busy 2 = false ∧
      (firstCheck (encoderChecks (encDesc op)) = none ↔ 1 ≤ op ∧ op ≤ 5)) ∧
    (∀ op, op < 6 → 1 ≤ op → firstCheck (encoderChecks (splice (encDesc op) 24 (by1 [1]))) = some (true, 24, 0x12)) ∧
    (let s := engined 2 (encDesc 1)
     let t := { s with mec := { s.mec with poison := [wordOf s.regs 64] } }
     anyP ((s.engineFresh 17 2 5).busBytes (0x3000 + 53) 64 8) = false ∧ anyP ((t.engineFresh 17 2 5).busBytes (0x3000 + 53) 64 8) = true) ∧
    (let far := fun (d : List Byte) => splice d 16 (leBytes 8 0x110000000040)
     let dec := fun (s : State) => ((s.engineFresh 17 1 5).decoder 17 ((s.cup 17).tag 5).desc).1.span.outstanding (0x3000 + 52)
     let enc := fun (s : State) => ((s.engineFresh 17 2 5).encoder 17 ((s.cup 17).tag 5).desc).1.span.outstanding (0x3000 + 53)
     (∀ op ∈ [0, 3], dec (engined 1 (decDesc op)) = false) ∧ enc (engined 2 (encDesc 0)) = false ∧
       enc (engined 2 (encDesc 3)) = false ∧ enc (more (engined 2 (far (encDesc 1))) routes) = true) := by
  refine (by and_intros <;> decide +kernel)

/-- R142, R148, R154, the worked example of a paired camera block: its blocks, and what its two halves reserve. -/
theorem test_camera_block :
    (let d := engDesc [(0, 1, 1), (40, 4, 218376), (44, 4, 235872), (48, 2, 384), (50, 1, 1), (51, 1, 0x60), (52, 1, 1)]
     decBlocks d = List.replicate 25 ⟨8448, 8400, 24, 9072⟩ ++ [⟨8448, 8376, 24, 9072⟩] ∧ reserveCycles 2 d 0 8 = 11056 ∧
       reserveCycles 2 d 0 12 = 16568) := by decide +kernel

/-- R136: the factor of a positive matrix, in units of 2^-40, and a column solved with it. -/
theorem test_factor :
    (let r := fun (n : Int) => (⟨⟨n, 1⟩, ⟨0, 1⟩⟩ : Cplx)
     let rows := [[r 4], [r 12, r 37], [r (-16), r (-43), r 98]].foldl (fun rs a => rs ++ [factorRow rs a [] ⟨0, 1⟩]) []
     let l := fun (i j : Nat) => r (nth 0 (nth [] [[2], [6, 1], [-8, 5, 3]] i) j)
     (FactorRow.entries (rows.take 2) (nth ⟨[], [], ⟨0, 1⟩, []⟩ rows 2)) = [(-8 * 2 ^ 40, 0), (5 * 2 ^ 40, 0), (3 * 2 ^ 40, 0)] ∧
       substitute 3 l (fun i => r (nth 0 [4, 12, -16] i)) = [r 1, r 0, r 0]) := by decide +kernel

/-- Tag 5 of cluster 17, owned by core 7, in a state of its own and with `n` late errors in its owner's queue. -/
def tagged (g : Tag) (n : Nat) : State :=
  { st [] with cpl := Map.set Cupola.reset [] 17 { Cupola.reset with tags := [(5, g)], lates := [(7, List.replicate n ⟨5, 0, 1, 0, 0⟩)] } }

theorem witness_EngineResultsAndLateErrors :
    (let r : EngResult := ⟨[⟨4096, clean (leBytes 4 1)⟩], 0, 40, 0, leBytes 16 0, [(2, 64)], none⟩
     let g := { Tag.reset with state := .committed, owner := 7, desc := engDesc [(3, 1, 2)], result := some r }
     let s := tagged g 0
     let t := { s with regs := putRole s.regs 17 3 }
     (s.cup 17).tag (5 : Fin 256) = g ∧ r.claim = none ∧ g.reply = none ∧ bit (le g.desc 3 1) 0 = false ∧ bit (le g.desc 3 1) 1 = true ∧
       g.owner < 8 ∧ role s.regs 17 ≠ 3 ∧ role t.regs 17 = 3 ∧ s.decodeBad (0x3000 + 51) 4096 4 = none ∧
       s.decodeBad (0x3000 + 51) 0x3000000000 4 = some 0x3000000000 ∧ Local s 4096 ∧ s.engStale 17 g = false) ∧
    (let r : EngResult := ⟨[], 0, 40, 0, leBytes 16 0, [], none⟩
     let g := { Tag.reset with state := .committed, owner := 7, desc := engDesc [(3, 1, 1), (12, 4, 0x7FFFE0)], result := some r }
     ((tagged g 0).cup 17).tag (5 : Fin 256) = g ∧ r.writes = [] ∧ r.claim = none ∧ g.reply = none ∧ bit (le g.desc 3 1) 0 = true ∧
       le g.desc 12 4 + 32 ≤ 0x800000 ∧ role (tagged g 0).regs 17 ≠ 3) ∧
    (let r : EngResult := ⟨[⟨0x110000000040, clean (leBytes 4 1)⟩], 0, 40, 0, leBytes 16 0, [], none⟩
     let g := { Tag.reset with state := .committed, owner := 7, desc := engDesc [], result := some r }
     let s := more (tagged g 0) routes
     (s.cup 17).tag (5 : Fin 256) = g ∧ bit (le g.desc 3 1) 0 = false ∧ g.eng ≠ 1 ∧ s.engStale 17 g = false ∧
       placeOf s.regs 0x110000000040 = .there 1 2 0x40) ∧
    (let s := tagged { Tag.reset with state := .returned, owner := 7 } 0
     let t := { s with span := { s.span with reqs := [⟨1, 0x3000 + 51, 0x40, 4, true, 2, 1, false, [], some 5⟩] } }
     s.span.owes (0x3000 + 51) 5 = false ∧ t.span.owes (0x3000 + 51) 5 = true) ∧
    (let g := { Tag.reset with state := .returned, owner := 7, late := [(1, 64)] }
     let h := { Tag.reset with state := .returned, owner := 7 }
     ((tagged g 15).cup 17).tag 5 = g ∧ (((tagged g 15).cup 17).late 7).length < 16 ∧ 16 ≤ (((tagged g 16).cup 17).late 7).length ∧
       ((tagged h 0).cup 17).tag 5 = h ∧ h.late = [] ∧ h.result = none) ∧
    (Fd.CPL_LATE_POP_pop.get 1 = 1 ∧ Fd.CPL_LATE_POP_pop.get 0 ≠ 1 ∧ (((tagged Tag.reset 1).cup 17).late 7).tail = []) := by
  and_intros <;> decide +kernel

/-- Core 143 runs, in this state of its own; its cluster is On. -/
def coreIn (c : Core) (l : List (Nat × Word)) : State :=
  { st ((Rg.ZCR_CTRL 143, fw Fd.ZCR_CTRL_run 1) :: (Rg.PWR_DOM 19, fw Fd.PWR_DOM_state 4 ||| fw Fd.PWR_DOM_in_flight 7 |||
    fw Fd.PWR_DOM_pending 7) :: l) with cores := [(143, c)] }

/-- An instruction of core 143. -/
def here143 : Ins := ⟨143, false⟩

/-- A core with G1 = 2, G2 = 3, the address register A4 with S4, W4 and O4, and ACC2. -/
def core0 : Core := { Core.reset with
  g := [(1, ⟨2, false⟩), (2, ⟨3, false⟩)]
  a := [(4, ⟨0x100, false⟩)]
  acc := [(2, ⟨0xFFFFFFFFFFFFFFFFFF, false⟩)] }

theorem witness_CoresCompute :
    (let s := coreIn core0 []
     s.issues 143 = true ∧ here143.illegal = false ∧ atLoopEnd (loopsOf s.regs 143) (s.core 143).pc = false ∧ s.span.busy (coreAgent 143) = false) ∧
    ((core0.reg .g 1).p = false ∧ (core0.reg .g 2).p = false ∧ (core0.gimm (.imm 7)).p = false ∧ (core0.accu 2).p = false ∧
      (core0.accu 3).p = false ∧ core0.sb.length < 8) ∧
    (∀ m, m < 2 → ∃ new, core0.ea ⟨4, Fin.ofNat 8 m, 0⟩ 4 4 = .at 0x100 new) ∧ coreTarget (coreIn core0 []).regs 143 0x100 = .tile 0x100 ∧
    (31 < fileSize .g ∧ 15 < fileSize .a ∧ 15 < fileSize .o ∧ activeLoopReg (coreIn core0 []).regs 143 0x20 = false ∧ 0xFFC % 4 = 0 ∧
      (findReg (Rg.ZCR_FAR0_BASE 143)).isSome = true) := by
  refine ⟨by decide +kernel, by decide +kernel, ?_, by decide +kernel, by decide +kernel⟩
  intro m hm
  match m, hm with
  | 0, _ => exact ⟨_, rfl⟩
  | 1, _ => exact ⟨_, rfl⟩
theorem witness_CoresReachMemory :
    (let s := more (coreIn core0 []) [(Rg.PWR_DOM (segDomain ((sharedBase 17 - sramBase) / 0x800000)), fw Fd.PWR_DOM_state 4)]
     let may := fun (ea : Word) (e : Nat) => ea.toNat % e = 0 ∧ s.coreBad 143 ea.toNat e = none ∧ Near s 143 ea.toNat e
     (∀ z, z < 4 → may 0x100 (2 ^ z) ∧ regOk .g (Fin.ofNat 4 z) 2 = true) ∧ may 0x1000000 8 ∧ may 0x100 64 ∧ s.mec.merges = [] ∧
       coreTarget s.regs 143 0x1000000 = .dev (sharedBase 17) ∧ placeOf s.regs (sharedBase 17) = .here (sharedBase 17) ∧
       isReg (sharedBase 17) = false ∧
       coreTarget s.regs 143 0x100 = .tile 0x100 ∧ core0.ea ⟨4, 0, 1⟩ 4 4 = .at 0x104 0x100 ∧ core0.ea ⟨4, 1, 1⟩ 4 4 = .at 0x100 0x104 ∧
       core0.ea ⟨4, 1, -1⟩ 2 2 = .at 0x100 0xFE ∧ core0.reg .a 4 = ⟨0x100, false⟩ ∧ (0x100 : Word).toNat % 64 = 0 ∧
       anyP ((s.tickCore 143).coreBytes 143 0x100 64) = false ∧ le (vals ((s.tickCore 143).coreBytes 143 0x100 64)) 0 4 % 8 ≤ 4 ∧
       atLoopEnd (loopsFrom (vals ((s.tickCore 143).coreBytes 143 0x100 64))) core0.pc = false) ∧
    (let e : SbEntry := ⟨0x100, clean (leBytes 4 7)⟩
     let s := coreIn { core0 with sb := [e] } []
     let a := tileAddr 143 e.addr.toNat
     (s.core 143).sb = [e] ∧ a + e.bytes.length ≤ wordOf s.regs a + wordSize s.regs a ∧ s.mec.merges = [] ∧
       inInit s.regs (wordOf s.regs a) = false ∧ (∀ i, i < 4 → accessible s.regs (coreAgent 143) (a + i) = true) ∧
       (coreIn core0 []).core 143 = core0 ∧ core0.sb = []) ∧
    (let s := coreIn core0 []
     let t := { s with span := { s.span with reqs := [⟨1, coreAgent 143, 0x40, 4, false, 2, 1, true, [], none⟩] } }
     core0.issuing = [] ∧ coreRuns t.regs 143 = true ∧ t.span.busy (coreAgent 143) = true ∧ t.span.outstanding (coreAgent 143) = true ∧
       t.issues 143 = true) := by
  and_intros <;> decide +kernel

/-- Core 143 in a loop of `depth` levels, all with the body 0x40 to 0x60 and a count. -/
def looping (depth count : Nat) (pc : Word) : State :=
  coreIn { core0 with pc := pc } ((Rg.ZCR_LOOP_DEPTH 143, fw Fd.ZCR_LOOP_DEPTH_depth depth) ::
    (List.range depth).flatMap (fun n => [(Rg.ZCR_LOOP_START 143 n, 0x40), (Rg.ZCR_LOOP_END 143 n, 0x60),
      (Rg.ZCR_LOOP_COUNT 143 n, BitVec.ofNat 32 count)]))

theorem witness_CoresGoOn :
    (let s := looping 3 5 0x50
     s.issues 143 = true ∧ atLoopEnd (loopsOf s.regs 143) (s.core 143).pc = false ∧ s.span.busy (coreAgent 143) = false ∧ (loopsOf s.regs 143).depth = 3 ∧
       flagF s.regs 143 = false ∧ flagF (more s [(Rg.ZCR_STATUS 143, fw Fd.ZCR_STATUS_f 1)]).regs 143 = true ∧
       (core0.gimm (.imm 0)).p = false ∧ 0 < (0xFFFFFF : Word).toNat ∧ (0xFFFFFF : Word).toNat < 2 ^ 24 ∧ (0x80 : Word) ≠ (s.core 143).pc) ∧
    (∀ n, n = 1 ∨ n = 0xFFFFFF → let s := looping 1 n 0x60
      let l := loopsOf s.regs 143
      s.issues 143 = true ∧ l.depth = 1 ∧ nth 0 l.last 0 = (s.core 143).pc ∧ (nth 0 l.count 0).toNat = n) ∧
    (let s := looping 4 1 0x60
     nth 0 (loopsOf s.regs 143).last 2 = (s.core 143).pc ∧ (loopsOf s.regs 143).depth = 4) := by
  refine ⟨by decide +kernel, ?_, by decide +kernel⟩
  intro n h; rcases h with rfl | rfl <;> decide +kernel

theorem witness_ExceptionsAndInterruptsAreTaken :
    ((coreIn core0 []).issues 143 = true ∧ ({ here143 with illegal := true }).illegal = true ∧
      atLoopEnd (loopsOf (looping 1 1 0x60).regs 143) ((looping 1 1 0x60).core 143).pc = true ∧ 2 < (3 : Fin 16).val ∧
      (loopsOf (looping 4 1 0x50).regs 143).depth = 4) ∧
    (regOk .g 2 1 = true ∧ core0.ea ⟨4, 6, 0⟩ 4 4 = .bad 1 ∧ ({ core0 with a := [(4, ⟨0, true⟩)] }).ea ⟨4, 0, 0⟩ 4 4 = .bad 4 ∧
      core0.ea ⟨4, 5, 0⟩ 4 4 = .bad 6 ∧ core0.ea ⟨4, 0, 1⟩ 4 2 = .at 0x102 0x100 ∧ (0x102 : Word).toNat % 2 ^ 2 ≠ 0 ∧
      (coreIn core0 []).coreBad 143 0x80000 4 = some 0x80000 ∧ ({ core0 with g := [(2, ⟨0, true⟩)] }.reg .g 2).p = true) ∧
    (let s := fun (lvl pend en st : Word) => coreIn core0 [(Rg.ZCR_INT_LEVEL 143, lvl), (Rg.ZCR_INT_PENDING 143, pend),
       (Rg.ZCR_INT_ENABLE 143, en), (Rg.ZCR_STATUS 143, fw Fd.ZCR_STATUS_level st.toNat)]
     let ready := fun (s : State) => s.rd (Rg.ZCR_INT_PENDING 143) &&& s.rd (Rg.ZCR_INT_ENABLE 143)
     let hi := fun (s : State) => ready s &&& s.rd (Rg.ZCR_INT_LEVEL 143)
     let lo := fun (s : State) => ready s &&& ~~~ s.rd (Rg.ZCR_INT_LEVEL 143)
     let lowest := fun (w : Word) (i : Nat) => w.getLsbD i = true ∧ ∀ j, j < i → w.getLsbD j = false
     lowest (hi (s 0x80000000 0x80000000 0x80000000 1)) 31 ∧ lowest (hi (s 3 3 3 0)) 0 ∧ coreRuns (s 3 3 3 0).regs 143 = true ∧
       coreLevel (s 0 0 0 1).regs 143 = 1 ∧ coreLevel (s 0 0 0 2).regs 143 = 2 ∧ lowest (lo (s 0 0x80000000 0x80000000 0)) 31 ∧
       hi (s 0 0x80000000 0x80000000 0) = 0 ∧ coreLevel (s 0 0 0 0).regs 143 = 0 ∧ lo (s 1 1 1 0) = 0) ∧
    (Fd.ZCR_CTRL_run.get 1 = 1 ∧ Fd.ZCR_CTRL_run.get 0 = 0 ∧ coreRuns (st []).regs 143 = false) := by
  refine (by and_intros <;> decide +kernel)

theorem witness_VectorsStripMine :
    (∀ z : Fin 4, z.val < 3 → ∃ n, n = 64 / 2 ^ z.val ∧ 16 ≤ n) ∧
    (let s := coreIn core0 []
     s.issues 143 = true ∧ here143.illegal = false ∧ atLoopEnd (loopsOf s.regs 143) (s.core 143).pc = false ∧ s.span.busy (coreAgent 143) = false ∧ (core0.reg .g 1).p = false ∧
       (core0.reg .g 2).p = false) := by
  refine ⟨fun z _ => ⟨_, rfl, ?_⟩, by decide +kernel⟩
  revert z; decide
/-- A core with poison in element 15 (of 4 bytes) of V2, and P1 to P3 active in elements 0 and 1, in element 15 alone, in none. -/
def vcore : Core := { core0 with
  v := [(2, ⟨0, 1 <<< 60⟩)]
  pd := [(1, 3), (2, 1 <<< 15)] }

theorem witness_VectorsCompute :
    (∀ z, z < 3 → ∀ i, i < 64 / 2 ^ z → (core0.vec 2).bad (2 ^ z) i = false) ∧
    ((coreIn vcore []).issues 143 = true ∧ (vcore.pred 2).getLsbD 15 = true ∧ (vcore.vec 2).bad 4 15 = true ∧
      (∀ j, j < 15 → (vcore.pred 2).getLsbD j = true → (vcore.vec 2).bad 4 j = false ∧ (vcore.vec 3).bad 4 j = false) ∧
      coreLevel (coreIn vcore []).regs 143 = 0) ∧
    ((∀ i, i < 16 → (vcore.pred 1).getLsbD i = true → (vcore.vec 2).bad 4 i = false ∧ (vcore.vec 3).bad 4 i = false) ∧
      (core0.gimm (.imm 15)).p = false ∧ (core0.gimm (.imm 15)).v.toNat < 16 ∧ (core0.vec 2).bad 4 15 = false ∧
      (core0.reg .g 1).p = false ∧ 31 < 8 * 2 ^ 2 ∧ 7 < 8 * 2 ^ 0) ∧
    ((vcore.gimm (.imm 15)).p = false ∧ (vcore.gimm (.imm 15)).v.toNat = 15 ∧ (vcore.pred 2).getLsbD 15 = true ∧ (vcore.vec 3).bad 4 15 = false ∧
      (vcore.vec 2).bad 4 15 = true ∧ (vcore.pred 1).getLsbD 15 = false ∧ vcore.issuing = []) := by
  refine ⟨by decide +kernel, by decide +kernel, by decide +kernel, by decide +kernel⟩

/-- No region is being initialised: none is busy. -/
theorem inInit_reset (l : List (Nat × Word)) (h : ∀ n, n < 64 → getR (st l).regs (Rg.MEC_REGION_CTRL n) Fd.MEC_REGION_CTRL_busy = 0) (a : Nat) :
    inInit (st l).regs a = false := by
  unfold inInit
  rw [List.any_eq_false]
  intro n hn
  have hb := h n (List.mem_range.mp hn)
  intro hx
  simp only [hb, Bool.and_eq_true] at hx
  exact absurd hx.1.1 (by decide)

/-- The registers of `coreIn` with VSTART at this value. -/
def vregs (vstart : Word) : List (Nat × Word) := [(Rg.ZCR_VSTART 143, vstart)]

/-- A core whose A4 holds `a`, with V1 as indices: element 1 is `e1`, the others 0. -/
def vat (a : Word) (e1 : Nat) : Core := { vcore with
  a := [(4, ⟨a, false⟩)]
  v := [(1, ⟨BitVec.ofNat 512 (e1 * 2 ^ 32), 0⟩)] }

theorem witness_VectorsReachMemory :
    (let s := coreIn (vat 0x100 0) (vregs 0)
     let fine := fun (w : Nat) (ea : Word) => ea.toNat % w = 0 ∧ s.coreBad 143 ea.toNat w = none ∧ Near s 143 ea.toNat w
     s.issues 143 = true ∧ s.mec.merges = [] ∧ s.mec.poison = [] ∧ s.mec.upset = [] ∧ 3 ≤ clusterState s.regs 17 ∧ (vat 0x100 0).sb = [] ∧
       (vat 0x100 0).ea ⟨4, 1, 1⟩ 4 64 = .at 0x100 0x140 ∧ s.getF (Rg.ZCR_VSTART 143) Fd.ZCR_VSTART_vstart = 0 ∧
       (∀ i, i < 16 → fine 4 (0x100 + BitVec.ofNat 32 (i * 4)) ∧ (0x100 + BitVec.ofNat 32 (i * 4) : Word).toNat + 4 ≤ 0x80000) ∧
       (vat 0x100 0).ea ⟨4, 1, 1⟩ 8 8 = .at 0x100 0x108 ∧ fine 8 0x100 ∧ anyP ((s.tickCore 143).coreBytes 143 0x100 8) = false ∧
       (vat 0x100 0).reg .a 4 = ⟨0x100, false⟩ ∧ s.coreBad 143 0x100 72 = none ∧ (0x100 : Word).toNat + 72 ≤ 0x80000) ∧
    (let s := coreIn (vat 0x100 0) (vregs 0)
     let near := fun (size : Nat) => Near s 143 0x100 size ∧ ∀ j, j < size → Near s 143 (0x100 + j) 1
     let js := fun (pg : Nat) => predBytes 16 ((vat 0x100 0).actives pg 16)
     let jv := fun (pg : Nat) => recordBytes 4 ((vat 0x100 0).actives pg 16)
     near 8 ∧ near 72 ∧ (js 2) = [1] ∧ (jv 2).length = 5 ∧ (∀ j ∈ jv 2, s.coreBad 143 (0x100 + j) 1 = none) ∧
       (∀ j ∈ js 2, s.coreBad 143 (0x100 + j) 1 = none) ∧ (js 0).length = 8 ∧ (jv 0).length = 72 ∧
       (∀ i, i < 16 → ((vat 0x100 0).pred 0).getLsbD i = true) ∧ s.coreBad 143 0x100 8 = none ∧ coreLevel s.regs 143 = 0 ∧ (vat 0x100 0).issuing = [] ∧
       (let t := { s with mec := { s.mec with poison := [wordOf s.regs (tileAddr 143 0x100)] } }
        (nth ⟨0, false⟩ ((t.tickCore 143).readRecord 143 0x100 8 (js 2)).1 1).p = true) ∧
       (∀ i, i < 16 → (nth ⟨0, false⟩ ((s.tickCore 143).readRecord 143 0x100 8 (js 2)).1 (i / 8)).p = false)) ∧
    (let s := coreIn (vat 0x7FFF0 0) (vregs 2)
     let at_ := fun i => (0x7FFF0 : Word) + BitVec.ofNat 32 (i * 4)
     (vat 0x7FFF0 0).ea ⟨4, 0, 0⟩ 4 64 = .at 0x7FFF0 0x7FFF0 ∧ s.getF (Rg.ZCR_VSTART 143) Fd.ZCR_VSTART_vstart = 2 ∧
       (at_ 4).toNat % 4 = 0 ∧ s.coreBad 143 (at_ 4).toNat 4 = some (at_ 4).toNat ∧ coreLevel s.regs 143 = 0 ∧
       (∀ j, j < 4 → (at_ j).toNat % 4 = 0 ∧ s.coreBad 143 (at_ j).toNat 4 = none) ∧ (∃ j, j < 4 ∧ 2 ≤ j)) ∧
    ((0x101 : Word).toNat % 2 ≠ 0 ∧ (vat 0x101 0).ea ⟨4, 0, 0⟩ 2 64 = .at 0x101 0x101) ∧
    (∀ e, e = (1, 9) ∨ e = (0x7FF00, 8) → let c := vat 0x100 e.1
      let s := coreIn c (vregs 0)
      let at_ := fun i => (c.reg .a 4).v + (BitVec.ofNat 32 ((c.vec 1).elem 4 i) <<< 0)
      (c.reg .a 4).p = false ∧ (∀ i, i < 16 → (c.vec 1).bad 4 i = false) ∧ (at_ 0).toNat % 4 = 0 ∧ s.coreBad 143 (at_ 0).toNat 4 = none ∧
        (c.pred 1).getLsbD 1 = true ∧ ((e.2 = 9 ∧ (at_ 1).toNat % 4 ≠ 0) ∨
          (e.2 = 8 ∧ (at_ 1).toNat % 4 = 0 ∧ s.coreBad 143 (at_ 1).toNat 4 = some (at_ 1).toNat))) ∧
    ((∀ j, j < 16 → ((vcore.pred 2).getLsbD j = true ↔ j = 15)) ∧ ∀ l a, (∀ n, n < 64 →
      getR (st l).regs (Rg.MEC_REGION_CTRL n) Fd.MEC_REGION_CTRL_busy = 0) → inInit (st l).regs a = false) := by
  refine ⟨by decide +kernel, by decide +kernel, ⟨by decide +kernel, by decide +kernel, by decide +kernel, by decide +kernel, by decide +kernel, by decide +kernel,
    ⟨2, by decide⟩⟩, by decide +kernel, ?_, by decide +kernel, fun l a h => inInit_reset l h a⟩
  intro e h; rcases h with rfl | rfl <;> decide +kernel

/-- Core 143 with A4 = 0x100 and G5 holding a handle of tag 5, whose tag is `g`. -/
def commanding (g : Tag) (handle : Word) (queue : List Nat) : State :=
  let s := coreIn { core0 with g := [(5, ⟨handle, false⟩)] } [(Rg.CPL_CTRL 17, fw Fd.CPL_CTRL_remote_reserve 16)]
  { s with cpl := Map.set Cupola.reset [] 17 { Cupola.reset with
      tags := [(5, g)]
      freeTags := (List.range 256).filter (· != 5)
      q1 := queue } }

theorem witness_CommandsAreIssuedAndKilled :
    (let s := commanding Tag.reset 5 []
     let p := s.cup 17
     s.issues 143 = true ∧ core0.reg .a 4 = ⟨0x100, false⟩ ∧ (0x100 : Word).toNat % 32 = 0 ∧ (0x104 : Word).toNat % 32 ≠ 0 ∧
       (∀ e, e < 3 → descPlace 0x100 (descSize e) = true ∧ s.coreBad 143 0x100 (descSize e) = none ∧
         anyP ((s.tickCore 143).coreBytes 143 0x100 (descSize e)) = false ∧ (p.queue e).length < engDepth e) ∧
       descPlace 0x7FFE0 64 = false ∧ p.inUse false < 256 - remoteReserve s.regs 17 ∧ p.freeTags.head? = some 0 ∧
       ¬ (((commanding Tag.reset 5 (List.replicate 16 9)).cup 17).queue 1).length < engDepth 1) ∧
    (∀ st held, (st = TagState.issued ∧ held = true) ∨ (st = .issued ∧ held = false) ∨ (st = .committed ∧ held = false) →
      let g := { Tag.reset with state := st, seq := 3, held := held, eng := 1, desc := engDesc [(56, 1, 8)] }
      let s := commanding g 0x305 [5]
      (s.core 143).reg .g 5 = ⟨0x305, false⟩ ∧ ((s.cup 17).tag 5) = g ∧ g.seq.toNat = 0x305 / 256 % 256 ∧
        pairedDesc g.eng g.desc = true) ∧
    (let s := coreIn { core0 with g := [(1, ⟨17, false⟩), (2, ⟨77, false⟩)] } []
     let g := { Tag.reset with state := .issued, desc := engDesc [(4, 4, 77)] }
     let t := { s with cpl := Map.set Cupola.reset [] 17 { Cupola.reset with tags := [(5, g)] } }
     (17 : Word).toNat % 32 < 18 ∧ 18 ≤ (18 : Word).toNat % 32 ∧ ((t.cup 17).tag 5).state = .issued ∧ le ((t.cup 17).tag 5).desc 4 4 = 77 ∧
       le ((t.cup 17).tag 6).desc 4 4 ≠ 77 ∧ t.qm.ops = []) ∧
    (let s := commanding Tag.reset 5 []
     let t := { s with span := { s.span with reqs := [⟨1, coreAgent 143, 0x40, 4, false, 2, 1, true, [], none⟩] } }
     let w := { commanding Tag.reset 5 (List.replicate 16 9) with span := t.span }
     t.issues 143 = true ∧ t.span.busy (coreAgent 143) = true ∧ (∀ e, e < 3 → ((t.cup 17).queue e).length < engDepth e ∧
       anyP ((t.tickCore 143).coreBytes 143 0x100 (descSize e)) = false) ∧ w.issues 143 = true ∧ w.span.busy (coreAgent 143) = true ∧
       ¬ ((w.cup 17).queue 1).length < engDepth 1) ∧
    (let s := commanding { Tag.reset with state := .issued, seq := 3 } 0x305 [5]
     let t := s.setCore 143 { s.core 143 with issuing := [⟨0x305, 5, ⟨9, false⟩, true⟩] }
     ((t.cup 17).tag 5).state = .issued ∧ ((t.cup 17).tag 5).held = false ∧ (s.core (8 * 17 + 0)).issuing = [] ∧
       (∃ i ∈ (t.core 143).issuing, handleTag i.handle = 5)) := by
  refine ⟨(by and_intros <;> decide +kernel), ?_, by decide +kernel, by decide +kernel, by decide +kernel⟩
  intro st held h
  rcases h with ⟨rfl, rfl⟩ | ⟨rfl, rfl⟩ | ⟨rfl, rfl⟩ <;> decide +kernel

/-- Cluster 17 in a power state, with one entry of 128 bytes in its system queue that begins with these bytes. -/
def remote (pstate : Nat) (b0 b1 : Byte) : State :=
  let s := st [(Rg.QMG_CTRL, fw Fd.QMG_CTRL_enable 1), (Rg.CPL_CTRL 17, fw Fd.CPL_CTRL_remote_reserve 16),
    (Rg.PWR_DOM 19, fw Fd.PWR_DOM_state pstate ||| fw Fd.PWR_DOM_in_flight 7 ||| fw Fd.PWR_DOM_pending 7)]
  { s with
    qm := { s.qm with cache := [⟨17, { queueOf 1 with esize := 3 }, false⟩], created := [(17, none)] }
    mem := if b0 = 0 then (if b1 = 0 then [] else [(1, b1)]) else [(0, b0)] }

theorem witness_SystemQueuesAndSpares :
    ((st []).queued 17 = [] ∧ (remote 3 0 1).queued 17 ≠ [] ∧ clusterState (remote 3 0 1).regs 17 = 3 ∧
      (2 + (17 : Fin 18).val) ∉ (remote 3 0 1).pwr.quiesce) ∧
    (∀ b, b = (0, 1) ∨ b = (0, 3) ∨ b = (1, 0) ∨ b = (2, 0) → let s := remote 4 b.1 b.2
      let r := s.qx.dequeue (cplAgent 17) 17
      (s.queued 17).map (fun e => s.canTake 17 e) = [true] ∧ clusterState s.regs 17 = 4 ∧ r.2.1 = 0 ∧ [r.2.2] = s.queued 17 ∧
        anyP r.2.2 = false ∧ le (vals r.2.2) 0 1 = b.1.toNat ∧ le (vals r.2.2) 1 1 = b.2.toNat ∧ (s.cup 17).freeTags.head? = some 0) ∧
    (let s := { remote 4 0 1 with cpl := Map.set Cupola.reset [] 17 { Cupola.reset with q0 := List.replicate 32 9 } }
     (s.queued 17).map (fun e => s.canTake 17 e) = [false]) ∧
    (∀ r, r = 0 ∨ r = 2 ∨ r = 3 → role (withRole r).regs 17 = r) ∧ (∀ f ∈ (withRole 0).ppt.failing, f.cluster ≠ 17) ∧
    lowestSpare (withRole 1).regs = some 17 ∧ (0x2000 + 17) ∉ (withRole 3).boot.resetUnits ∧
    (let s := { withRole 2 with ppt := { (withRole 2).ppt with failing := [⟨17, none, none, true⟩] } }
     role s.regs 17 = 2 ∧ ∃ f ∈ s.ppt.failing, f.waiting = true ∧ f.cluster = 17) ∧
    (let s := { withRole 2 with ppt := { (withRole 2).ppt with failing := [⟨3, some 17, none, false⟩] } }
     role s.regs 17 = 2 ∧ (∀ f ∈ s.ppt.failing, f.cluster ≠ 17) ∧ s.ppt.failing.any (fun f => f.spare == some 17) = true) := by
  refine ⟨by decide +kernel, ?_, by decide +kernel, ?_, by decide +kernel, by decide +kernel, by decide +kernel, by decide +kernel,
    by decide +kernel⟩
  · intro b h
    rcases h with rfl | rfl | rfl | rfl <;> decide +kernel
  · intro r h
    rcases h with rfl | rfl | rfl <;> decide +kernel
/-- Link 3 in a state of its register and of its own. -/
def linkIn (lst : Nat) (k : Link) (l : List (Nat × Word)) : State :=
  let s := st ((Rg.SPN_LINK_STATUS 3, fw Fd.SPN_LINK_STATUS_state lst) :: l)
  { s with span := { s.span with links := Map.set Link.reset [] 3 k } }

/-- A link-state field: lost lane and lanes out. -/
def commaOf (lost a b : Nat) (nack : Bool) : BitVec 16 := BitVec.ofNat 16 (2 ^ 14 + a * 2 ^ 11 + b * 2 ^ 8 + lost * 32 + b2n nack * 16)

theorem witness_LinksTrainAndHeal :
    (Fd.SPN_LINK_CTRL_enable.get (fw Fd.SPN_LINK_CTRL_enable 1 ||| fw Fd.SPN_LINK_CTRL_retrain 1) = 1 ∧
      Fd.SPN_LINK_CTRL_retrain.get (fw Fd.SPN_LINK_CTRL_enable 1 ||| fw Fd.SPN_LINK_CTRL_retrain 1) = 1 ∧
      Fd.SPN_LINK_CTRL_retrain.get (fw Fd.SPN_LINK_CTRL_enable 1) = 0 ∧ Fd.SPN_LINK_CTRL_enable.get 0 = 0 ∧
      (st []).getF (Rg.SPN_LINK_CTRL 3) Fd.SPN_LINK_CTRL_enable = 0 ∧
      (st [(Rg.SPN_LINK_CTRL 3, fw Fd.SPN_LINK_CTRL_enable 1)]).getF (Rg.SPN_LINK_CTRL 3) Fd.SPN_LINK_CTRL_enable = 1 ∧
      linkState (linkIn 3 Link.reset []).regs 3 = 3 ∧ linkState (linkIn 1 Link.reset []).regs 3 ≠ 3) ∧
    (let t : Trained := ⟨0x1F, [0, 0, 0, 0, 0], 3, 0⟩
     let k := { Link.reset with training := true, trained := some t, peerState := 1 }
     let s := linkIn 0 k [(Rg.SPN_LINK_CTRL 3, fw Fd.SPN_LINK_CTRL_enable 1)]
     (s.span.link 3).training = true ∧ (s.span.link 3).trained = some t ∧ (s.span.link 3).peerState = 1 ∧ ¬ (Link.reset.peerState = 1 ∨ Link.reset.peerState = 2) ∧
       Link.reset.trained = none ∧ linkState s.regs 3 = 0 ∧ s.getF (Rg.SPN_LINK_CTRL 3) Fd.SPN_LINK_CTRL_enable = 1 ∧
       ((linkIn 3 Link.reset [(Rg.SPN_LINK_CTRL 3, fw Fd.SPN_LINK_CTRL_enable 1)]).span.link 3).training = false) ∧
    ((linkIn 0 { Link.reset with training := true } []).span.link 3 = { Link.reset with training := true } ∧ Link.reset.training = false ∧
      (∀ n, n < 6 → ∃ al : BitVec 5, ((List.range 5).filter (fun p => al.getLsbD p)).length = n)) ∧
    ((∀ x, x = 1 ∨ x = 2 → linkState (linkIn x Link.reset []).regs 3 = x) ∧
      (let s := linkIn 1 Link.reset [(Rg.SPN_LANE_STATUS 3 4, fw Fd.SPN_LANE_STATUS_out 1)]
       s.getF (Rg.SPN_LANE_STATUS 3 0) Fd.SPN_LANE_STATUS_out = 0 ∧ 0 ∉ (s.span.link 3).rxOut ∧ (s.span.link 3).peerOutA ≠ 0 ∧
         s.getF (Rg.SPN_LANE_STATUS 3 4) Fd.SPN_LANE_STATUS_out = 1) ∧
      (let k := { Link.reset with lanes := [0, 1, 2], spare := none }
       4 ∉ k.lanes ∧ k.spare ≠ some 4 ∧ k.lanes.length = 3) ∧
      (let k := { Link.reset with spare := none }
       4 ∉ k.lanes ∧ k.spare ≠ some 4 ∧ k.lanes.length = 4) ∧
     (let s := linkIn 1 Link.reset [(Rg.SPN_LANE_STATUS 3 0, fw Fd.SPN_LANE_STATUS_out 1)]
      0 ∈ (s.span.link 3).lanes ∧ s.getF (Rg.SPN_LANE_STATUS 3 0) Fd.SPN_LANE_STATUS_out = 1 ∧ (s.span.link 3).spare = some 4 ∧
        s.getF (Rg.SPN_LANE_STATUS 3 4) Fd.SPN_LANE_STATUS_out = 0)) ∧
    (let valid := fun (c : BitVec 16) => (bits c.toNat 13 11 ≤ 3 ∨ bits c.toNat 13 11 = 7) ∧ (bits c.toNat 10 8 ≤ 3 ∨ bits c.toNat 10 8 = 7) ∧
       (bits c.toNat 7 5 ≤ 4 ∨ bits c.toNat 7 5 = 7)
     valid (commaOf 7 7 7 true - 0x4000) ∧ bits (commaOf 7 7 7 true - 0x4000).toNat 15 14 = 0 ∧ bits (commaOf 7 7 7 true).toNat 15 14 = 1 ∧
     valid (commaOf 7 7 7 true) ∧ bit (commaOf 7 7 7 true).toNat 4 = true ∧ valid (commaOf 3 0 3 false) ∧
       bit (commaOf 3 0 3 false).toNat 4 = false ∧ bits (commaOf 3 0 3 false).toNat 7 5 = 3 ∧ ¬ valid (commaOf 5 7 7 false) ∧
       ¬ valid (commaOf 7 4 7 false) ∧ Link.reset.lanes.Nodup ∧ 3 ∈ Link.reset.lanes ∧ 4 ∉ Link.reset.lanes ∧
       (∀ p ∈ 4 :: Link.reset.lanes, p < 5) ∧ Link.reset.replayFrom = none ∧ Link.reset.resent = false) ∧
    (Fd.SPN_SCAN_CTRL_start.get (fw Fd.SPN_SCAN_CTRL_start 1) = 1 ∧ (st []).getF (Rg.SPN_SCAN_STATUS 3) Fd.SPN_SCAN_STATUS_state ≠ 1 ∧
     (st []).getF (Rg.SPN_LANE_STATUS 3 4) Fd.SPN_LANE_STATUS_locked ≠ 1 ∧
     (st [(Rg.SPN_LANE_STATUS 3 4, fw Fd.SPN_LANE_STATUS_locked 1)]).getF (Rg.SPN_LANE_STATUS 3 4) Fd.SPN_LANE_STATUS_locked = 1 ∧
      (st [(Rg.SPN_SCAN_STATUS 3, fw Fd.SPN_SCAN_STATUS_state 1)]).getF (Rg.SPN_SCAN_STATUS 3) Fd.SPN_SCAN_STATUS_state = 1) := by
  refine ⟨by decide +kernel, by decide +kernel, ⟨by decide +kernel, rfl, ?_⟩,
    ⟨?_, by decide +kernel, by decide +kernel, by decide +kernel, by decide +kernel⟩, by decide +kernel, by decide +kernel⟩
  · intro n h
    exact ⟨BitVec.ofNat 5 (2 ^ n - 1), by revert n; decide +kernel⟩
  · intro x h
    rcases h with rfl | rfl <;> decide +kernel

/-- A packet of a kind that goes from device 1 to a device, with a length and payload. -/
def packetTo (kind dst hops len : Nat) (payload : List PByte) : Packet := ⟨kind, false, hops, 1, dst, 9, len, 0x40, 0, payload⟩

/-- The data words of a lane of a period whose words are all zero. -/
def laneZero (idle : Bool) (seq : BitVec 15) : List (BitVec 64) :=
  List.replicate laneWords 0 ++ [trailer idle seq (List.replicate laneWords 0)]

/-- Such a lane passes its check; that a lane with these words arrives is what LanePeriodsSurviveTheWire says. -/
theorem laneZero_ok (idle : Bool) (seq : BitVec 15) : laneOk (laneZero idle seq) = true := by
  have h1 : (laneZero idle seq).take laneWords = List.replicate laneWords 0 := by simp [laneZero]
  have h2 : nth 0 (laneZero idle seq) laneWords = trailer idle seq (List.replicate laneWords 0) := by simp [laneZero, nth]
  simp only [laneOk, trailOf, h1, h2, trailer, beq_iff_eq]
  have hc := (laneCrc (List.replicate laneWords 0)).isLt
  have hs := seq.isLt
  have hb : b2n idle ≤ 1 := by cases idle <;> decide
  rw [BitVec.toNat_ofNat]
  omega

theorem witness_PeriodsAndPacketsCross :
    (let p := packetTo 1 1 0 8 []
     let k := { Link.reset with txPkts := [p] }
     linkState (linkIn 1 k []).regs 3 = 1 ∧ linkState (linkIn 0 k []).regs 3 = 0 ∧ k.replayFrom = none ∧ k.held.length < 2 ∧ k.txWords = [] ∧
       packetUnits { p with credits := k.owed } ≤ k.credits ∧ ({ k with credits := 0 }).credits < packetUnits { p with credits := k.owed } ∧
       k.owed = 0 ∧ (pktWords { p with credits := k.owed }).length ≤ laneWords * k.lanes.length) ∧
    (let k := { Link.reset with replayFrom := some 5, held := [(5, List.replicate 16380 0), (6, List.replicate 16380 0)] }
     k.replayFrom = some 5 ∧ k.held.all (fun h => h.2.length == laneWords * k.lanes.length) = true ∧ 2 ≤ k.held.length ∧
       k.held.any (fun h => h.1 == 5 + 1) = true ∧ (k.held.find? (fun h => h.1 == 5)).isSome = true) ∧
    (none ∈ Link.reset.rxLanes.map (fun p => linkLaneOf [] p) ∧ (∀ p ∈ Link.reset.rxLanes, p < 5) ∧
      (∀ ws, some ws ∈ Link.reset.rxLanes.map (fun p => linkLaneOf [] p) → bit (trailOf ws) 47 = false)) ∧
    (∀ idle seq, laneOk (laneZero idle seq) = true) ∧
    (∀ p ∈ [packetTo 0 0 0 0 [], packetTo 6 0 0 0 [], packetTo 1 2 6 8 [], packetTo 2 7 0 8 (clean (leBytes 8 1)), packetTo 1 2 7 8 [],
        packetTo 1 0 0 8 [], packetTo 2 0 0 8 (clean (leBytes 8 1)), packetTo 3 0 0 8 (clean (leBytes 8 1)), packetTo 4 0 0 8 []],
      let s := linkIn 1 { Link.reset with rxPkts := [p] } routes
      let t := { s with span := { s.span with reqs := [⟨9, 9, 0x40, 8, p.kind == 4, 3, 1, false, [], none⟩] } }
      (t.span.link 3).rxPkts = [p] ∧ relayMode t.regs = false ∧ ownIndex t.regs = 0 ∧ routeTo t.regs 1 = some 2 ∧ routeTo t.regs 2 = some 3 ∧
        routeTo t.regs 7 = none ∧ windowOf p.address = none ∧ isReg p.address = false ∧ t.decodeBad (linkUnit 3) p.address p.length = none ∧
        (t.span.reqs.find? (fun r => r.tag == p.tag && r.isWrite == (p.kind == 4))).isSome = true ∧ p.err = false) ∧
    (let s := linkIn 1 Link.reset routes
     placeOf s.regs 0x110000000040 = .there 1 2 0x40 ∧ windowOf 0x100000000040 ≠ none ∧ placeOf s.regs 0x100000000040 = .here 0x40 ∧
       isReg 0x40 = false ∧ wokenBy 9 0x40 = none) ∧
    (Link.reset.discard = false ∧ ({ Link.reset with discard := true }).discard = true) ∧
    (let p := { packetTo 4 0 0 8 [] with err := true }
     let s := linkIn 1 { Link.reset with rxPkts := [p] } routes
     let t := { s with span := { s.span with reqs := [⟨9, 0x3000 + 51, 0x40, 8, true, 3, 1, false, [], some 5⟩] } }
     p.kind = 4 ∧ p.dst = ownIndex t.regs ∧ p.err = true ∧
       (t.span.reqs.find? (fun r => r.tag == p.tag && r.isWrite == (p.kind == 4))).map (·.cmd) = some (some 5)) := by
  refine ⟨by decide +kernel, by decide +kernel, ⟨by decide +kernel, by decide +kernel, ?_⟩, laneZero_ok, by decide +kernel, by decide +kernel,
    by decide +kernel, by decide +kernel⟩
  intro ws h
  simp [linkLaneOf] at h
/-- A best master and a worse one, by priority1. -/
def good1 : Announce := ⟨0, 1, 100, 6, 0x20, 0, 128, 0, []⟩
def bad2 : Announce := { good1 with identity := 2, priority1 := 200 }

/-- Both, as port 5 has heard them three times. -/
def first1 : Master := ⟨good1, 5, false, 0, 3⟩
def second2 : Master := ⟨bad2, 5, false, 0, 3⟩

/-- A PTP instance of port 5 on base 1 with a role, which has seen a Sync of master 1; its base follows PTP in a state. -/
def ptpIn (role tb : Nat) (stepped : Nat) (z : Base) : State :=
  let s := st [(Rg.BLF_TB_CTRL 1, fw Fd.BLF_TB_CTRL_source 1), (Rg.BLF_TB_STATUS 1, fw Fd.BLF_TB_STATUS_state tb ||| fw Fd.BLF_TB_STATUS_stepped stepped),
    (Rg.BLF_TB_LOCK_NS 1, 100)]
  let i : PtpInst := ⟨by1 [5, 1, 0, role] ++ leBytes 12 0 ++ by1 [1] ++ leBytes 7 0, some ⟨10, 0⟩, some ⟨10, 500⟩, 1, [77]⟩
  { s with blf := { s.blf with ptp := Map.set none [] 5 (some i), base1 := z } }

/-- A base that has selected master 1 of both, after three Announces, with `n` offsets. -/
def chosen (n within : Nat) : Base :=
  { Base.reset with masters := [first1, second2], selected := some 1, last := some 1, announces := 3, offsets := List.replicate n 10, within := within }

theorem witness_NetworkTimeIsFollowed :
    (∀ r, r < 3 → ((ptpIn r 1 0 Base.reset).blf.inst 5).map (fun i => (i.base, i.role, i.syncMaster)) = some (1, r, 1) ∧
      tbSource (ptpIn r 1 0 Base.reset).regs 1 = 1) ∧ tbSource (st []).regs 1 ≠ 1 ∧ (st []).blf.inst 5 = none ∧
    (good1.domain = 0 ∧ (bestOf (second2 :: [first1])).map (·.data.identity) = some 1 ∧ (chosen 0 0).selected = some 1 ∧ Base.reset.selected = none ∧
      (bestOf [second2]).map (·.data.identity) = some 2 ∧ Base.reset.announces < 3 ∧ 3 ≤ (chosen 0 0).announces) ∧
    (tbStepped (ptpIn 0 1 0 (chosen 14 0)).regs 1 = false ∧ ((10 : Int) :: (chosen 14 0).offsets).length < 16 ∧
      (((10 : Int) :: (chosen 15 0).offsets).take 16).length = 16 ∧ tbStepped (ptpIn 0 2 1 (chosen 16 0)).regs 1 = true ∧
      tbState (ptpIn 0 2 1 (chosen 16 0)).regs 1 = 2 ∧ tbState (ptpIn 0 3 1 (chosen 16 15)).regs 1 = 3 ∧ 15 ≤ (chosen 16 15).within ∧
      (chosen 16 14).within < 15 ∧ lockNs (ptpIn 0 3 1 (chosen 16 0)).regs 1 = 100) ∧
    (∀ i, (ptpIn 1 1 0 Base.reset).blf.inst 5 = some i → 77 ∈ i.clients ∧ 78 ∉ i.clients ∧ min 32 (le i.payload 16 1) ≤ i.clients.length) ∧
    (let left := fun (ms : List Master) => bestOf ((ms.filter (fun e => e.data.identity != 1)).filter (fun e => decide (3 ≤ e.heard)))
     left [first1, second2] = some second2 ∧ left [first1] = none ∧ left [first1, { second2 with heard := 2 }] = none ∧
       (let s := ptpIn 0 2 1 (chosen 16 0)
        tbSource s.regs 1 = 1 ∧ (s.blf.base 1).selected = some 1 ∧ (s.blf.base 1).masters = [first1, second2] ∧ first1.port = 5 ∧
          tbSource s.regs 0 ≠ 1 ∧ tbStepped s.regs 1 = true ∧ tbState s.regs 1 ≠ 4)) ∧
    (let s := st [(Rg.BLF_TB_CTRL 2, fw Fd.BLF_TB_CTRL_source 3), (Rg.BLF_TB_STATUS 2, fw Fd.BLF_TB_STATUS_stepped 1),
       (Rg.BLF_TB_STATUS 0, fw Fd.BLF_TB_STATUS_stepped 1)]
     tbSource s.regs 2 = 3 ∧ tbStepped s.regs 2 = true ∧ tbStepped s.regs 0 = true ∧ tbSource (st []).regs 2 ≠ 3) := by
  refine ⟨by decide +kernel, by decide +kernel, by decide +kernel, by decide +kernel, by decide +kernel, ?_, by decide +kernel, by decide +kernel⟩
  intro i h
  have : (ptpIn 1 1 0 Base.reset).blf.inst 5 = some ⟨by1 [5, 1, 0, 1] ++ leBytes 12 0 ++ by1 [1] ++ leBytes 7 0, some ⟨10, 0⟩, some ⟨10, 500⟩, 1,
    [77]⟩ := by decide +kernel
  rw [this] at h
  injection h with h
  subst h
  decide +kernel

/-- A state whose port 32 holds `n` transmit timestamps. -/
def stamped (n : Nat) : State :=
  let s := st [(Rg.EVT_RECORD 10, 0xFFFFFFFF), (Rg.WTR_CTRL, fw Fd.WTR_CTRL_enable 1), (Rg.EVT_RING 10, 0)]
  { s with blf := { s.blf with txts := Map.set [] [] 32 (List.replicate n ⟨1, ⟨2, 3⟩⟩) } }

theorem witness_TimeIsStampedAndLatched :
    ((stamped 63).blf.stamps 32).length < 64 ∧ 64 ≤ ((stamped 64).blf.stamps 32).length ∧ Fd.BLF_TXTS_POP_pop.get 1 = 1 ∧
    (let v := fw Fd.BLF_TB_CTRL_latch 1 ||| fw Fd.BLF_TB_CTRL_source 2
     Fd.BLF_TB_CTRL_latch.get v = 1 ∧ Fd.BLF_TB_CTRL_source.get v = 2 ∧ (2 : Nat) ≠ 3) ∧
    (inDeep (st []).regs = false ∧ inDeep (st [(Rg.PWR_DEVICE, fw Fd.PWR_DEVICE_state 2)]).regs = true) ∧
    (let s := fun (b : Nat) => st [(Rg.BLF_PPS_CTRL, fw Fd.BLF_PPS_CTRL_out_enable 1 ||| fw Fd.BLF_PPS_CTRL_base b),
       (Rg.BLF_TB_STATUS 0, fw Fd.BLF_TB_STATUS_state 2), (Rg.BLF_TB_STATUS 2, fw Fd.BLF_TB_STATUS_state 2),
       (Rg.BLF_TB_STATUS 1, fw Fd.BLF_TB_STATUS_state 2), (Rg.BLF_FRAME_OUT_CTRL, fw Fd.BLF_FRAME_OUT_CTRL_enable 1 |||
         fw Fd.BLF_FRAME_OUT_CTRL_rate 9)]
     (∀ b, b < 3 → (s b).flag Rg.BLF_PPS_CTRL Fd.BLF_PPS_CTRL_out_enable = true ∧ (s b).getF Rg.BLF_PPS_CTRL Fd.BLF_PPS_CTRL_base = b ∧
       tbState (s b).regs b ≠ 0) ∧ (st []).flag Rg.BLF_PPS_CTRL Fd.BLF_PPS_CTRL_out_enable = false ∧
       (s 0).flag Rg.BLF_FRAME_OUT_CTRL Fd.BLF_FRAME_OUT_CTRL_enable = true ∧ 2 ≤ tbState (s 0).regs 1 ∧
       (s 0).getF Rg.BLF_FRAME_OUT_CTRL Fd.BLF_FRAME_OUT_CTRL_rate = 9 ∧
       (st []).flag Rg.BLF_FRAME_OUT_CTRL Fd.BLF_FRAME_OUT_CTRL_enable = false) ∧
    (let s := fun (src stp : Nat) => st [(Rg.BLF_PPS_CTRL, fw Fd.BLF_PPS_CTRL_in_enable 1), (Rg.BLF_TB_CTRL 0, fw Fd.BLF_TB_CTRL_source src),
       (Rg.BLF_TB_STATUS 0, fw Fd.BLF_TB_STATUS_stepped stp)]
     let t := { s 2 0 with blf := { (s 2 0).blf with tod := some ⟨5, 0⟩, base0 := { (s 2 0).blf.base0 with pps := 2 } } }
     (s 1 0).flag Rg.BLF_PPS_CTRL Fd.BLF_PPS_CTRL_in_enable = true ∧ tbSource (s 1 0).regs 0 ≠ 2 ∧ tbSource (s 2 0).regs 0 = 2 ∧
       tbStepped (s 2 0).regs 0 = false ∧ (s 2 0).blf.tod.isSome = false ∧ 3 ≤ (if t.blf.tod.isSome then t.blf.base0.pps + 1 else 0) ∧
       tbSource t.regs 2 ≠ 3 ∧ t.blf.base2.lead = none ∧ tbStepped (s 2 1).regs 0 = true ∧ (st []).flag Rg.BLF_PPS_CTRL Fd.BLF_PPS_CTRL_in_enable = false) := by
  decide +kernel

theorem witness_AFullTimestampQueueKeepsItsEntries :
    let s := stamped 64
    (s.blf.stamps 32).length = 64 ∧ (s.rd (Rg.EVT_RECORD 10)).getLsbD 12 = true ∧ s.flag Rg.WTR_CTRL Fd.WTR_CTRL_enable = true ∧
      s.wtr.fifo.length < 8 ∧ s.rd (Rg.EVT_RING 10) = 0 ∧ s.rd (Rg.BLF_TXTS_DROPPED 32) ≠ 0xFFFFFFFE := by decide +kernel

/-- DAC channel `ch` with source, generator kind, code 0x80000, amplitude and step. -/
def dacIn (ch src kind amp stp : Nat) (l : List (Nat × Word)) : State :=
  st ([(Rg.HDC_CH_CTRL ch, fw Fd.HDC_CH_CTRL_source src ||| fw Fd.HDC_CH_CTRL_gen kind), (Rg.HDC_CH_CODE ch, 0x80000),
    (Rg.HDC_CH_AMP ch, BitVec.ofNat 32 amp), (Rg.HDC_CH_STEP ch, BitVec.ofNat 32 stp)] ++ l)

theorem witness_TheDacFollowsAndClears :
    (∀ src, src < 4 → ∀ kind, kind < 3 → ∀ ch, ch = 0 ∨ ch = 3 → let s := dacIn ch src kind 0x80000 16 []
      clearInForce s.regs = false ∧ inDeep s.regs = false ∧ dacSource s.regs ch = src ∧ dacKind s.regs ch = kind ∧ dacStep s.regs ch = 16 ∧
        (dacCode s.regs ch : Int) - dacAmp s.regs ch = 0 ∧ tbState s.regs 0 ≠ 4) ∧
    (let s := dacIn 0 1 0 0 0 [(Rg.BLF_TB_STATUS 0, fw Fd.BLF_TB_STATUS_state 4)]
     dacSource s.regs 0 = 1 ∧ tbState s.regs 0 = 4 ∧ s.dac.held = none ∧ clearInForce s.regs = false ∧ inDeep s.regs = false ∧
       ({ s with dac := { s.dac with held := some 5 } }).dac.held = some 5) ∧
    (let s := dacIn 0 1 0 0 0 [(Rg.HDC_CH_GAIN 0, 250)]
     sgn 32 (s.rd (Rg.HDC_CH_GAIN 0)).toNat = 250 ∧ sgn 32 ((dacIn 0 1 0 0 0 []).rd (Rg.HDC_CH_GAIN 0)).toNat = 0 ∧
       s.blf.base0.freq = 0 ∧ s.blf.base2.lead = none ∧ dacSource s.regs 0 = 1 ∧ tbState s.regs 0 ≠ 4 ∧
       ({ Base.reset with lead := some 1 }).lead ≠ none) ∧
    (inDeep (st [(Rg.HDC_STATUS, 8)]).regs = false ∧ clearInForce (st [(Rg.HDC_STATUS, 8)]).regs = true ∧ inDeep (st [(Rg.PWR_DEVICE, fw Fd.PWR_DEVICE_state 2)]).regs = true ∧
      clearInForce (st [(Rg.PWR_DEVICE, fw Fd.PWR_DEVICE_state 2)]).regs = false) := by
  refine ⟨?_, by decide +kernel, by decide +kernel, by decide +kernel⟩
  intro src h1 kind h2 ch h3
  rcases h3 with rfl | rfl <;> revert src kind <;> decide +kernel

/-- Domain 19 (cluster 17) in a state, with a target in flight. -/
def domIn (stt flight latched : Nat) (quiesce exiting : List Nat) (l : List (Nat × Word)) : State :=
  let s := st ((Rg.PWR_DOM 19, fw Fd.PWR_DOM_state stt ||| fw Fd.PWR_DOM_in_flight flight ||| fw Fd.PWR_DOM_pending 7 |||
    fw Fd.PWR_DOM_latched latched) :: l)
  { s with pwr := { s.pwr with quiesce := quiesce, exiting := exiting } }

/-- The device in a state, with a target in flight. -/
def devIn (stt flight : Nat) (p : Power → Power) (l : List (Nat × Word)) : State :=
  let s := st ((Rg.PWR_DEVICE, fw Fd.PWR_DEVICE_state stt ||| fw Fd.PWR_DEVICE_in_flight flight ||| fw Fd.PWR_DEVICE_pending 7) :: l)
  { s with pwr := p s.pwr, blf := { s.blf with sleep := some (0, 0, 0) } }

theorem witness_PowerIsRequestedAndSwitched :
    (let tgt := fun (t : Nat) => Fd.PWR_DOM_REQ_target.get (fw Fd.PWR_DOM_REQ_target t)
     (∀ t, t < 8 → tgt t = t) ∧ supports 19 1 = false ∧ (∀ t, t ∈ [0, 2, 3, 4] → supports 19 t = true) ∧ isCluster 19 = true ∧
     isCluster 25 = false ∧ supports 25 0 = true ∧
     (let s := domIn 4 7 0 [] [] []
      domFlight s.regs 19 = 7 ∧ 19 ∉ s.pwr.exiting ∧ domState s.regs 19 = 4 ∧ domPending s.regs 19 = 7 ∧ s.refuser 19 2 = none) ∧
     domState (domIn 2 7 0 [] [] []).regs 19 = 2 ∧
     (domIn 4 7 0 [] [] [(Rg.DMA_CH_STATUS 17 0, 1)]).refuser 19 2 = some (0x5000 + 32 * 17, 1) ∧
     (∀ f, f = 0 ∨ f = 2 ∨ f = 3 → ∀ la, la < 2 → let s := domIn 4 f la [19] [] []
       19 ∈ s.pwr.quiesce ∧ domFlight s.regs 19 = f ∧ f ≠ 7 ∧ domPending s.regs 19 = 7 ∧ s.getF (Rg.PWR_DOM 19) Fd.PWR_DOM_latched = la) ∧
     (let s := domIn 2 4 0 [] [19] []
      19 ∈ s.pwr.exiting ∧ domFlight s.regs 19 = 4 ∧ domPending s.regs 19 = 7 ∧ domState s.regs 19 ≤ 2) ∧
     clusterState (domIn 3 7 0 [] [] []).regs 17 = 3) ∧
    (let tgt := fun (t : Nat) => Fd.PWR_DEVICE_REQ_target.get (fw Fd.PWR_DEVICE_REQ_target t)
     (∀ t, t < 4 → tgt t = t) ∧
     (∀ k, k < 3 → devState (devIn k 7 id []).regs = k ∧ devFlight (devIn k 7 id []).regs = 7 ∧ devPending (devIn k 7 id []).regs = 7) ∧
     deviceAllowed (devIn 0 7 id []).regs 2 = false ∧ deviceAllowed (devIn 0 7 id []).regs 1 = true ∧ deviceAllowed (devIn 1 7 id []).regs 2 = true ∧
     deviceRefuser (devIn 0 7 id []).regs [] 1 = none ∧ deviceRefuser (devIn 1 7 id []).regs [] 2 = none ∧
     deviceRefuser (devIn 1 7 id [(Rg.PCE_MBX_STATE 63, 2)]).regs [] 2 = some (0xC001 + 63, 7) ∧
     (∀ f, f = 1 ∨ f = 2 → let s := devIn (f - 1) f (fun p => { p with deviceQuiesce := true, latched := true }) []
       s.pwr.deviceQuiesce = true ∧ devFlight s.regs = f ∧ devPending s.regs = 7 ∧ s.pwr.latched = true) ∧
     (devIn 1 0 (fun p => { p with deviceExiting := true }) []).pwr.deviceExiting = true ∧
     (let s := devIn 2 7 (fun p => { p with wake := 1 }) [(Rg.PWR_WAKE_CFG, fw Fd.PWR_WAKE_CFG_pin_en 1 ||| fw Fd.PWR_WAKE_CFG_alarm_en 1),
        (Rg.PWR_KEEP_LO, fw ⟨9, 1⟩ 1)]
      s.flag Rg.PWR_WAKE_CFG Fd.PWR_WAKE_CFG_pin_en = true ∧ s.flag Rg.PWR_WAKE_CFG Fd.PWR_WAKE_CFG_alarm_en = true ∧ inDeep s.regs = true ∧
        s.pwr.wake ≠ 0 ∧ s.blf.sleep = some (0, 0, 0) ∧ keepBit s.regs 9 = true ∧ keepBit (devIn 2 7 id [(Rg.PWR_KEEP_LO, 0)]).regs 9 = false)) := by
  and_intros
  all_goals first
    | decide +kernel
    | (intro f h la hl
       rcases h with rfl | rfl | rfl <;> revert la <;> decide +kernel)
    | (intro f h
       rcases h with rfl | rfl <;> decide +kernel)
/-- Lantern enabled, in a receiver state with the last preamble at -50 dBm. -/
def lanternIn (stt : Nat) (l : List (Nat × Word)) : State :=
  let s := st ([(Rg.LNT_CTRL, fw Fd.LNT_CTRL_enable 1 ||| fw Fd.LNT_CTRL_agc_en 1), (Rg.LNT_STATUS, fw Fd.LNT_STATUS_state stt)] ++ l)
  { s with lnt := { s.lnt with pd := -12800, syncRssi := -12800 } }

theorem witness_LanternHearsAndAdapts :
    (∀ k, k < 4 → lntState (lanternIn k []).regs = k ∧ lntOn (lanternIn k []).regs = true) ∧ lntOn (st []).regs = false ∧
    (-12032 < (lanternIn 1 []).lnt.pd + 768 + 1 ∧ (lanternIn 1 []).lnt.pd + 768 ≤ -12032) ∧
    ((lanternIn 2 []).lnt.syncRssi + 256 * (lanternIn 2 []).getF Rg.LNT_RX_CFG Fd.LNT_RX_CFG_capture_db ≤ 0 ∧
      (-12801 : Int) < (lanternIn 2 []).lnt.syncRssi + 256 * (lanternIn 2 []).getF Rg.LNT_RX_CFG Fd.LNT_RX_CFG_capture_db) ∧
    ((lanternIn 0 []).getF Rg.LNT_CTRL Fd.LNT_CTRL_agc_en = 1 ∧ (lanternIn 0 []).getF Rg.LNT_STATUS Fd.LNT_STATUS_frozen = 0) ∧
    (Fd.LNT_SPI_CMD_go.get (fw Fd.LNT_SPI_CMD_go 1) = 1 ∧ Fd.LNT_SPI_CMD_go.get 0 = 0 ∧ (lanternIn 0 []).lnt.spi = []) ∧
    (let s := { lanternIn 0 [] with lnt := { (lanternIn 0 []).lnt with spi := [(true, 1), (false, 2)] } }
     s.lnt.spi = (true, 1) :: [(false, 2)]) := by decide +kernel

/-- Lantern in a state with a descriptor of 32 bytes in its transmit queue 5,000, and packets that wait. -/
def lanternTx (stt preempt : Nat) (fill : Word) (held : List LntPkt) : State :=
  let s := queued 0 []
  let t := more { s with qm := { s.qm with cache := [⟨5000, { queueOf fill with esize := 1 }, false⟩] } }
    [(Rg.LNT_CTRL, fw Fd.LNT_CTRL_enable 1 ||| fw Fd.LNT_CTRL_tx_preempt preempt), (Rg.LNT_STATUS, fw Fd.LNT_STATUS_state stt),
     (Rg.LNT_QUEUE_TX, fw Fd.LNT_QUEUE_TX_queue 5000)]
  { t with lnt := { t.lnt with heldPkts := held } }

theorem witness_LanternPacketsAreHandedOver :
    (let w : LntPkt := ⟨false, none, [], leBytes 32 0⟩
     lntState (lanternTx 2 0 0 []).regs = 2 ∧ ((lanternTx 2 0 0 (List.replicate 7 w)).lnt.heldPkts.filter (fun p => !p.tx)).length < 8 ∧
       8 ≤ ((lanternTx 2 0 0 (List.replicate 8 w)).lnt.heldPkts.filter (fun p => !p.tx)).length) ∧
    (({ st [] with lnt := { (st []).lnt with tx := some [] } }).lnt.tx = some [] ∧ (st []).lnt.tx = none ∧ (st []).lnt.heldPkts = []) ∧
    (let d := fun (s : State) => s.qx.dequeue 5 (s.getF Rg.LNT_QUEUE_TX Fd.LNT_QUEUE_TX_queue)
     let ready := fun (s : State) => lntOn s.regs = true ∧ (d s).2.1 = qOk
     let s := lanternTx 0 0 1 []
     let t := { s with mec := { s.mec with poison := [wordOf s.regs 0] } }
     let bytes := fun (s : State) => ((d s).1.mm.read 5 (le (vals (d s).2.2) 0 8 % 2 ^ 48) (le (vals (d s).2.2) 8 2) .none).2
     ready s ∧ lntState s.regs = 0 ∧ anyP (bytes s) = false ∧ anyP (d s).2.2 = false ∧ ready t ∧ anyP (d t).2.2 = true ∧
       (d (lanternTx 0 0 0 [])).2.1 ≠ qOk ∧ ready (lanternTx 1 1 1 []) ∧
       (lanternTx 2 1 1 []).flag Rg.LNT_CTRL Fd.LNT_CTRL_tx_preempt = true ∧
       (lanternTx 2 0 1 []).flag Rg.LNT_CTRL Fd.LNT_CTRL_tx_preempt = false) := by
  refine ⟨by decide +kernel, by decide +kernel, by decide +kernel⟩

/-- A snapshot is under way or not; monitor 30 watches word 1 of Drum's frame, which has risen to its threshold 5. -/
def snapping (busy : Bool) (period : Nat) : State :=
  let s := st [(Rg.EVT_SNAP_CTRL, fw Fd.EVT_SNAP_CTRL_period_slots period), (Rg.EVT_THR_SEL 30, fw Fd.EVT_THR_SEL_enable 1 |||
    fw Fd.EVT_THR_SEL_word 1 ||| fw Fd.EVT_THR_SEL_unit 1), (Rg.EVT_THR_VAL 30, 5)]
  { s with evt := { s.evt with snapBusy := busy, bank0 := [(129, 4)], bank1 := [(129, 5)] } }

theorem witness_EventsClearAndCountersAreCopied :
    (let s := snapping false 1
     let period := s.getF Rg.EVT_SNAP_CTRL Fd.EVT_SNAP_CTRL_period_slots
     period ≠ 0 ∧ period ≤ s.evt.sincePeriodic + 1 ∧ s.getF Rg.DRM_STATUS Fd.DRM_STATUS_running = 0 ∧ s.evt.snapBusy = false ∧
       running.getF Rg.DRM_STATUS Fd.DRM_STATUS_running ≠ 0 ∧ (snapping false 0).getF Rg.EVT_SNAP_CTRL Fd.EVT_SNAP_CTRL_request ≠ 1) ∧
    (isFrame 0 = true ∧ 3 ≤ domState (st []).regs (frameDomain 0) ∧ isFrame 177 = true ∧
      domState (domIn 2 7 0 [] [] []).regs (frameDomain 177) < 3) ∧
    (let s := snapping true 0
     s.evt.snapBusy = true ∧ frameOf (s.getF (Rg.EVT_THR_SEL 30) Fd.EVT_THR_SEL_unit) = some 1 ∧
       s.getF (Rg.EVT_THR_SEL 30) Fd.EVT_THR_SEL_enable = 1 ∧ s.getF (Rg.EVT_THR_SEL 30) Fd.EVT_THR_SEL_word ≤ 125 ∧
       s.rd (Rg.EVT_THR_VAL 30) ≤ Map.get 0 (s.evt.bank (snapSeq s.regs + 1)) 129 ∧
       Map.get 0 (s.evt.bank (snapSeq s.regs + 1 + 1)) 129 < s.rd (Rg.EVT_THR_VAL 30)) := by
  refine ⟨by decide +kernel, by decide +kernel, by decide +kernel⟩

/-- A record of a code, and the recorder with these entries waiting, this slot 0 of its ring and this next sequence number. -/
def recd (code : Nat) : Rec := mkRec code 6 0 0 0 0
def recorder (fifo : List Rec) (slot0 : Option (Nat × Nat × Rec)) (next : Nat) (lost : Option (Nat × Nat)) (down : Bool) : State :=
  let s := st [(Rg.WTR_CTRL, fw Fd.WTR_CTRL_enable 1 ||| fw Fd.WTR_CTRL_flash_en 1), (Rg.WTR_NEXT_SEQ, BitVec.ofNat 32 next)]
  { s with
    wtr := { s.wtr with
      fifo := fifo
      ring := Map.set none [] 0 slot0
      lost := lost }
    pwr := { s.pwr with downWait := down } }

theorem witness_RecordsAreKept :
    (let s := recorder [recd 2] (some (0, 1, recd 2)) 16384 none false
     s.wtr.fifo = recd 2 :: [] ∧ Map.get none s.wtr.ring (wtrNext s.regs % 16384) = some (0, 1, recd 2) ∧ wtrPersisted s.regs = 0 ∧
       s.rd Rg.WTR_FLASH_LOST ≠ 0xFFFFFFFE ∧ ¬ ∃ e ∈ Map.get none (recorder [] none 5 none false).wtr.ring 5, e.1 = 0) ∧
    (let s := recorder [] none 0 none false
     let t := { s with wtr := { s.wtr with supp := [⟨0xFFFF, 1, 6, 0⟩] } }
     let d := { t with regs := wrR t.regs Rg.WTR_CTRL 0 }
     t.wtr.fifo = [] ∧ t.wtr.supp ≠ [] ∧ (∀ x ∈ t.wtr.supp, x.code < 65536) ∧ s.wtr.supp = [] ∧
       t.getF Rg.WTR_CTRL Fd.WTR_CTRL_enable ≠ 0 ∧ d.getF Rg.WTR_CTRL Fd.WTR_CTRL_enable = 0 ∧ d.wtr.fifo = [] ∧ d.wtr.supp ≠ []) ∧
    (let s := recorder [] (some (0, 1, recd 4)) 1 (some (7, 3)) true
     let t := recorder (List.replicate 7 (recd 2)) (some (0, 1, recd 2)) 1 (some (7, 3)) false
     s.toProgram = some (0, 1, recd 4) ∧ s.pwr.downWait = true ∧ (recd 4).code = 4 ∧ t.toProgram = some (0, 1, recd 2) ∧
       t.wtr.lost = some (7, 3) ∧ t.flag Rg.WTR_CTRL Fd.WTR_CTRL_enable = true ∧ t.wtr.fifo.length < 8 ∧ (st []).toProgram = none ∧
       deviceRefuser (devIn 1 7 id []).regs [] 2 = none) ∧
    ((st [(Rg.WTR_CTRL, 0)]).getF Rg.WTR_CTRL Fd.WTR_CTRL_enable = 0 ∧
      8 ≤ (recorder (List.replicate 8 (recd 2)) none 0 none false).wtr.fifo.length ∧
      (recorder [] none 0 none false).rd Rg.WTR_SUPPRESSED ≠ 0xFFFFFFFE) := by
  refine ⟨⟨by decide +kernel, by decide +kernel, by decide +kernel, by decide +kernel, ?_⟩, by decide +kernel, by decide +kernel, by decide +kernel⟩
  have : Map.get none (recorder [] none 5 none false).wtr.ring 5 = none := by decide +kernel
  simp [this]

theorem witness_RegistersFollowTheirAccessCodes :
    (isReg 0 = false ∧ isReg Rg.PPT_CTRL = true ∧ (st []).regHeld Rg.PPT_CTRL = false ∧ Rg.PPT_CTRL % 4 = 0 ∧ (findReg Rg.PPT_CTRL).isSome = true ∧
      winOf Rg.PPT_CTRL = 1 ∧ winOf (Rg.ETH_PORT_CTRL 32) = 9 ∧ (findReg (Rg.ETH_PORT_CTRL 32)).isSome = true ∧
      winOf (Rg.ZCL_DEC_ITER_CAP 17) = 3 ∧ (findReg (Rg.ZCL_DEC_ITER_CAP 17)).isSome = true) ∧
    (let s := { st [] with boot := { (st []).boot with resetUnits := [2] } }
     s.regHeld Rg.PPT_CTRL = true ∧ isReg (Rg.PPT_CTRL + 0xFFC) = true ∧ findReg (Rg.PPT_CTRL + 0xFFC) = none ∧ (Rg.PPT_CTRL + 2) % 4 ≠ 0) := by
  decide +kernel

theorem witness_MemoryKeepsItsForm : ({ st [] with mem := [(3, 1), (9, 2)] }).memOk ∧
    step { st [] with pending := [.wakePin] } = .next (st []) := by
  refine ⟨?_, rfl⟩
  show Memory.wf [(3, 1), (9, 2)] = true
  decide

theorem witness_TheSecurityCounterNeverFalls : step { paired with pending := [.wakePin] } = .next paired := rfl

theorem witness_QueuesKeepTheirBounds : step { stamped 64 with pending := [.wakePin] } = .next (stamped 64) ∧
    (stamped 64).drum.queue.length ≤ 2 ∧ ((stamped 64).blf.stamps 32).length ≤ 64 ∧ (((tagged Tag.reset 16).cup 17).late 7).length ≤ 16 := by
  refine ⟨rfl, by decide +kernel, by decide +kernel, by decide +kernel⟩
theorem witness_LanePeriodsSurviveTheWire : (List.replicate 4096 (0 : BitVec 64)).length = 4096 ∧
    (∀ i, ∃ j, j < 40 ∧ ([true, false, true] : List Bool)[i + j]? ≠ some true) := by
  refine ⟨List.length_replicate, fun i => ?_⟩
  by_cases h : 3 ≤ i
  · exact ⟨0, by decide, by rw [List.getElem?_eq_none (by simpa using h)]; simp⟩
  · exact ⟨3, by decide, by rw [List.getElem?_eq_none (by simp)]; simp⟩

/-- R371, R373: 0xD2 sent least significant bit first is the dibits 0b10, 0b00, 0b01, 0b11 in 4-GFSK, and eight symbols in 2-GFSK. -/
theorem test_deviations : deviations true (sentBits [0xD2]) = [-1, 1, 3, -3] ∧
    deviations false (sentBits [0xD2]) = [-1, 1, -1, -1, 1, -1, 1, 1] := by decide

/-- R90, R120: of 300 and -5 in mantissas of 9 bits, the exponent is 1; 300 becomes 150, and -2.5 rounds to the even -2. -/
theorem test_compress :
    let b := compress 9 (⟨300, -5, 0, false⟩ :: List.replicate 11 ⟨0, 0, 0, false⟩)
    b.length = 28 ∧ blockExp b = 1 ∧ ((blockElts 9 b).map (fun x => (x.re, x.im))).take 2 = [(150, -2), (0, 0)] := by decide +kernel

/-- A well-formed Announce dataset, and one of its terms out of range at a time. -/
theorem test_announce_ranges :
    good1.wf && !({ good1 with domain := 256 }).wf && !({ good1 with identity := 2 ^ 64 }).wf && !({ good1 with priority1 := 256 }).wf && !({ good1 with clockClass := 256 }).wf &&
      !({ good1 with accuracy := 256 }).wf && !({ good1 with variance := 65536 }).wf && !({ good1 with priority2 := 256 }).wf &&
      !({ good1 with steps := 65536 }).wf && !Instr.wf (.ptpAnnounce 0 { good1 with steps := 65536 }) = true := by decide

theorem test_time_ranges :
    Instr.wf (.ptpSync 0 1 ⟨2 ^ 48 - 1, 999999999⟩ none) && !Instr.wf (.ptpSync 0 1 ⟨2 ^ 48, 0⟩ none) &&
      !Instr.wf (.ptpSync 0 1 ⟨0, 1000000000⟩ none) && !Instr.wf (.ptpSync 0 1 ⟨0, 0⟩ (some ⟨0, 1000000000⟩)) &&
      !Instr.wf (.ptpSync 0 (2 ^ 64) ⟨0, 0⟩ none) && !Instr.wf (.ptpFollowUp 0 (2 ^ 64) ⟨0, 0⟩) && !Instr.wf (.ptpFollowUp 0 0 ⟨2 ^ 48, 0⟩) &&
      !Instr.wf (.ptpDelayReq 0 (2 ^ 64)) && !Instr.wf (.ptpDelayResp 0 (2 ^ 64) ⟨0, 0⟩ ⟨0, 0⟩) &&
      !Instr.wf (.ptpDelayResp 0 0 ⟨2 ^ 48, 0⟩ ⟨0, 0⟩) && !Instr.wf (.ptpDelayResp 0 0 ⟨0, 0⟩ ⟨0, 1000000000⟩) = true := by decide

theorem test_sensor_and_radio_ranges :
    Instr.wf (.thermalWarning ⟨0, 32767, true⟩) && !Instr.wf (.thermalWarning ⟨0, 32768, true⟩) && !Instr.wf (.thermalTrip [⟨0, -32769, true⟩]) &&
      !Instr.wf (.thermalTripRelease [⟨0, 32768, true⟩]) && !Instr.wf (.tickHandling [⟨0, 32768, true⟩]) && !Instr.wf (.preambleDetect 32768) &&
      !Instr.wf (.syncWordFound (-32769)) && !Instr.wf (.agcMeasurement 32768 0) && !Instr.wf (.packetEnd []) = true := by decide

theorem test_packet_longest : Instr.wf (.packetEnd (List.replicate 258 0)) && !Instr.wf (.packetEnd (List.replicate 259 0)) = true := by decide +kernel

theorem test_offset_ranges :
    (let x := here143
     let m := fun (o : Int) => (⟨0, 0, o⟩ : AMode)
     let d := fun (p q : Int) => (⟨0, 0, p, 0, 0, q⟩ : Dual)
     Instr.wf (.load x .g 0 0 (m 511)) && !Instr.wf (.load x .g 0 0 (m 512)) && !Instr.wf (.store x .g 0 0 (m (-513))) &&
       !Instr.wf (.sta x .h 0 (m 64)) && !Instr.wf (.tapm x 0 (d 128 0) 0) && !Instr.wf (.tapm x 0 (d 0 0) (-129)) &&
       !Instr.wf (.ld2 x 0 0 0 (d 0 128)) && !Instr.wf (.ldst x 0 0 0 (d (-129) 0)) && !Instr.wf (.branch x 0 4194304) &&
       !Instr.wf (.call x 0 (-4194305)) && !Instr.wf (.vld x 0 (m 16) 0 0) && !Instr.wf (.vst x 0 (m (-17)) 0 0) &&
       !Instr.wf (.vldff x (.contiguous 0 (m 16) 0 0)) && Instr.wf (.vldff x (.gather ⟨0, 0, 0, 0, 0, 0, false⟩)) && !Instr.wf (.vldp x 0 ⟨m 16, 0, 0⟩) &&
       !Instr.wf (.vstp x 0 ⟨m 16, 0, 0⟩) && !Instr.wf (.mfz x 0 4096) && !Instr.wf (.mtz x 0 4096) &&
       !Instr.wf (.vshrr x ⟨false, 0, 0, 0, 0, 0⟩ 32) && !Instr.wf (.vshls x ⟨false, 0, 0, 0, 0, 0⟩ 32) &&
       !Instr.wf (.vnarr x ⟨false, 0, 0, 0, 0, 0⟩ 32)) = true := by decide

theorem test_address_ranges :
    Instr.wf (.memoryRead 9 0 64 .none) && !Instr.wf (.memoryRead 65536 0 4 .none) && !Instr.wf (.memoryRead 9 (2 ^ 48) 0 .none) &&
      !Instr.wf (.memoryRead 9 (2 ^ 48 - 4) 4 .none) && !Instr.wf (.memoryWrite 65536 0 []) && !Instr.wf (.memoryWrite 9 (2 ^ 48 - 1) [⟨0, false⟩]) &&
      !Instr.wf (.writeMergeFlush 65536 0) && !Instr.wf (.writeMergeFlush 9 (2 ^ 48)) && !Instr.wf (.scrubVisit (2 ^ 48) .none) &&
      !Instr.wf (.repairRecordWrite (2 ^ 48)) && !Instr.wf (.controlMachineCheck 0 (2 ^ 48)) && !Instr.wf (.registerWrite (2 ^ 48) 4 0 false) &&
      !Instr.wf (.registerWrite 0 3 0 false) && !Instr.wf (.registerReadClear (2 ^ 48) 4) && !Instr.wf (.registerReadClear 0 16) &&
      !Instr.wf (.remoteWindowAccess 65536 0 0 none) && !Instr.wf (.remoteWindowAccess 9 (2 ^ 48) 0 none) &&
      !Instr.wf (.remoteWindowAccess 9 0 4 (some [])) = true := by decide

theorem test_host_ranges :
    Instr.wf (.bar0WriteDiscard 0xFFFFFF [0] false) && !Instr.wf (.bar0WriteDiscard 0x1000000 [0] false) &&
      !Instr.wf (.expertWindowAccess 0xFFFFFD 4 none false) && !Instr.wf (.expertWindowAccess 0 4 (some [0]) false) &&
      !Instr.wf (.relayHopTimeout 0 64) && !Instr.wf (.bar2Read 0xFFFFFFFFF 2) && !Instr.wf (.bar2Write 0x1000000000 [0] false) &&
      !Instr.wf (.mailboxRequestWrite 0 0x1000 [0]) && !Instr.wf (.relayEnumerateDone [⟨256, 0⟩]) && !Instr.wf (.relayEnumerateDone [⟨0, 4⟩]) &&
      !Instr.wf (.bootStageEnd ⟨some 65536, none, false, 0⟩) && !Instr.wf (.bootStageEnd ⟨none, some 5, false, 0⟩) &&
      !Instr.wf (.bootStageEnd ⟨none, some 0, false, 0⟩) = true := by decide

theorem test_list_lengths :
    !Instr.wf (.relayEnumerateDone (List.replicate 256 ⟨0, 0⟩)) && !Instr.wf (.eyeScanEnd 0 (List.replicate 4097 0)) &&
      !Instr.wf (.fronthaulRxFrame 0 ⟨true, true, .mgmt (List.replicate 9001 0)⟩) = true := by
  simp only [Instr.wf, FrameKind.wf, List.length_replicate]
  decide +kernel

theorem test_frame_and_link_ranges :
    (let f := fun (k : FrameKind) => Instr.wf (.fronthaulRxFrame 32 ⟨true, true, k⟩)
     let block := fun (prb n : Nat) => (⟨prb, List.replicate n 0⟩ : PrbBlock)
     f (.uplane 1 0 [block 274 28]) && !f (.uplane 65536 0 []) && !f (.uplane 1 0 [block 275 28]) && !f (.uplane 1 0 [block 0 29]) &&
       !f (.cplane 65536 0 0 0) && !f (.cplane 0 0 276 0) && !f (.cplane 0 0 0 276) && f .other && f (.delay []) &&
       !Instr.wf (.queueEnqueue 65536 0 []) && !Instr.wf (.queueEnqueue 9 1048576 (clean (leBytes 16 0))) &&
       !Instr.wf (.queueEnqueue 9 0 (clean (leBytes 8 0))) && !Instr.wf (.enqueueWriteResponse 1048576) && !Instr.wf (.queueDequeue 65536 0) &&
       !Instr.wf (.queueDequeue 9 1048576) && !Instr.wf (.dequeueReadReturn 1048576) && !Instr.wf (.dmaAbortComplete 0 0 4294967296) &&
       !Instr.wf (.linkTrainingEnd 0 0 [0, 0, 0, 0, 0, 0] 0 0) && !Instr.wf (.linkTrainingEnd 0 0 [] 4 0) &&
       !Instr.wf (.linkTrainingEnd 0 0 [] 0 256) && !Instr.wf (.linkPeriodReceive 0 (List.replicate 6 ⟨0, none⟩)) &&
       !Instr.wf (.linkPeriodReceive 0 [⟨0, some [true]⟩]) && !Instr.wf (.spanRequestTimeout 65536)) = true := by decide +kernel

/-- R56: the check value of the CRC over the ASCII digits 1 to 9. -/
theorem test_crc16_check : crc16 (by1 [0x31, 0x32, 0x33, 0x34, 0x35, 0x36, 0x37, 0x38, 0x39]) = 0x29B1 := by decide +kernel

/-- R28 to R30, the worked example of three carriers: ticks under a 120 kHz master. -/
theorem test_ticks_of_a_frame : [0, 1, 4, 8, 14, 16, 28, 56].map (symStart 3) = [0, 9280, 35584, 70656, 123264, 140800, 246016, 491520] ∧
    symStart 1 1 = 35584 ∧ symStart 0 1 = 70656 ∧ symsPerFrame 3 = 1120 ∧ slotsPerFrame 3 = 80 := by decide

/-- R170 to R176, the worked example of cameras at 59.94 Hz: at slot tick 26 the reservation of frame 1 lies in slots 42 and 43. -/
theorem test_camera_reservation :
    (let s := st [(Rg.DRM_STATUS, fw Fd.DRM_STATUS_running 1 ||| fw Fd.DRM_STATUS_master_scs_active 1), (Rg.DRM_SLOT_COUNT_LO, 26),
       (Rg.DRM_POSITION, fw Fd.DRM_POSITION_slot 6)]
     let b : Binding := ⟨9, leBytes 4 9 ++ by1 [9, 2, 16, 0] ++ leBytes 4 4000000 ++ leBytes 24 0, 0⟩
     let t := { s with
       drum := { s.drum with cur := some ⟨12779520, true, false, 0, 26, 0, s.phase 1⟩ }
       ppt := { (withCarrier [flow9]).ppt with accums := [⟨9, 51118080000000000, 0⟩], bindings := [b] } }
     (State.project (tickRef 26 0) 12779520 491520 32768000000 1 t b).ppt.reserves.map (·.slotRef)) = [tickRef 42 0, tickRef 43 0] := by
  decide +kernel

/-- What `exec` leaves, seen through a function. -/
def after {α : Type} (i : Instr) (s : State) (f : State → α) : Option α :=
  match exec i s with
  | .next t => some (f t)
  | _ => none

/-- R226, R229, the worked example of a gather with a bad index at lane 4: A3 at shared memory, V2 with lane 4 at 0x0020_0000. -/
def gathering : State :=
  let c := { core0 with
    a := [(3, ⟨0x1000000, false⟩)]
    v := [(2, ⟨BitVec.ofNat 512 (0x200000 * 2 ^ 128 + 3 * 2 ^ 96 + 2 * 2 ^ 64 + 2 ^ 32), 0⟩)]
    pc := 0x400 }
  more (coreIn c []) [(Rg.PWR_DOM (segDomain ((sharedBase 17 - sramBase) / 0x800000)), fw Fd.PWR_DOM_state 4)]

theorem test_gather_faults_at_lane_4 : after (.vgath here143 ⟨5, 2, 3, 0, 2, 2, true⟩) gathering (fun u =>
    (u.getF (Rg.ZCR_VSTART 143) Fd.ZCR_VSTART_vstart, u.getF (Rg.ZCR_ESR1 143) Fd.ZCR_ESR1_cause, u.rd (Rg.ZCR_EADDR 143),
      u.rd (Rg.ZCR_EPC1 143))) = some (4, 0x08, 0x1800000, 0x400) := by decide +kernel

theorem test_gather_first_fault_lowers_the_limit :
    after (.vldff here143 (.gather ⟨5, 2, 3, 0, 2, 2, true⟩)) gathering (fun u =>
      (u.getF (Rg.ZCR_VSTART 143) Fd.ZCR_VSTART_vstart, u.getF (Rg.ZCR_VLIM 143) Fd.ZCR_VLIM_vlim)) = some (0, 16) ∧
    after (.vlimp here143 4 0 2) (more gathering [(Rg.ZCR_VLIM 143, 16)]) (fun u => (u.core 143).pred 4) = some 0xF := by decide +kernel

/-- R348, R349, the worked example of the roof OCXO: steps of 256 codes toward 0x8_3D71, the last of 113. -/
theorem test_dac_steps : after (.dacStepTick 0 0x83D71) (dacIn 0 1 0 0 256 [(Rg.HDC_CH_OUT 0, 0x80000)]) (fun u => dacOut u.regs 0) = some 0x80100 ∧
    after (.dacStepTick 0 0x83D71) (dacIn 0 1 0 0 256 [(Rg.HDC_CH_OUT 0, 0x83D00)]) (fun u => dacOut u.regs 0) = some 0x83D71 := by decide +kernel

/-- R264, the worked example of an abort that loses the race: a channel that is done answers ALREADY_DONE. -/
theorem test_abort_of_a_finished_chain : after (.dmaAbort 19 3 1) (chanIn 3 0 2 0) (fun u =>
    u.getF (Rg.DMA_CH_ABORT_RESULT 19 3) Fd.DMA_CH_ABORT_RESULT_result) = some 2 := by decide +kernel

/-- R378, R379, the worked example of a false preamble: one 10 dB stronger restarts the search with its own window, counted. -/
theorem test_preamble_restarts : after (.preambleDetect (-12800 + 2560)) (lanternIn 1 []) (fun u =>
    (lntState u.regs, u.rd (Rg.LNT_CNT 3), u.lnt.pd)) = some (1, 1, -10240) := by decide +kernel

/-- R203, R204, R233, words by the tables of their fields: branches with cond and displacement, a call, CISS G3, [A4], decoder, held; a
reserved bit, opcode, engine or class. -/
theorem test_core_words :
    decodeCore 9 0x61000005 0 = .branch ⟨9, false⟩ 1 5 ∧ decodeCore 9 0x60FFFFFE 0 = .call ⟨9, false⟩ 0 (-2) ∧
    decodeCore 9 0xC0181180 0 = .ciss ⟨9, false⟩ 3 4 1 true ∧ decodeCore 9 0xC1014000 0 = .ccmt ⟨9, false⟩ 5 ∧
    decodeCore 9 0xC1014001 0 = reservedOn 9 ∧ decodeCore 9 0xC6000000 0 = reservedOn 9 ∧ decodeCore 9 0xC1014300 0 = reservedOn 9 ∧
    decodeCore 9 0xD0000000 0 = reservedOn 9 := by decide +kernel

/-- R203, words of classes whose opcodes the spec does not number: where the opcode is that of LD, the fields are size, rd, a, mode and
offset; where it is that of MAC, acc, rs1, rs2 and mod, whose bit 4 is reserved; a second word of class 0x5 with a reserved bit. -/
theorem test_core_fields :
    (Config.opcode 0x4 0 = 0 → decodeCore 9 0x408680FF 0 = .load ⟨9, false⟩ .g 2 3 ⟨4, 0, 255⟩) ∧
    (Config.opcode 0x2 0 = 0 → decodeCore 9 0x20214807 0 = .mac ⟨9, false⟩ 4 5 4 true true 1) ∧
    decodeCore 9 0x20214810 0 = reservedOn 9 ∧ decodeCore 9 0x50000000 1 = reservedOn 9 := by
  refine ⟨fun h => ?_, fun h => ?_, by decide +kernel, by decide +kernel⟩
  · show decodeMem 9 0x408680FF = _
    unfold decodeMem
    have : fieldOf 0x408680FF 27 24 = 0 := by decide
    rw [this, h]
    decide
  · show decodeMac 9 0x20214807 = _
    unfold decodeMac
    have : fieldOf 0x20214807 27 22 = 0 := by decide
    rw [this, h]
    decide

/-- Core 143 with A4 in far window 0, which leads to device 1 over link 2. -/
def farOff : State :=
  more (coreIn { core0 with a := [(4, ⟨0x40000040, false⟩)] } []) ((Rg.ZCR_FAR0_BASE 143, fw Fd.ZCR_FAR0_BASE_base 0x4400) :: routes)

/-- The hypotheses of the statement about accesses to other devices; the answer, then the load again, completes it. -/
theorem witness_remote_access :
    (farOff.issues 143 = true ∧ atLoopEnd (loopsOf farOff.regs 143) (farOff.core 143).pc = false ∧
      farOff.span.busy (coreAgent 143) = false ∧ regOk .g 2 3 = true ∧ (farOff.core 143).ea ⟨4, 0, 0⟩ 4 4 = .at 0x40000040 0x40000040 ∧
      coreTarget farOff.regs 143 0x40000040 = .dev 0x110000000040 ∧ placeOf farOff.regs 0x110000000040 = .there 1 2 0x40) ∧
    (let s := { farOff with span := { farOff.span with answers := [⟨coreAgent 143, 1, 0x40, 4, false, [], some (clean (leBytes 4 7))⟩] } }
     s.span.outstanding (coreAgent 143) = false ∧ (s.core 143).issuing = [] ∧
       after (.load here143 .g 2 3 ⟨4, 0, 0⟩) s (fun u => ((u.core 143).reg .g 3, u.span.answers)) = some (⟨7, false⟩, [])) ∧
    after (.load here143 .g 2 3 ⟨4, 0, 0⟩) farOff (fun u => (u.span.outstanding (coreAgent 143), (u.core 143).pc)) = some (true, 0) := by
  and_intros <;> decide +kernel

/-- The hypotheses of the statement about a squash: a load whose answer is an error, and a CISS sent ahead of it. -/
theorem witness_squash :
    let g := { Tag.reset with state := .issued, seq := 3, eng := 1 }
    let i : Issuing := ⟨0x305, 5, ⟨9, false⟩, true⟩
    let s := commanding g 0x305 [5]
    let c := { s.core 143 with g := [(5, ⟨0x305, false⟩)], a := [(4, ⟨0x40000040, false⟩)], issuing := [i] }
    let t := more (s.setCore 143 c) ((Rg.ZCR_FAR0_BASE 143, fw Fd.ZCR_FAR0_BASE_base 0x4400) :: routes)
    let t := { t with span := { t.span with answers := [⟨coreAgent 143, 1, 0x40, 4, false, [], none⟩] } }
    t.issues 143 = true ∧ t.span.outstanding (coreAgent 143) = false ∧ regOk .g 2 3 = true ∧
      (c.setReg .g 5 i.old).ea ⟨4, 0, 0⟩ 4 4 = .at 0x40000040 0x40000040 ∧ coreTarget t.regs 143 0x40000040 = .dev 0x110000000040 ∧
      placeOf t.regs 0x110000000040 = .there 1 2 0x40 ∧ (t.core 143).issuing = [i] ∧ (t.core 143).reg .g 5 = ⟨i.handle, false⟩ ∧
      ((t.cup 17).tag (handleTag i.handle)).state = .issued ∧ ((t.cup 17).tag (handleTag i.handle)).seq = handleSeq i.handle ∧
      coreLevel t.regs 143 = 0 ∧
      after (.load here143 .g 2 3 ⟨4, 0, 0⟩) t (fun u => ((u.core 143).reg .g 5, ((u.cup 17).tag 5).state)) = some (⟨9, false⟩, .free) := by
  and_intros <;> decide +kernel

/-- A relay message for device 9 over link 2, as the fourth device of its path numbers it or as a PING of its own. -/
def relayMsg (number : Bool) : Packet :=
  let c := req 0x0002 []
  ⟨5, false, 2, 7, 9, 7, 32, 2 * 0x2000 + (if number then 2 ^ 47 else 1), 0, clean c.head⟩

/-- A device in relay mode with one received packet on link 2. -/
def relayDev (self : RelaySelf) (p : Packet) : State :=
  let s := st [(Rg.SPN_CTRL, fw Fd.SPN_CTRL_mode 1)]
  { s with host := { s.host with self := self }, span := { s.span with links := [(2, { Link.reset with rxPkts := [p] })] } }

/-- The hypotheses of the statement about relay messages: a device is numbered; a request from upstream is served and its answer waits for
the link; one from below is there too. -/
theorem witness_relay :
    numbering (relayMsg true) = true ∧ relayEnds (relayMsg true) = true ∧ numbering (relayMsg false) = false ∧
      relayEnds (relayMsg false) = true ∧ relayMode (relayDev ⟨0, 0xFF, 0xFF⟩ (relayMsg true)).regs = true ∧
      after (.spanPacketReceive 2) (relayDev ⟨0, 0xFF, 0xFF⟩ (relayMsg true)) (fun u => u.host.self) = some ⟨9, 7, 2⟩ ∧
      after (.spanPacketReceive 2) (relayDev ⟨9, 7, 2⟩ (relayMsg false)) (fun u =>
        (u.waiting 0 == some (relayRequest 2 (relayMsg false)), after (.ping 0) u (fun v => (v.host.relayOut.map (·.1), v.host.cmds)))) =
          some (true, some ([2], [])) := by
  and_intros <;> decide +kernel

/-- A stop of Drum that a takeover aborts is undone; a request that stands behind one on the same object is not taken (R64, R73). -/
theorem test_order_and_undo :
    (let c := { req 0x0105 [] with phase := .pending, mbx := none }
     let s := live { st [] with host := { (st []).host with cmds := [c] } }
     (s.undoAll false).getF Rg.DRM_CTRL Fd.DRM_CTRL_enable = 1) ∧
    (let s := { st [] with host := { (st []).host with cmds := [req 0x0102 (leBytes 4 3) 6, req 0x0103 (leBytes 4 3)] } }
     s.waiting 5 = none ∧ s.waiting 6 = some (req 0x0102 (leBytes 4 3) 6)) := by
  and_intros <;> decide +kernel

/-- The table gives its rows no bits: no word spells a command, and the queue of waiting commands stands. -/
theorem test_no_word_spells_a_command : decodeTableWord 32 0 = none ∧ (st []).withFetchWord 32 0 = st [] := ⟨rfl, rfl⟩
end Sys2Proof.Tests
end

section
/-! Rules of the core's state: what the shared updates leave to read in registers and in cores. -/
namespace Sys2Proof.Machine

/-- The contents of a register are those of the register table. -/
theorem State.rd_eq_rdR (s : State) (a : Nat) : s.rd a = rdR s.regs a := rfl

/-- A 64-bit quantity depends on its two registers only. -/
theorem State.rd64_congr {s t : State} {a : Nat} (hlo : t.rd a = s.rd a) (hhi : t.rd (a + 4) = s.rd (a + 4)) :
    t.rd64 a = s.rd64 a := by rw [State.rd64, State.rd64, hlo, hhi]

/-- Setting a field to the value it reads changes no bit of the word. -/
theorem Fld.set_eq_self (f : Fld) (w : Word) (n : Nat) (h : f.lo + f.width ≤ 32) (hn : n % 2 ^ f.width = f.get w) :
    f.set w n = w := by
  have hsplit : w.toNat / 2 ^ f.lo / 2 ^ f.width = w.toNat / 2 ^ (f.lo + f.width) := by rw [Nat.div_div_eq_div_mul, Nat.pow_add]
  have hlow := Nat.mod_add_div w.toNat (2 ^ f.lo)
  have hhigh := Nat.mod_add_div (w.toNat / 2 ^ f.lo) (2 ^ f.width)
  apply BitVec.eq_of_toNat_eq
  rw [Fld.set_toNat f w n h, hn, Fld.get]
  calc _ = w.toNat % 2 ^ f.lo +
        2 ^ f.lo * (w.toNat / 2 ^ f.lo % 2 ^ f.width + 2 ^ f.width * (w.toNat / 2 ^ (f.lo + f.width))) := by
          rw [Nat.mul_add, ← Nat.mul_assoc, ← Nat.pow_add, ← Nat.add_assoc, Nat.mul_comm (2 ^ f.lo),
            Nat.mul_comm (2 ^ (f.lo + f.width))]
    _ = w.toNat := by rw [← hsplit, hhigh, hlow]

/-- A 64-bit quantity reads what was written, cut to 64 bits. -/
theorem rd64R_wr64R_same (m : SMap Word) (a n : Nat) : rd64R (wr64R m a n) a = n % 2 ^ 64 := by
  simp only [rd64R, wr64R, rdR_wrR_same, rdR_wrR_other _ _ _ _ (show a ≠ a + 4 by omega), BitVec.toNat_ofNat]
  omega

theorem rdR_wr64R_other (m : SMap Word) (a b n : Nat) (hlo : b ≠ a) (hhi : b ≠ a + 4) : rdR (wr64R m a n) b = rdR m b := by
  simp [wr64R, rdR_wrR, hlo, hhi]

@[simp] theorem State.core_setCore_same (s : State) (k : Nat) (c : Core) : (s.setCore k c).core k = c := Map.get_set_same ..

theorem State.core_setCore_other (s : State) (k j : Nat) (c : Core) (h : j ≠ k) : (s.setCore k c).core j = s.core j :=
  Map.get_set_other _ _ _ _ _ h

@[simp] theorem State.core_with_regs (s : State) (m : SMap Word) (k : Nat) : { s with regs := m }.core k = s.core k := rfl

@[simp] theorem State.core_setPc_same (s : State) (k : Nat) (pc : Word) : (s.setPc k pc).core k = { s.core k with pc := pc } :=
  s.core_setCore_same k _

theorem State.core_setPc_other (s : State) (k j : Nat) (pc : Word) (h : j ≠ k) : (s.setPc k pc).core j = s.core j :=
  s.core_setCore_other k j _ h

@[simp] theorem State.core_tickCore_same (s : State) (k : Nat) : (s.tickCore k).core k = { s.core k with waiting := false } :=
  Map.get_set_same ..

@[simp] theorem State.reg_tickCore (s : State) (k : Nat) (f : RegFile) (i : Nat) :
    ((s.tickCore k).core k).reg f i = (s.core k).reg f i := by rw [State.core_tickCore_same]; rfl

theorem State.core_tickCore_other (s : State) (k j : Nat) (h : j ≠ k) : (s.tickCore k).core j = s.core j :=
  Map.get_set_other _ _ _ _ _ h

/-- ZCR_CYCLES counts one cycle of the core, modulo 2^64 (R385). -/
theorem State.rd64_tickCore (s : State) (k : Nat) :
    (s.tickCore k).rd64 (Rg.ZCR_CYCLES_LO k) = (s.rd64 (Rg.ZCR_CYCLES_LO k) + 1) % 2 ^ 64 :=
  (rd64R_wr64R_same ..).trans (Nat.mod_mod ..)

theorem State.rd_tickCore_other (s : State) (k a : Nat) (hlo : a ≠ Rg.ZCR_CYCLES_LO k) (hhi : a ≠ Rg.ZCR_CYCLES_LO k + 4) :
    (s.tickCore k).rd a = s.rd a := rdR_wr64R_other _ _ _ _ hlo hhi

theorem State.status_tickCore (s : State) (k : Nat) : (s.tickCore k).rd (Rg.ZCR_STATUS k) = s.rd (Rg.ZCR_STATUS k) :=
  s.rd_tickCore_other _ _ (by unfold Rg.ZCR_STATUS Rg.ZCR_CYCLES_LO; omega) (by unfold Rg.ZCR_STATUS Rg.ZCR_CYCLES_LO; omega)

/-- Nothing is taken from the answers while the agent is in no access (R187). -/
theorem Span.settle_of_not_busy (p : Span) (agent : Nat) (h : p.busy agent = false) : p.settle agent = p := by
  have hans : p.answers.filter (fun r => r.agent != agent) = p.answers := by
    simp only [Span.busy, Bool.or_eq_false_iff, List.any_eq_false, beq_iff_eq] at h
    simpa [List.filter_eq_self] using h.2
  simp [Span.settle, hans]

theorem Span.outstanding_of_not_busy (p : Span) (agent : Nat) (h : p.busy agent = false) : p.outstanding agent = false :=
  (Bool.or_eq_false_iff.mp h).1

/-- General operands without poison reach the operation (R198). -/
theorem arith2_clean (s : State) (a b : SReg) (go : Word → Word → Act) (ha : a.p = false) (hb : b.p = false) :
    arith2 s a b go = go a.v b.v := by simp [arith2, ha, hb]

/-! Loops (R196): behind an instruction at which no active level ends, the loop registers hold what they held. -/

theorem loopEnd_of_not_atLoopEnd (n : Nat) (l : Loops) (pc next : Word) (h : atLoopEnd l pc = false) :
    loopEnd (n + 1) l pc next = (l, next) := by
  have hend : l.depth = 0 ∨ nth 0 l.last (l.depth - 1) ≠ pc := by
    rcases Nat.eq_zero_or_pos l.depth with h0 | hpos
    · exact .inl h0
    · simp only [atLoopEnd, List.any_eq_false, List.mem_range, beq_iff_eq] at h
      exact .inr (h _ (by omega))
  simp only [loopEnd, if_pos hend]

/-- The loop state depends on the loop registers only. -/
theorem loopsOf_congr (m m' : SMap Word) (k : Nat) (h : ∀ a ∈ Claims.loopRegs k, rdR m' a = rdR m a) :
    loopsOf m' k = loopsOf m k := by
  simp only [Claims.loopRegs, List.mem_cons, List.mem_flatMap, List.mem_range] at h
  have hdepth := h _ (.inl rfl)
  have hlevel (n : Nat) (hn : n ∈ List.range 4) := fun a ha => h a (.inr ⟨n, List.mem_range.mp hn, ha⟩)
  simp only [loopsOf, getR, hdepth, Loops.mk.injEq, List.map_inj_left, true_and]
  exact ⟨fun n hn => hlevel n hn _ (by simp), fun n hn => hlevel n hn _ (by simp), fun n hn => hlevel n hn _ (by simp)⟩

/-- The loop registers lie at offsets 0x14 and 0x20 to 0x5F of the core's frame. -/
theorem offset_of_mem_loopRegs {k a : Nat} (h : a ∈ Claims.loopRegs k) :
    ∃ off, a = 0x20000200000 + 0x1000 * k + off ∧ (off = 0x14 ∨ 0x20 ≤ off ∧ off < 0x60) := by
  simp only [Claims.loopRegs, List.mem_cons, List.mem_flatMap, List.mem_range, List.not_mem_nil, or_false, Rg.ZCR_LOOP_DEPTH,
    Rg.ZCR_LOOP_START, Rg.ZCR_LOOP_END, Rg.ZCR_LOOP_COUNT] at h
  refine ⟨a - (0x20000200000 + 0x1000 * k), ?_⟩
  obtain h | ⟨n, hn, h⟩ := h <;> omega

/-- No loop register is one of the cycle count. -/
theorem ne_cycles_of_mem_loopRegs {k a : Nat} (h : a ∈ Claims.loopRegs k) : a ≠ Rg.ZCR_CYCLES_LO k ∧ a ≠ Rg.ZCR_CYCLES_LO k + 4 := by
  obtain ⟨off, rfl, hoff⟩ := offset_of_mem_loopRegs h
  unfold Rg.ZCR_CYCLES_LO
  omega

/-- Two register tables hold the same contents. -/
def SameRegs (m m' : SMap Word) : Prop := ∀ a, rdR m' a = rdR m a

theorem SameRegs.getR_eq {m m' : SMap Word} (h : SameRegs m m') (a : Nat) (f : Fld) : getR m' a f = getR m a f := by
  rw [getR, getR, h a]

/-- Writing to a register what it reads changes no register. -/
theorem SameRegs.wrR {m m' : SMap Word} (h : SameRegs m m') {a : Nat} {v : Word} (hv : v = rdR m a) : SameRegs m (wrR m' a v) := by
  intro b
  rw [rdR_wrR]
  split
  · next hb => rw [hb, hv]
  · exact h b

/-- Writing to a field what it reads changes no register. -/
theorem SameRegs.putR {m m' : SMap Word} (h : SameRegs m m') {a : Nat} {f : Fld} {n : Nat} (hf : f.lo + f.width ≤ 32)
    (hn : n % 2 ^ f.width = getR m a f) : SameRegs m (putR m' a f n) :=
  h.wrR (by rw [h a]; exact Fld.set_eq_self f _ n hf hn)

/-- Putting back the loop state that the registers show changes no register. -/
theorem sameRegs_putLoops_loopsOf (m : SMap Word) (k : Nat) : SameRegs m (putLoops m k (loopsOf m k)) := by
  have hdepth : SameRegs m (Machine.putR m (Rg.ZCR_LOOP_DEPTH k) Fd.ZCR_LOOP_DEPTH_depth (loopsOf m k).depth) :=
    SameRegs.putR (fun _ => rfl) (by decide) (Nat.mod_mod ..)
  refine List.foldlRecOn (motive := SameRegs m) _ _ hdepth fun m' hm' n hn => ?_
  have hn : n < 4 := List.mem_range.mp hn
  refine ((hm'.wrR ?_).wrR ?_).putR (by decide) ?_ <;> simp [loopsOf, nth, hn, getR, Fld.get]

/-- An instruction of a core that runs, whose body completes without an access to another device and leaves the loop registers, ends in
the state of its body, with the program counter behind it (R196, R204). -/
theorem State.runIns_of_ok (s u : State) (x : Ins) (len : Nat) (notLast : Bool) (body : State → Act) (hr : Claims.Runs x s)
    (hb : body (s.tickCore x.core) = .ok u) (hspan : u.span = s.span) (hl : loopsOf u.regs x.core = loopsOf s.regs x.core) :
    ∃ m, SameRegs u.regs m ∧ s.runIns x len notLast body =
      { u with regs := m }.setPc x.core ((s.core x.core).pc + BitVec.ofNat 32 len) := by
  obtain ⟨hissues, hlegal, hloop, hbusy⟩ := hr
  have hbusy' : u.span.busy (coreAgent x.core) = false := hspan ▸ hbusy
  have hsettled : (Act.ok u).settled (s.tickCore x.core) (coreAgent x.core) = .ok u := by
    simp [Act.settled, Act.state, Act.map, Span.outstanding_of_not_busy, Span.settle_of_not_busy, hbusy']
  refine ⟨_, sameRegs_putLoops_loopsOf u.regs x.core, ?_⟩
  simp only [State.runIns, hissues, Span.outstanding_of_not_busy _ _ hbusy, hbusy, hlegal, hloop, hb, hsettled, hl, goOn,
    loopEnd_of_not_atLoopEnd 3 _ _ _ hloop, Bool.not_true, Bool.or_self, Bool.and_false, Bool.false_eq_true, if_false]

/-- `u` is `t` but for core `k` and the registers `l`. -/
structure CoreFrame (k : Nat) (l : List Nat) (t u : State) : Prop where
  state : u = { t with regs := u.regs, cores := u.cores }
  cores : ∀ j, j ≠ k → u.core j = t.core j
  regs : Claims.RegsBut l t u

/-- Setting a register's field adds it to the registers of a frame. -/
theorem CoreFrame.putR {k : Nat} {l : List Nat} {t u : State} (h : CoreFrame k l t u) (a : Nat) (f : Fld) (n : Nat) :
    CoreFrame k (l ++ [a]) t { u with regs := Machine.putR u.regs a f n } := by
  refine ⟨?_, h.cores, fun b hb => ?_⟩
  · conv => lhs; rw [h.state]
  · simp only [List.mem_append, List.mem_singleton, not_or] at hb
    exact (rdR_putR ..).trans ((if_neg hb.2).trans (h.regs b hb.1))

/-- The registers that a core's instruction changes by itself: its cycle count and its loop registers (R196). -/
def stepRegs (k : Nat) : List Nat := Rg.ZCR_CYCLES_LO k :: (Rg.ZCR_CYCLES_LO k + 4) :: Claims.loopRegs k

/-- They lie at offsets 0x14, 0x20 to 0x5F, 0x90 and 0x94 of the core's frame. -/
theorem offset_of_mem_stepRegs {k a : Nat} (h : a ∈ stepRegs k) : ∃ off, a = 0x20000200000 + 0x1000 * k + off ∧
    (off = 0x14 ∨ 0x20 ≤ off ∧ off < 0x60 ∨ off = 0x90 ∨ off = 0x94) := by
  simp only [stepRegs, List.mem_cons] at h
  rcases h with rfl | rfl | h
  · exact ⟨0x90, by unfold Rg.ZCR_CYCLES_LO; omega, by omega⟩
  · exact ⟨0x94, by unfold Rg.ZCR_CYCLES_LO; omega, by omega⟩
  · obtain ⟨off, hoff, hin⟩ := offset_of_mem_loopRegs h
    exact ⟨off, hoff, by omega⟩

/-- An instruction whose body completes within a frame is done (R204): the registers of its body's state stand, and of its core only the
program counter goes on. -/
theorem State.done_of_ok (s u : State) (x : Ins) (len : Nat) (notLast : Bool) (body : State → Act) (l : List Nat) (hr : Claims.Runs x s)
    (hb : body (s.tickCore x.core) = .ok u) (hu : CoreFrame x.core l (s.tickCore x.core) u) (hl : ∀ a ∈ l, a ∉ stepRegs x.core) :
    Claims.Done x len l s (s.runIns x len notLast body) ∧ SameRegs u.regs (s.runIns x len notLast body).regs ∧
      (s.runIns x len notLast body).core x.core = { u.core x.core with pc := (s.core x.core).pc + BitVec.ofNat 32 len } := by
  have hspan : u.span = s.span := by rw [hu.state]; rfl
  have hstep : ∀ a ∈ stepRegs x.core, u.rd a = (s.tickCore x.core).rd a := fun a ha => hu.regs a fun hal => hl a hal ha
  have hloops : loopsOf u.regs x.core = loopsOf s.regs x.core := loopsOf_congr _ _ _ fun a ha =>
    have ⟨hlo, hhi⟩ := ne_cycles_of_mem_loopRegs ha
    (hstep a (by simp [stepRegs, ha])).trans (s.rd_tickCore_other _ a hlo hhi)
  obtain ⟨m, hsame, hrun⟩ := s.runIns_of_ok u x len notLast body hr hb hspan hloops
  rw [hrun]
  refine ⟨⟨⟨?_, ?_, fun j hj => ?_⟩, fun a ha => ?_, ?_⟩, hsame, ?_⟩
  · simp
  · rw [← State.rd64_tickCore]
    exact State.rd64_congr ((hsame _).trans (hstep _ (.head _))) ((hsame _).trans (hstep _ (.tail _ (.head _))))
  · exact (State.core_setPc_other _ _ _ _ hj).trans ((hu.cores j hj).trans (s.core_tickCore_other _ j hj))
  · simp only [List.mem_cons, not_or] at ha
    obtain ⟨hlo, hhi, hal⟩ := ha
    exact (hsame a).trans ((hu.regs a hal).trans (s.rd_tickCore_other _ a hlo hhi))
  · rw [hu.state]; rfl
  · simp

end Sys2Proof.Machine
end

section
/-! Rules of the vector extension (R214, R225): predicates, and the end of a vector instruction. -/
namespace Sys2Proof.Machine

/-- The number that holds the first `n` elements of a predicate, one bit an element (R214). -/
def predNat (n : Nat) (f : Nat → Bool) : Nat := (List.range n).foldl (fun r i => r + (if f i then 2 ^ i else 0)) 0

theorem predNat_succ (n : Nat) (f : Nat → Bool) : predNat (n + 1) f = 2 ^ n * (f n).toNat + predNat n f := by
  cases h : f n <;> simp [predNat, List.range_succ, h, Nat.add_comm]

theorem predNat_lt (n : Nat) (f : Nat → Bool) : predNat n f < 2 ^ n := by
  induction n with
  | zero => simp [predNat]
  | succ n ih =>
    have hle : 2 ^ n * (f n).toNat ≤ 2 ^ n * 1 := Nat.mul_le_mul_left _ (Bool.toNat_le _)
    rw [predNat_succ, Nat.pow_succ]
    omega

theorem testBit_predNat (n : Nat) (f : Nat → Bool) (i : Nat) : (predNat n f).testBit i = (decide (i < n) && f i) := by
  induction n with
  | zero => simp [predNat]
  | succ n ih =>
    rw [predNat_succ, Nat.testBit_two_pow_mul_add _ (predNat_lt n f), ih]
    rcases Nat.lt_trichotomy i n with hi | rfl | hi
    · simp [hi, show i < n + 1 by omega]
    · cases f i <;> simp
    · have hpow : 2 ^ 1 ≤ 2 ^ (i - n) := Nat.pow_le_pow_right (by decide) (by omega)
      have hbit : (f n).toNat < 2 ^ (i - n) := Nat.lt_of_lt_of_le (Bool.toNat_lt _) hpow
      simp [Nat.testBit_lt_two_pow hbit, show ¬ i < n by omega, show ¬ i < n + 1 by omega]

/-- Element `i` of a predicate; those from `n` on are clear (R214). -/
theorem getLsbD_pmake (n : Nat) (f : Nat → Bool) (hn : n ≤ 64) (i : Nat) : (pmake n f).getLsbD i = (decide (i < n) && f i) := by
  rw [show pmake n f = BitVec.ofNat 64 (predNat n f) from rfl, BitVec.getLsbD_ofNat, testBit_predNat]
  by_cases hi : i < n
  · simp [hi, show i < 64 by omega]
  · simp [hi]

/-- A written predicate register reads the value, but for PD0 (R214). -/
theorem Core.pred_setPred_same (c : Core) (d : Nat) (p : BitVec 64) (h : d ≠ 0) : (c.setPred d p).pred d = p := by
  simp [Core.pred, Core.setPred, h]

/-- The other predicate registers, and PD0, read as before (R214). -/
theorem Core.pred_setPred_other (c : Core) (d j : Nat) (p : BitVec 64) (h : j ≠ d ∨ j = 0) : (c.setPred d p).pred j = c.pred j := by
  by_cases hj : j = 0
  · simp [Core.pred, hj]
  · by_cases hd : d = 0
    · simp [Core.setPred, hd]
    · simp [Core.pred, Core.setPred, hj, hd, Map.get_set_other _ _ _ _ _ (h.resolve_right hj)]

/-- A write of a predicate register changes no other part of the core. -/
theorem Core.setPred_eq (c : Core) (d : Nat) (p : BitVec 64) : c.setPred d p = { c with pd := (c.setPred d p).pd } := by
  unfold Core.setPred
  split <;> rfl

theorem Core.pd_setPred (c : Core) (d : Nat) (p : BitVec 64) :
    (c.setPred d p).pd = if d = 0 then c.pd else Map.set 0 c.pd d p := by
  unfold Core.setPred
  split <;> rfl

/-- A written general register reads the value. -/
theorem Core.reg_setReg_g_same (c : Core) (d : Nat) (r : SReg) : (c.setReg .g d r).reg .g d = r := Map.get_set_same ..

theorem Core.reg_setReg_g_other (c : Core) (d i : Nat) (r : SReg) (h : i ≠ d) : (c.setReg .g d r).reg .g i = c.reg .g i :=
  Map.get_set_other _ _ _ _ _ h

@[simp] theorem State.core_vend_same (s : State) (k : Nat) (c : Core) : (s.vend k c).core k = c := Map.get_set_same ..

/-- The end of a vector instruction changes its core and VSTART, and no other register (R225). -/
theorem State.coreFrame_vend (s : State) (k : Nat) (c : Core) : CoreFrame k [Rg.ZCR_VSTART k] s (s.vend k c) where
  state := rfl
  cores _ hj := Map.get_set_other _ _ _ _ _ hj
  regs _ ha := (rdR_putR ..).trans (if_neg (fun h => ha (List.mem_singleton.mpr h)))

/-- A vector instruction that completes leaves VSTART at 0 (R225). -/
theorem State.vstart_vend (s : State) (k : Nat) (c : Core) : getR (s.vend k c).regs (Rg.ZCR_VSTART k) Fd.ZCR_VSTART_vstart = 0 :=
  getR_putR_same _ _ _ _ (by decide)

theorem vstart_not_mem_stepRegs (k : Nat) : Rg.ZCR_VSTART k ∉ stepRegs k := by
  intro h
  obtain ⟨off, hoff, hin⟩ := offset_of_mem_stepRegs h
  unfold Rg.ZCR_VSTART at hoff
  omega

theorem status_not_mem_stepRegs (k : Nat) : Rg.ZCR_STATUS k ∉ stepRegs k := by
  intro h
  obtain ⟨off, hoff, hin⟩ := offset_of_mem_stepRegs h
  unfold Rg.ZCR_STATUS at hoff
  omega

/-- A vector instruction whose body ends with the core `c` is done (R225). -/
theorem State.done_of_vend (s : State) (x : Ins) (body : State → Act) (c : Core) (hr : Claims.Runs x s)
    (hb : body (s.tickCore x.core) = .ok ((s.tickCore x.core).vend x.core c)) :
    Claims.Done x 4 [Rg.ZCR_VSTART x.core] s (s.vrun x body) ∧
      (s.vrun x body).core x.core = { c with pc := (s.core x.core).pc + 4 } ∧
      (s.vrun x body).getF (Rg.ZCR_VSTART x.core) Fd.ZCR_VSTART_vstart = 0 := by
  obtain ⟨hdone, hregs, hcore⟩ := s.done_of_ok _ x 4 false body _ hr hb (State.coreFrame_vend ..)
    (by simp [vstart_not_mem_stepRegs])
  rw [State.core_vend_same] at hcore
  exact ⟨hdone, hcore, (hregs.getR_eq _ _).trans (State.vstart_vend ..)⟩

end Sys2Proof.Machine
end

section
/-! Strip-mining (R216, R217). -/
namespace Sys2Proof.Machine
open Sys2Proof.Claims

/-- What VPLT's body leaves where it completes (R216): the predicate, VSTART, and element 0 as F. -/
def State.vpltEnd (t : State) (k pd n : Nat) (f : Nat → Bool) : State :=
  let v := t.vend k ((t.core k).setPred pd (pmake n f))
  { v with regs := putFlag v.regs k (f 0) }

theorem State.coreFrame_vpltEnd (t : State) (k pd n : Nat) (f : Nat → Bool) :
    CoreFrame k [Rg.ZCR_VSTART k, Rg.ZCR_STATUS k] t (t.vpltEnd k pd n f) := (t.coreFrame_vend k _).putR ..

theorem State.core_vpltEnd (t : State) (k pd n : Nat) (f : Nat → Bool) :
    (t.vpltEnd k pd n f).core k = (t.core k).setPred pd (pmake n f) := Map.get_set_same ..

theorem State.vstart_vpltEnd (t : State) (k pd n : Nat) (f : Nat → Bool) :
    getR (t.vpltEnd k pd n f).regs (Rg.ZCR_VSTART k) Fd.ZCR_VSTART_vstart = 0 :=
  (getR_putR_reg _ _ _ _ _ _ (by unfold Rg.ZCR_VSTART Rg.ZCR_STATUS; omega)).trans (t.vstart_vend k _)

theorem State.status_vpltEnd (t : State) (k pd n : Nat) (f : Nat → Bool) :
    rdR (t.vpltEnd k pd n f).regs (Rg.ZCR_STATUS k) = Fd.ZCR_STATUS_f.set (t.rd (Rg.ZCR_STATUS k)) (b2n (f 0)) := by
  have hvend : rdR (t.vend k ((t.core k).setPred pd (pmake n f))).regs (Rg.ZCR_STATUS k) = t.rd (Rg.ZCR_STATUS k) :=
    (t.coreFrame_vend k _).regs _ (by simp)
  rw [← hvend]
  exact (rdR_putR ..).trans (if_pos rfl)

/-- VPLT executes a body that completes, where the width is not reserved and the operands carry no poison (R198, R216). -/
theorem exec_vplt_clean (s : State) (x : Ins) (pd : Fin 16) (gs gt : Fin 32) (esz : Fin 4) (hesz : esz.val < 3)
    (hgs : ((s.core x.core).reg .g gs).p = false) (hgt : ((s.core x.core).reg .g gt).p = false) :
    ∃ body, exec (.vplt x pd gs gt esz) s = .next (s.vrun x body) ∧
      body (s.tickCore x.core) = .ok ((s.tickCore x.core).vpltEnd x.core pd (64 / 2 ^ esz.val)
        fun i => decide (((s.core x.core).reg .g gs).v.toNat + i < ((s.core x.core).reg .g gt).v.toNat)) := by
  refine ⟨_, rfl, ?_⟩
  simp only [State.reg_tickCore, arith2_clean _ _ _ _ hgs hgt, if_neg (show esz.val ≠ 3 by omega)]
  rfl

/-- VPLT of operands without poison writes one predicate register whole, F and VSTART (R216, R225). -/
theorem vplt_sets_elements_below (s : State) (x : Ins) (pd : Fin 16) (gs gt : Fin 32) (esz : Fin 4) (hr : Runs x s)
    (hesz : esz.val < 3) (hgs : ((s.core x.core).reg .g gs).p = false) (hgt : ((s.core x.core).reg .g gt).p = false) :
    let k := x.core.val
    let c := s.core k
    let below := fun i => decide ((c.reg .g gs).v.toNat + i < (c.reg .g gt).v.toNat)
    Answers (.vplt x pd gs gt esz) s fun u => Done x 4 [Rg.ZCR_VSTART k, Rg.ZCR_STATUS k] s u ∧
      u.core k = { c with pd := (c.setPred pd (pmake (64 / 2 ^ esz.val) below)).pd, pc := c.pc + 4, waiting := false } ∧
      u.rd (Rg.ZCR_STATUS k) = Fd.ZCR_STATUS_f.set (s.rd (Rg.ZCR_STATUS k)) (b2n (below 0)) ∧
      u.getF (Rg.ZCR_VSTART k) Fd.ZCR_VSTART_vstart = 0 := by
  intro k c below
  obtain ⟨body, hexec, hbody⟩ := exec_vplt_clean s x pd gs gt esz hesz hgs hgt
  obtain ⟨hdone, hregs, hcore⟩ := s.done_of_ok _ x 4 false body _ hr hbody (State.coreFrame_vpltEnd ..)
    (by simp [vstart_not_mem_stepRegs, status_not_mem_stepRegs])
  refine ⟨_, hexec, hdone, ?_, ?_, (hregs.getR_eq _ _).trans (State.vstart_vpltEnd ..)⟩
  · rw [Core.pd_setPred]
    refine hcore.trans ?_
    rw [State.core_vpltEnd, State.core_tickCore_same, Core.setPred_eq, Core.pd_setPred]
    rfl
  · exact (hregs _).trans ((State.status_vpltEnd ..).trans (by rw [State.status_tickCore]))

/-- VINC executes a body that completes, where the width is not reserved and the register carries no poison (R198, R217). -/
theorem exec_vinc_clean (s : State) (x : Ins) (gd : Fin 32) (esz : Fin 4) (hesz : esz.val < 3)
    (hgd : ((s.core x.core).reg .g gd).p = false) :
    ∃ body, exec (.vinc x gd esz) s = .next (s.vrun x body) ∧
      body (s.tickCore x.core) = .ok ((s.tickCore x.core).vend x.core (((s.tickCore x.core).core x.core).setReg .g gd
        ⟨((s.core x.core).reg .g gd).v + BitVec.ofNat 32 (64 / 2 ^ esz.val), false⟩)) := by
  refine ⟨_, rfl, ?_⟩
  simp only [State.reg_tickCore, arith2_clean _ _ _ _ hgd hgd, if_neg (show esz.val ≠ 3 by omega)]
  rfl

/-- VINC of a register without poison adds the number of elements to it (R217). -/
theorem vinc_adds_element_count (s : State) (x : Ins) (gd : Fin 32) (esz : Fin 4) (hr : Runs x s) (hesz : esz.val < 3)
    (hgd : ((s.core x.core).reg .g gd).p = false) :
    Answers (.vinc x gd esz) s fun u => Done x 4 [Rg.ZCR_VSTART x.core] s u ∧
      GWritten x gd ⟨((s.core x.core).reg .g gd).v + BitVec.ofNat 32 (64 / 2 ^ esz.val), false⟩ s u ∧
      u.getF (Rg.ZCR_VSTART x.core) Fd.ZCR_VSTART_vstart = 0 := by
  obtain ⟨body, hexec, hbody⟩ := exec_vinc_clean s x gd esz hesz hgd
  obtain ⟨hdone, hcore, hvstart⟩ := s.done_of_vend x body _ hr hbody
  refine ⟨_, hexec, hdone, ⟨?_, ?_, fun i hi => ?_⟩, hvstart⟩
  · rw [hcore, State.core_tickCore_same]; rfl
  · rw [hcore]; exact Core.reg_setReg_g_same ..
  · rw [hcore]; exact (Core.reg_setReg_g_other _ _ _ _ hi).trans (State.reg_tickCore ..)

/-- Settles O38: the predicate that VPLT writes whole gives its elements, and VINC adds their number. -/
theorem vectorsStripMine : Obligations.VectorsStripMine := by
  intro s x esz hr hesz k c n
  refine ⟨fun pd gs gt hgs hgt => ?_, fun gd hgd => vinc_adds_element_count s x gd esz hr hesz hgd⟩
  obtain ⟨u, hexec, hdone, hcore, hstatus, hvstart⟩ := vplt_sets_elements_below s x pd gs gt esz hr hesz hgs hgt
  intro below
  have hn : n ≤ 64 := Nat.div_le_self ..
  have hpred (j : Nat) : (u.core k).pred j = (c.setPred pd (pmake n below)).pred j := by rw [hcore]; rfl
  have helem (hpd : pd.val ≠ 0) (i : Nat) : ((u.core k).pred pd).getLsbD i = (decide (i < n) && below i) := by
    rw [hpred, Core.pred_setPred_same _ _ _ hpd, getLsbD_pmake n below hn]
  refine ⟨u, hexec, hdone, ?_, fun hpd i hi => ?_, fun hpd i hi => ?_, fun j hj => ?_, hstatus, hvstart⟩
  · rw [hcore]
  · rw [helem hpd]; simp [hi]
  · rw [helem hpd]; simp [show ¬ i < n by omega]
  · rw [hpred, Core.pred_setPred_other _ _ _ _ hj]

end Sys2Proof.Machine
end

section
/-! What a raise leaves in the recorder's input (R384, R393): the records that wait there stay, and that of the raise is among them where
its event is recorded and there is room. -/
namespace Sys2Proof.Machine

theorem Rep.mem_fifo_present {x : Rec} {r : Rep} (rec : Rec) (h : x ∈ r.wtr.fifo) : x ∈ (r.present rec).wtr.fifo := by
  unfold Rep.present Watchtower.presented
  split
  · exact h
  · simp only
    split
    · exact h
    · exact List.mem_append_left _ h

/-- A record presented while the recorder is enabled and its input has room waits there (R393). -/
theorem Rep.present_mem_fifo (r : Rep) (rec : Rec) (hon : getR r.regs Rg.WTR_CTRL Fd.WTR_CTRL_enable ≠ 0) (hroom : r.wtr.fifo.length < 8) :
    rec ∈ (r.present rec).wtr.fifo := by
  unfold Rep.present Watchtower.presented
  simp [hon, Nat.not_le.mpr hroom]

theorem Rep.mem_fifo_recordRaise {x : Rec} {r : Rep} (e : Raise) (h : x ∈ r.wtr.fifo) : x ∈ (r.recordRaise e).wtr.fifo := by
  unfold Rep.recordRaise
  split
  · exact Rep.mem_fifo_present _ h
  · exact h

/-- A posted notification leaves the records that wait, where what a lost one brings leaves them (R68). -/
theorem Rep.mem_fifo_post {x : Rec} {r : Rep} (lost : Rep → Rep) (n : Notif) (hlost : ∀ y : Rep, x ∈ y.wtr.fifo → x ∈ (lost y).wtr.fifo)
    (h : x ∈ r.wtr.fifo) : x ∈ (r.post lost n).wtr.fifo := by
  unfold Rep.post
  split
  · exact h
  · split
    · exact h
    · exact hlost _ h

@[simp] theorem Rep.wtr_mark (r : Rep) (e : Raise) : (r.mark e).wtr = r.wtr := rfl

@[simp] theorem Rep.wtr_message (r : Rep) (st en : Word) (e : Raise) : (r.message st en e).wtr = r.wtr := by
  unfold Rep.message
  split <;> rfl

@[simp] theorem Rep.regs_message (r : Rep) (st en : Word) (e : Raise) : (r.message st en e).regs = r.regs := by
  unfold Rep.message
  split <;> rfl

theorem Rep.mem_fifo_ringEntry {x : Rec} {r : Rep} (lost : Rep → Rep) (st : Word) (e : Raise)
    (hlost : ∀ y : Rep, x ∈ y.wtr.fifo → x ∈ (lost y).wtr.fifo) (h : x ∈ r.wtr.fifo) : x ∈ (r.ringEntry lost st e).wtr.fifo := by
  unfold Rep.ringEntry
  split
  · exact Rep.mem_fifo_post _ _ hlost h
  · exact h

/-- A raise keeps a record that waits already or that its own recording puts there (R384): the raises it brings with it do, when these
keep the records that wait. -/
theorem Rep.mem_fifo_raise_succ {x : Rec} {fuel : Nat} {r : Rep} {e : Raise}
    (hchain : ∀ (y : Rep) (e : Raise), x ∈ y.wtr.fifo → x ∈ (Rep.raise fuel y e).wtr.fifo)
    (h : x ∈ ((((r.mark e).message (rdR r.regs (Rg.EVT_STATUS (e.ev / 32))) (rdR r.regs (Rg.EVT_ENABLE (e.ev / 32))) e).ringEntry
      (fun y => Rep.raise fuel y ⟨385, 0xC000, 0, 0, 0, 0⟩) (rdR r.regs (Rg.EVT_STATUS (e.ev / 32))) e).recordRaise e).wtr.fifo) :
    x ∈ (Rep.raise (fuel + 1) r e).wtr.fifo := by
  have hite {c : Prop} [Decidable c] {y : Rep} (e : Raise) (hy : x ∈ y.wtr.fifo) :
      x ∈ (if c then Rep.raise fuel y e else y).wtr.fifo := by
    split
    · exact hchain y e hy
    · exact hy
  exact hite _ (hite _ h)

/-- The records that wait stay through a raise (R384, R393). -/
theorem Rep.mem_fifo_raise {x : Rec} (fuel : Nat) : ∀ (r : Rep) (e : Raise), x ∈ r.wtr.fifo → x ∈ (Rep.raise fuel r e).wtr.fifo := by
  induction fuel with
  | zero => exact fun _ _ h => h
  | succ fuel ih =>
    intro r e h
    exact Rep.mem_fifo_raise_succ ih (Rep.mem_fifo_recordRaise e (Rep.mem_fifo_ringEntry _ _ e (fun y => ih y _) (by simpa using h)))

theorem Rep.rdR_mark_other (r : Rep) (e : Raise) (a : Nat) (hst : a ≠ Rg.EVT_STATUS (e.ev / 32)) (hn : a ≠ Rg.EVT_RAISES) :
    rdR (r.mark e).regs a = rdR r.regs a := by
  unfold Rep.mark
  rw [rdR_stickR_other _ _ _ _ hn, rdR_wrR_other _ _ _ _ hst]

theorem bitW_and_ne_zero {w : Word} {b : Nat} (hb : b < 32) (h : w.getLsbD b = true) : w &&& bitW b ≠ 0 := by
  intro h0
  have hbit : (w &&& bitW b).getLsbD b = true := by simp [bitW, h, hb]
  simp [h0] at hbit

/-- A raise whose event is recorded puts its record into the recorder's input, where the recorder is enabled, its input has room, and the
event makes no entry in the notification ring (R384, R393). -/
theorem Rep.record_mem_fifo_raise (fuel : Nat) (r : Rep) (e : Raise) (g b : Nat) (hg : e.ev / 32 = g) (hb : e.ev % 32 = b) (h32 : g < 32)
    (hrec : (rdR r.regs (Rg.EVT_RECORD g)).getLsbD b = true) (hring : rdR r.regs (Rg.EVT_RING g) = 0)
    (hon : getR r.regs Rg.WTR_CTRL Fd.WTR_CTRL_enable ≠ 0) (hroom : r.wtr.fifo.length < 8) :
    mkRec (0x1000 + e.ev) e.src e.p0 e.p1 e.p2 e.p3 ∈ (Rep.raise (fuel + 1) r e).wtr.fifo := by
  subst hg hb
  refine Rep.mem_fifo_raise_succ (fun y e => Rep.mem_fifo_raise fuel y e) ?_
  generalize rdR r.regs (Rg.EVT_STATUS (e.ev / 32)) = st
  generalize rdR r.regs (Rg.EVT_ENABLE (e.ev / 32)) = en
  have hregs (a : Nat) (hst : a ≠ Rg.EVT_STATUS (e.ev / 32)) (hn : a ≠ Rg.EVT_RAISES) :
      rdR ((r.mark e).message st en e).regs a = rdR r.regs a := by
    rw [Rep.regs_message, Rep.rdR_mark_other r e a hst hn]
  have hring' : rdR ((r.mark e).message st en e).regs (Rg.EVT_RING (e.ev / 32)) = 0 := by
    rw [hregs _ (by unfold Rg.EVT_RING Rg.EVT_STATUS; omega) (by unfold Rg.EVT_RING Rg.EVT_RAISES; omega), hring]
  have hrec' : (rdR ((r.mark e).message st en e).regs (Rg.EVT_RECORD (e.ev / 32)) ||| daggers (e.ev / 32)) &&& bitW (e.ev % 32) ≠ 0 := by
    rw [hregs _ (by unfold Rg.EVT_RECORD Rg.EVT_STATUS; omega) (by unfold Rg.EVT_RECORD Rg.EVT_RAISES; omega)]
    exact bitW_and_ne_zero (Nat.mod_lt _ (by decide)) (by simp [hrec])
  have hon' : getR ((r.mark e).message st en e).regs Rg.WTR_CTRL Fd.WTR_CTRL_enable ≠ 0 := by
    rwa [getR, hregs _ (by unfold Rg.WTR_CTRL Rg.EVT_STATUS; omega) (by decide)]
  rw [Rep.ringEntry, if_neg (fun h => h.2 (by rw [hring']; exact BitVec.zero_and)), Rep.recordRaise, if_pos hrec']
  exact Rep.present_mem_fifo _ _ hon' (by simpa using hroom)

/-- As `Rep.record_mem_fifo_raise`, with the parameters as numbers. -/
theorem Rep.record_mem_fifo_fire (r : Rep) (ev src : Nat) (ps : List Nat) (g b : Nat) (hg : ev / 32 = g) (hb : ev % 32 = b) (h32 : g < 32)
    (hrec : (rdR r.regs (Rg.EVT_RECORD g)).getLsbD b = true) (hring : rdR r.regs (Rg.EVT_RING g) = 0)
    (hon : getR r.regs Rg.WTR_CTRL Fd.WTR_CTRL_enable ≠ 0) (hroom : r.wtr.fifo.length < 8) :
    mkRec (0x1000 + ev) src (BitVec.ofNat 32 (nth 0 ps 0)) (BitVec.ofNat 32 (nth 0 ps 1)) (BitVec.ofNat 32 (nth 0 ps 2))
      (BitVec.ofNat 32 (nth 0 ps 3)) ∈ (r.fire ev src ps).wtr.fifo :=
  Rep.record_mem_fifo_raise _ r ⟨ev, src, _, _, _, _⟩ g b hg hb h32 hrec hring hon hroom

end Sys2Proof.Machine
end

section
/-! A transmit timestamp that meets a full queue (R341). -/
namespace Sys2Proof.Machine
open Sys2Proof.Claims

/-- A stick counter saturates at an addition of one only from the value below its greatest (R385). -/
theorem turnedFull_stickR_one (m : SMap Word) (a : Nat) (h : rdR m a ≠ 0xFFFFFFFE) : turnedFull m (stickR m a 1) a = false := by
  have hlt := (rdR m a).isLt
  have hne : (rdR m a).toNat ≠ 0xFFFFFFFE := fun e => h (BitVec.eq_of_toNat_eq e)
  by_cases hfull : rdR m a = 0xFFFFFFFF
  · simp [turnedFull, hfull]
  · have hne' : (rdR m a).toNat ≠ 0xFFFFFFFF := fun e => hfull (BitVec.eq_of_toNat_eq e)
    have hafter : rdR (stickR m a 1) a ≠ 0xFFFFFFFF := by
      intro h
      have hval : (rdR (stickR m a 1) a).toNat = 0xFFFFFFFF := congrArg BitVec.toNat h
      rw [rdR_stickR_same, BitVec.toNat_ofNat] at hval
      omega
    rw [turnedFull, beq_false_of_ne hafter, Bool.and_false]

/-- A count that does not saturate its counter raises nothing (R385). -/
theorem Rep.bump_eq_of_not_turnedFull (r : Rep) (a n : Nat) (h : turnedFull r.regs (stickR r.regs a n) a = false) :
    r.bump a n = { r with regs := stickR r.regs a n } := by
  simp [Rep.bump, h]

/-- The report of a discarded timestamp (R341): the queue's overflow status, the count, and the event with the port and the identifier. -/
def Rep.stampDropped (r : Rep) (port ident : Nat) : Rep :=
  ({ r with regs := putR r.regs (Rg.BLF_TXTS_STATUS port) Fd.BLF_TXTS_STATUS_overflow 1 }.bump (Rg.BLF_TXTS_DROPPED port) 1).fire
    332 3 [port, ident]

/-- TX_TIMESTAMP at a full queue reports the discard and writes the queue back as it was (R341). -/
theorem exec_txTimestamp_full (s : State) (port : Fin 33) (ident : BitVec 16) (h : (s.blf.stamps port).length = 64) :
    exec (.txTimestamp port ident true false) s = .next { s.withRep (s.rep.stampDropped port ident.toNat) with
      blf := { s.blf with txts := Map.set [] s.blf.txts port (s.blf.stamps port) } } := by
  show execTxTimestamp port ident true false s = _
  simp [execTxTimestamp, txtsPush, h, Rep.stampDropped]

/-- Writing a queue back as it was leaves every queue. -/
theorem Belfry.stamps_rewrite (f : Belfry) (port p : Nat) :
    ({ f with txts := Map.set [] f.txts port (f.stamps port) } : Belfry).stamps p = f.stamps p := by
  simp only [Belfry.stamps, Map.get_set]
  split
  · next h => rw [h]
  · rfl

theorem txtsStatus_not_report (port : Fin 33) : ¬ reportReg (Rg.BLF_TXTS_STATUS port) :=
  not_report ((by decide : ∀ p : Fin 33, reportTest (Rg.BLF_TXTS_STATUS p) = false) port)

theorem txtsDropped_not_report (port : Fin 33) : ¬ reportReg (Rg.BLF_TXTS_DROPPED port) :=
  not_report ((by decide : ∀ p : Fin 33, reportTest (Rg.BLF_TXTS_DROPPED p) = false) port)

theorem groupOf_txtsDropped (port : Fin 33) : groupOf (Rg.BLF_TXTS_DROPPED port) = 10 :=
  (by decide : ∀ p : Fin 33, groupOf (Rg.BLF_TXTS_DROPPED p) = 10) port

theorem txtsStatus_ne_txtsDropped (p q : Nat) : Rg.BLF_TXTS_STATUS p ≠ Rg.BLF_TXTS_DROPPED q := by
  unfold Rg.BLF_TXTS_STATUS Rg.BLF_TXTS_DROPPED; omega

/-- The report of a discard, in the registers that no report changes: the port's overflow status and its count (R341). -/
theorem Rep.stampDropped_reg (r : Rep) (port : Fin 33) (ident a : Nat) (ha : ¬ reportReg a) :
    rdR (r.stampDropped port ident).regs a =
      if a = Rg.BLF_TXTS_DROPPED port then BitVec.ofNat 32 (min 0xFFFFFFFF ((rdR r.regs (Rg.BLF_TXTS_DROPPED port)).toNat + 1))
      else if a = Rg.BLF_TXTS_STATUS port then Fd.BLF_TXTS_STATUS_overflow.set (rdR r.regs a) 1 else rdR r.regs a := by
  unfold Rep.stampDropped
  rw [Rep.fire_reg _ _ _ _ (by decide) _ ha, Rep.bump_reg _ _ _ _ (by rw [groupOf_txtsDropped]; decide) ha]
  simp only [rdR_putR, if_neg (txtsStatus_ne_txtsDropped port port).symm]
  split
  · rfl
  · split
    · next h => rw [h]
    · rfl

/-- The report of a discard raises the timestamp-overflow event and no other (R341). -/
theorem Rep.stampDropped_events (r : Rep) (port : Fin 33) (ident g : Nat) (hg : g < 32) (h12 : g ≠ 12) :
    rdR (r.stampDropped port ident).regs (Rg.EVT_STATUS g) &&& 0x7FFFFFFF#32 =
      if g = 332 / 32 then (rdR r.regs (Rg.EVT_STATUS g) &&& 0x7FFFFFFF#32) ||| bitW (332 % 32)
      else rdR r.regs (Rg.EVT_STATUS g) &&& 0x7FFFFFFF#32 := by
  have hreport : reportReg (Rg.EVT_STATUS g) := .inl ⟨g, hg, rfl⟩
  have hdropped : Rg.BLF_TXTS_DROPPED port ≠ Rg.EVT_STATUS g := fun h => txtsDropped_not_report port (h ▸ hreport)
  have hstatus : Rg.EVT_STATUS g ≠ Rg.BLF_TXTS_STATUS port := fun h => txtsStatus_not_report port (h ▸ hreport)
  unfold Rep.stampDropped
  rw [Rep.fire_events _ _ _ _ (by decide) (by decide) g hg h12,
    Rep.bump_status _ _ _ (by rw [groupOf_txtsDropped]; decide) g hg h12 hdropped, rdR_putR, if_neg hstatus]

/-- The record of a discard waits in the recorder's input, where the event is recorded, makes no ring entry, and there is room (R341,
R384, R393). -/
theorem Rep.stampDropped_record (r : Rep) (port : Fin 33) (ident : Nat) (hrec : (rdR r.regs (Rg.EVT_RECORD 10)).getLsbD 12 = true)
    (hon : getR r.regs Rg.WTR_CTRL Fd.WTR_CTRL_enable ≠ 0) (hroom : r.wtr.fifo.length < 8) (hring : rdR r.regs (Rg.EVT_RING 10) = 0)
    (hcount : rdR r.regs (Rg.BLF_TXTS_DROPPED port) ≠ 0xFFFFFFFE) :
    mkRec (0x1000 + 332) 3 (BitVec.ofNat 32 port) (BitVec.ofNat 32 ident) 0 0 ∈ (r.stampDropped port ident).wtr.fifo := by
  have hsame (a : Nat) (ha : 0x20000B10000 ≤ a) : rdR (stickR (putR r.regs (Rg.BLF_TXTS_STATUS port) Fd.BLF_TXTS_STATUS_overflow 1)
      (Rg.BLF_TXTS_DROPPED port) 1) a = rdR r.regs a := by
    rw [rdR_stickR_other _ _ _ _ (by unfold Rg.BLF_TXTS_DROPPED; omega), rdR_putR, if_neg (by unfold Rg.BLF_TXTS_STATUS; omega)]
  unfold Rep.stampDropped
  rw [Rep.bump_eq_of_not_turnedFull]
  · refine Rep.record_mem_fifo_fire _ 332 3 _ 10 12 rfl rfl (by decide) ?_ ?_ ?_ hroom
    · exact (congrArg (BitVec.getLsbD · 12) (hsame (Rg.EVT_RECORD 10) (by decide))).trans hrec
    · exact (hsame (Rg.EVT_RING 10) (by decide)).trans hring
    · exact fun h => hon ((congrArg Fd.WTR_CTRL_enable.get (hsame Rg.WTR_CTRL (by decide))).symm.trans h)
  · refine turnedFull_stickR_one _ _ ?_
    rwa [rdR_putR, if_neg (txtsStatus_ne_txtsDropped port port).symm]

/-- Settles O48: a full queue is written back as it was, and what changes besides is the report of the discard. -/
theorem aFullTimestampQueueKeepsItsEntries : Obligations.AFullTimestampQueueKeepsItsEntries := by
  intro s port ident hfull
  have hexec := exec_txTimestamp_full s port ident hfull
  have hreg := s.rep.stampDropped_reg port ident.toNat
  have hevents := s.rep.stampDropped_events port ident.toNat
  have hrecord := s.rep.stampDropped_record port ident.toNat
  -- From here on the report is known by these facts only.
  generalize s.rep.stampDropped port ident.toNat = r at hexec hreg hevents hrecord
  refine ⟨_, hexec, s.blf.stamps_rewrite port, rfl, ?counted, hevents, ?overflow, ?quiet, rfl, ?recorded⟩
  case counted => exact (hreg _ (txtsDropped_not_report port)).trans (if_pos rfl)
  case overflow =>
    have hset : rdR r.regs (Rg.BLF_TXTS_STATUS port) = Fd.BLF_TXTS_STATUS_overflow.set (s.rd (Rg.BLF_TXTS_STATUS port)) 1 := by
      rw [hreg _ (txtsStatus_not_report port), if_neg (txtsStatus_ne_txtsDropped port port), if_pos rfl]
      rfl
    exact (congrArg Fd.BLF_TXTS_STATUS_overflow.get hset).trans (Fld.get_set_same _ _ _ (by decide))
  case quiet =>
    intro a ha hreport
    simp only [List.mem_cons, List.not_mem_nil, or_false, not_or] at ha
    exact (hreg a hreport).trans ((if_neg ha.2).trans (if_neg ha.1))
  case recorded =>
    intro hrec hon hroom hring hcount
    have henable : s.getF Rg.WTR_CTRL Fd.WTR_CTRL_enable = 1 := by simpa [State.flag] using hon
    exact ⟨_, hrecord hrec (fun h => absurd (henable.symm.trans h) (by decide)) hroom hring hcount, rfl, rfl, rfl⟩

end Sys2Proof.Machine
end
